-- ==== Sys2Proof/Word.lean ====
section
/-! DEFINITION. The word types of the ZL8840 (R8: registers are 32 bits; R47: bytes are stored
little-endian) and their plainest arithmetic. -/

namespace Sys2Proof

/-- A register of the part (R8). -/
abbrev Word := BitVec 32
/-- A byte of memory. -/
abbrev Byte := BitVec 8
/-- The 16 check bits, or a syndrome, of a 144/128 code word (R503). -/
abbrev Syn := BitVec 16
/-- A sparse map: key and value pairs. An unlisted key reads the default its reader names. -/
abbrev SMap (α : Type) := List (Nat × α)

end Sys2Proof
end

