-- ==== Sys2Proof/Syntax.lean ====
section
/-! DEFINITION. The commands the part takes: one constructor of `Instr` for each row of the table of operations
and events, with the operands it carries. Where a command's effect depends on what stands outside the part (a
sensor's reading, a peer's packet, the host's answer), that is an operand. -/

namespace Sys2Proof

/-- Who makes a request (R9): a PCIe request with its requester ID and PASID, a host core, or the warden. -/
inductive Requester where
  | pcie (rid : BitVec 16) (pasid : Option (BitVec 20))
  | core (hart : Fin 32)
  | warden
  deriving DecidableEq, Repr

/-- The port slot of a bundle (R129). -/
structure PortSlot where
  pop  : BitVec 3
  ag   : BitVec 3
  row  : BitVec 12
  arg  : BitVec 6
  clr  : Bool
  swap : Bool
  sr   : Bool
  nr   : BitVec 2
  deriving DecidableEq, Repr

/-- The vector slot of a bundle (R129), with `VSR` of word 3 (R130). -/
structure VecSlot where
  op   : BitVec 8
  vd   : BitVec 5
  va   : BitVec 5
  vb   : BitVec 5
  mreg : BitVec 3
  men  : Bool
  fmt  : BitVec 5
  vsr  : Bool
  deriving DecidableEq, Repr

/-- The fields of a MOVER record (R126). -/
structure MoverRec where
  op     : BitVec 4
  fop    : BitVec 8
  laddr  : BitVec 20
  len    : BitVec 32
  remote : BitVec 64
  keyidx : BitVec 8
  mgroup : BitVec 8
  deriving DecidableEq, Repr

/-- What goes wrong on a read's way to its tier (R204, R206): the address whose command's parity retries are exhausted, and the tier-B
controller whose link ECC corrects an error of the transfer. -/
structure ReadTrouble where
  fail : Option (Bool × BitVec 40)
  link : Option (Fin 16)
  deriving DecidableEq, Repr

/-- A Dravsel packet (R368): its header fields and its body, each byte with the mark of its code word. -/
structure Packet where
  typ    : Nat
  op     : Nat
  fop    : Nat
  flow   : Nat
  hops   : Nat
  staged : Bool
  tc0    : Bool
  seq    : Nat
  src    : Nat
  dst    : Nat
  mask   : Nat
  epoch  : Nat
  addr   : Nat
  key    : Nat
  step   : Nat
  mgroup : Nat
  code   : Nat
  body   : List (Byte × Bool)
  deriving DecidableEq, Repr

/-- The operands of an M-slot instruction of a lane bundle (R249): accumulator, operand registers and halves. -/
structure LaneMul where
  acc : BitVec 2
  va  : BitVec 6
  vb  : BitVec 6
  ha  : Bool
  hb  : Bool
  deriving DecidableEq, Repr

/-- The operands of an A-slot instruction (R254). -/
structure LaneAlu where
  vd  : BitVec 6
  va  : BitVec 6
  vb  : BitVec 6
  imm : BitVec 8
  deriving DecidableEq, Repr

/-- The operands of an L-slot access (R258). -/
structure LaneMem where
  vr  : BitVec 6
  ar  : BitVec 3
  mr  : BitVec 3
  win : BitVec 3
  sz  : BitVec 2
  pm  : Bool
  deriving DecidableEq, Repr

/-- The operands of `LOOP` and `LOOP1` (R263). -/
structure LaneLoopOp where
  lc    : BitVec 2
  wrap  : Bool
  rot   : Bool
  rsz   : BitVec 2
  count : BitVec 16
  deriving DecidableEq, Repr

/-- A read or a write of memory. -/
inductive Access where
  | read (len : Nat)
  | write (data : List Byte)
  deriving DecidableEq, Repr

/-- What the host answers to a read: nothing, Unsupported Request or Completer Abort, or data (R454, R456). -/
inductive HostAns where
  | silent
  | abort
  | data (d : List Byte)
  deriving DecidableEq, Repr

/-- An entry of the MSI-X table in BAR 4 (R452). -/
structure MsixEntry where
  addr   : BitVec 64
  data   : Word
  masked : Bool
  deriving DecidableEq, Repr

/-- The switches of the function's configuration space that the part acts on (R451, R456). -/
structure FnConfig where
  bme     : Bool
  d3hot   : Bool
  msixEn  : Bool
  msixMask : Bool
  atsEn   : Bool
  /-- The completion timeout value of Device Control 2. -/
  timeout : BitVec 4
  deriving DecidableEq, Repr

/-- The card's configuration, which the warden reads from the boot flash (R477, R529). -/
structure CardConfig where
  /-- Main power starts at always-on power-up. -/
  autoOn   : Bool
  /-- The boot source: `true` is HOST. -/
  bootHost : Bool
  node     : BitVec 6
  salEn    : Bool
  beaconEn : Bool
  wardenEpoch : Bool
  mgmtNode : BitVec 6
  cmdNodes : BitVec 64
  /-- `REF_FREQ` of the time PLL (R433). -/
  refFreq  : BitVec 2
  /-- How many regulators the card has (R471). -/
  regs     : Fin 17
  subVendor : BitVec 16
  subId    : BitVec 16
  deriving DecidableEq, Repr

/-- What a Salet frame received whole carries (R481, R482, R494): its bus, source and destination, the loading version,
whether its FCS is correct, the two sequence numbers, and the body. -/
structure SalFrame where
  busB  : Bool
  src   : BitVec 6
  dst   : BitVec 6
  bcast : Bool
  lver  : BitVec 8
  fcsOk : Bool
  mseq  : BitVec 16
  aseq  : BitVec 16
  body  : List Byte
  deriving DecidableEq, Repr

/-- A phase-locked loop other than the time PLL (R537). -/
inductive Pll where
  | tclk (d : Fin 4)
  | hclk
  | bclk
  | cclk
  /-- The SerDes PLL of an Ethernet quad. -/
  | quad (q : Fin 8)
  /-- The SerDes PLL of a Dravsel port. -/
  | drv (p : Fin 12)
  | pcie
  deriving DecidableEq, Repr

/-- Where an eye is measured (R523). -/
inductive EyeSite where
  | drv (p : Fin 12)
  | eth (p : Fin 32)
  | pcie
  deriving DecidableEq, Repr

/-- An IEEE 1149.1 instruction (R6). -/
inductive TapInstr where
  | bypass | idcode | sample | extest | clamp | highz
  deriving DecidableEq, Repr

/-- A command: one constructor for each row of the table, in its order. -/
inductive Instr where
  /-- `REGISTER_WRITE` (R10). -/
  | registerWrite (who : Requester) (off : BitVec 28) (size : BitVec 13) (v : Word)
  /-- `LOW_WORD_READ` (R9). -/
  | lowWordRead (who : Requester) (off : BitVec 28) (size : BitVec 13)
  /-- `COUNTER_SATURATION` (R15). -/
  | counterSaturation (key : BitVec 32)
  /-- `PASID_BAR0_REQUEST` (R40). -/
  | pasidBar0Request (rid : BitVec 16) (pasid : BitVec 20) (off : BitVec 28) (size : BitVec 13) (v : Option Word)
  /-- `TILE_BUNDLE_ISSUE` (R130). -/
  | tileBundleIssue (t : Fin 1024)
  /-- `ACT` (R129). -/
  | act (t : Fin 1024) (p : PortSlot)
  /-- `WLD` (R77). -/
  | wld (t : Fin 1024) (p : PortSlot)
  /-- `DRN` (R79). -/
  | drn (t : Fin 1024) (p : PortSlot)
  /-- `VLD` (R129). -/
  | vld (t : Fin 1024) (p : PortSlot)
  /-- `VST` (R129). -/
  | vst (t : Fin 1024) (p : PortSlot)
  /-- `MOUT` (R121). -/
  | mout (t : Fin 1024) (p : PortSlot)
  /-- `MIN` (R151). -/
  | min (t : Fin 1024) (p : PortSlot)
  /-- `LOOP_BEGIN` (R130). -/
  | loopBegin (t : Fin 1024) (lc : Fin 4) (count : BitVec 16)
  /-- `LOOP_END` (R130). -/
  | loopEnd (t : Fin 1024) (lc : Fin 4)
  /-- `VNOP` (R131). -/
  | vnop (t : Fin 1024) (v : VecSlot)
  /-- `FADD` (R131). -/
  | fadd (t : Fin 1024) (v : VecSlot)
  /-- `FSUB` (R131). -/
  | fsub (t : Fin 1024) (v : VecSlot)
  /-- `FMUL` (R131). -/
  | fmul (t : Fin 1024) (v : VecSlot)
  /-- `FFMA` (R131). -/
  | ffma (t : Fin 1024) (v : VecSlot)
  /-- `FMIN` (R567). -/
  | fmin (t : Fin 1024) (v : VecSlot)
  /-- `FMAX` (R567). -/
  | fmax (t : Fin 1024) (v : VecSlot)
  /-- `FABS` (R567). -/
  | fabs (t : Fin 1024) (v : VecSlot)
  /-- `FNEG` (R567). -/
  | fneg (t : Fin 1024) (v : VecSlot)
  /-- `FCLT` (R567). -/
  | fclt (t : Fin 1024) (v : VecSlot)
  /-- `FCLE` (R567). -/
  | fcle (t : Fin 1024) (v : VecSlot)
  /-- `FCEQ` (R567). -/
  | fceq (t : Fin 1024) (v : VecSlot)
  /-- `SEL` (R131). -/
  | sel (t : Fin 1024) (v : VecSlot)
  /-- `IADD` (R567). -/
  | iadd (t : Fin 1024) (v : VecSlot)
  /-- `ISUB` (R567). -/
  | isub (t : Fin 1024) (v : VecSlot)
  /-- `IMUL` (R567). -/
  | imul (t : Fin 1024) (v : VecSlot)
  /-- `IAND` (R131). -/
  | iand (t : Fin 1024) (v : VecSlot)
  /-- `IOR` (R131). -/
  | ior (t : Fin 1024) (v : VecSlot)
  /-- `IXOR` (R131). -/
  | ixor (t : Fin 1024) (v : VecSlot)
  /-- `ISHL` (R567). -/
  | ishl (t : Fin 1024) (v : VecSlot)
  /-- `ISRA` (R567). -/
  | isra (t : Fin 1024) (v : VecSlot)
  /-- `ISRL` (R567). -/
  | isrl (t : Fin 1024) (v : VecSlot)
  /-- `IMIN` (R567). -/
  | imin (t : Fin 1024) (v : VecSlot)
  /-- `IMAX` (R567). -/
  | imax (t : Fin 1024) (v : VecSlot)
  /-- `ICLT` (R567). -/
  | iclt (t : Fin 1024) (v : VecSlot)
  /-- `ICEQ` (R567). -/
  | iceq (t : Fin 1024) (v : VecSlot)
  /-- `FDIV` (R86). -/
  | fdiv (t : Fin 1024) (v : VecSlot)
  /-- `FSQRT` (R86). -/
  | fsqrt (t : Fin 1024) (v : VecSlot)
  /-- `FRCP` (R86). -/
  | frcp (t : Fin 1024) (v : VecSlot)
  /-- `FRSQ` (R86). -/
  | frsq (t : Fin 1024) (v : VecSlot)
  /-- `FEXP2` (R86). -/
  | fexp2 (t : Fin 1024) (v : VecSlot)
  /-- `FEXP` (R86). -/
  | fexp (t : Fin 1024) (v : VecSlot)
  /-- `FLOG2` (R86). -/
  | flog2 (t : Fin 1024) (v : VecSlot)
  /-- `FLOG` (R86). -/
  | flog (t : Fin 1024) (v : VecSlot)
  /-- `FTANH` (R86). -/
  | ftanh (t : Fin 1024) (v : VecSlot)
  /-- `FSIGM` (R86). -/
  | fsigm (t : Fin 1024) (v : VecSlot)
  /-- `FSIN` (R86). -/
  | fsin (t : Fin 1024) (v : VecSlot)
  /-- `FCOS` (R86). -/
  | fcos (t : Fin 1024) (v : VecSlot)
  /-- `RSUM` (R569). -/
  | rsum (t : Fin 1024) (v : VecSlot)
  /-- `RMAX` (R569). -/
  | rmax (t : Fin 1024) (v : VecSlot)
  /-- `RMIN` (R569). -/
  | rmin (t : Fin 1024) (v : VecSlot)
  /-- `RMAXI` (R569). -/
  | rmaxi (t : Fin 1024) (v : VecSlot)
  /-- `RMINI` (R569). -/
  | rmini (t : Fin 1024) (v : VecSlot)
  /-- `PERM` (R127). -/
  | perm (t : Fin 1024) (v : VecSlot)
  /-- `CVT_TO` (R568). -/
  | cvtTo (t : Fin 1024) (v : VecSlot)
  /-- `CVT_FROM` (R568). -/
  | cvtFrom (t : Fin 1024) (v : VecSlot)
  /-- `QBLK` (R51). -/
  | qblk (t : Fin 1024) (v : VecSlot)
  /-- `DQBLK` (R568). -/
  | dqblk (t : Fin 1024) (v : VecSlot)
  /-- `CVT_TO_T` (R568). -/
  | cvtToT (t : Fin 1024) (v : VecSlot)
  /-- `CVT_FROM_T` (R568). -/
  | cvtFromT (t : Fin 1024) (v : VecSlot)
  /-- `ACCRD` (R79). -/
  | accrd (t : Fin 1024) (v : VecSlot)
  /-- `VMOV` (R131). -/
  | vmov (t : Fin 1024) (v : VecSlot)
  /-- `COPY` (R93). -/
  | copy (t : Fin 1024) (d : MoverRec)
  /-- `TILE_RD` (R93). -/
  | tileRd (t : Fin 1024) (d : MoverRec)
  /-- `TILE_WR` (R93). -/
  | tileWr (t : Fin 1024) (d : MoverRec)
  /-- `TIER_RD` (R93). -/
  | tierRd (t : Fin 1024) (d : MoverRec)
  /-- `TIER_WR` (R164). -/
  | tierWr (t : Fin 1024) (d : MoverRec)
  /-- `KV_RD` (R219). -/
  | kvRd (t : Fin 1024) (d : MoverRec)
  /-- `KV_WR` (R218). -/
  | kvWr (t : Fin 1024) (d : MoverRec)
  /-- `FAB_RD` (R93). -/
  | fabRd (t : Fin 1024) (d : MoverRec)
  /-- `FAB_WR` (R164). -/
  | fabWr (t : Fin 1024) (d : MoverRec)
  /-- `FAB_RED` (R374). -/
  | fabRed (t : Fin 1024) (d : MoverRec)
  /-- `FAB_MCAST` (R378). -/
  | fabMcast (t : Fin 1024) (d : MoverRec)
  /-- `FAB_ATOM` (R377). -/
  | fabAtom (t : Fin 1024) (d : MoverRec)
  /-- `FENCE` (R93). -/
  | fence (t : Fin 1024) (d : MoverRec)
  /-- `CONTEXT_TAKE_OP` (R94). -/
  | contextTakeOp (t : Fin 1024) (c : Fin 16)
  /-- `MOVER_REQUEST_ISSUE` (R94). -/
  | moverRequestIssue (t : Fin 1024)
  /-- `MOVER_REPLY` (R94). -/
  | moverReply (t : Fin 1024) (c k : Fin 16)
  /-- `MOVER_OP_DONE` (R96). -/
  | moverOpDone (t : Fin 1024) (c : Fin 16)
  /-- `TILE_INCOMING_ACCESS` (R94). -/
  | tileIncomingAccess (t : Fin 1024) (c k : Fin 16)
  /-- `SPAD_BIST_CHUNK` (R101). -/
  | spadBistChunk (t : Fin 1024) (fails : BitVec 16)
  /-- `HW_CLR` (R96). -/
  | hwClr
  /-- `TIL_BIST_RESTART` (R101). -/
  | tilBistRestart
  /-- `REPAIR_MAP_WRITE` (R106). -/
  | repairMapWrite (n : Fin 16) (v : Word)
  /-- `TILE_INJECT_ARM` (R107). -/
  | tileInjectArm (v : Word)
  /-- `RADIO_GROUPS_WRITE` (R105). -/
  | radioGroupsWrite (hi : Bool) (v : Word)
  /-- `LOAD_START` (R141). -/
  | loadStart
  /-- `LOAD_FETCH_DONE` (R141). -/
  | loadFetchDone (ok : Bool) (host : List Byte)
  /-- `SIGNATURE_ANSWER` (R139). -/
  | signatureAnswer (good : Bool)
  /-- `SIG_TIMEOUT` (R139). -/
  | sigTimeout
  /-- `LOAD_WRITE_DONE` (R143). -/
  | loadWriteDone (ok : Bool)
  /-- `LOAD_ACT` (R143). -/
  | loadAct
  /-- `LOAD_ABORT` (R144). -/
  | loadAbort
  /-- `UNLOAD` (R145). -/
  | unload
  /-- `PARTIAL_RELOAD_SWITCH` (R147). -/
  | partialReloadSwitch (ok : Bool)
  /-- `STEP_RELEASE` (R161). -/
  | stepRelease (sl : Fin 64) (cons : Word)
  /-- `SEGMENT_BEGIN` (R154). -/
  | segmentBegin (g : Fin 64) (radio : Bool)
  /-- `SEGMENT_END` (R153). -/
  | segmentEnd (g : Fin 64) (radio : Bool)
  /-- `SELECTOR_RESOLVE` (R135). -/
  | selectorResolve (sl i : Fin 64)
  /-- `STEP_END` (R155). -/
  | stepEnd (sl : Fin 64)
  /-- `STEP_COMMIT` (R169). -/
  | stepCommit (sl : Fin 64)
  /-- `STAGED_WRITE_RETRY` (R167). -/
  | stagedWriteRetry (t : Fin 1024) (c k : Fin 16)
  /-- `DRAIN_COMMITTED_LINE` (R190). -/
  | drainCommittedLine (sl : Fin 64)
  /-- `PROGRESS_TIMER_EXPIRY` (R174). -/
  | progressTimerExpiry (sl : Fin 64)
  /-- `RUN` (R160). -/
  | run (sl : Fin 64) (v : Bool)
  /-- `RETRY` (R171). -/
  | retry (sl : Fin 64)
  /-- `CREDIT_WRITE` (R161). -/
  | creditWrite (sl : Fin 64) (v : Word)
  /-- `XT_WRITE` (R184). -/
  | xtWrite (i : Fin 4224) (v : Word)
  /-- `TIER_READ_REQUEST` (R166). -/
  | tierReadRequest (t : Fin 1024) (c k : Fin 16) (fail : ReadTrouble)
  /-- `TIER_WRITE_REQUEST` (R190). -/
  | tierWriteRequest (t : Fin 1024) (c k : Fin 16)
  /-- `REFRESH_DUE` (R192). -/
  | refreshDue (ctrl : Fin 24) (bank : Fin 1024) (tc0 : Bool)
  /-- `HBM_TEMP_READ` (R203). -/
  | hbmTempRead (k : Fin 8) (v : BitVec 8)
  /-- `LP5X_RATE_READ` (R203). -/
  | lp5xRateRead (k : Fin 16) (v : BitVec 3)
  /-- `SCRUB_READ` (R204). -/
  | scrubRead (tierB : Bool) (w : BitVec 36)
  /-- `TIER_INIT_COMPLETE` (R202). -/
  | tierInitComplete (tierB : Bool) (dead : BitVec 16)
  /-- `SUBMIT` (R198). -/
  | submit
  /-- `PAGE_MOVER_MOVE` (R199). -/
  | pageMoverMove
  /-- `PAGE_MOVER_COPY` (R200). -/
  | pageMoverCopy
  /-- `PAGE_MOVER_ZERO` (R200). -/
  | pageMoverZero
  /-- `PAGE_MOVER_COMPLETE` (R201). -/
  | pageMoverComplete
  /-- `TC0_PEAK_CLR` (R28). -/
  | tc0PeakClr (d : Fin 4)
  /-- `MEM_INJECT_ARM` (R208). -/
  | memInjectArm (v : Word)
  /-- `OPEN` (R236). -/
  | openStream (sl : Fin 64) (sid : BitVec 20) (tag : Word) (host : List Byte) (cons : Word)
  /-- `SETPARAM` (R236). -/
  | setparam (sl : Fin 64) (sid : BitVec 20) (tag : Word) (host : List Byte) (cons : Word)
  /-- `APPEND` (R236). -/
  | append (sl : Fin 64) (sid : BitVec 20) (tag val : Word) (host : List Byte) (cons : Word)
  /-- `CLOSE` (R236). -/
  | close (sl : Fin 64) (sid : BitVec 20) (tag : Word) (cons : Word)
  /-- `CLEAR` (R236). -/
  | clear (sl : Fin 64) (sid : BitVec 20) (tag : Word) (cons : Word)
  /-- `TRUNCATE` (R238). -/
  | truncate (sl : Fin 64) (sid : BitVec 20) (tag val : Word) (cons : Word)
  /-- `BATCH` (R236). -/
  | batch (sl : Fin 64) (sid : BitVec 20) (tag val : Word) (cons : Word)
  /-- `DEMOTE` (R220). -/
  | demote (sl : Fin 64) (sid : BitVec 20) (tag : Word) (cons : Word)
  /-- `PROMOTE` (R220). -/
  | promote (sl : Fin 64) (sid : BitVec 20) (tag : Word) (cons : Word)
  /-- `RESIZE` (R236). -/
  | resize (sl : Fin 64) (sid : BitVec 20) (tag : Word) (host : List Byte) (cons : Word)
  /-- `FREE_A` (R217). -/
  | freeA (sl : Fin 64) (tag val : Word) (host : List Byte) (cons : Word)
  /-- `FREE_B` (R217). -/
  | freeB (sl : Fin 64) (tag val : Word) (host : List Byte) (cons : Word)
  /-- `EMIT` (R234). -/
  | emit (sl op : Fin 64)
  /-- `DRAFT` (R233). -/
  | draft (sl op : Fin 64)
  /-- `ARGMAX` (R230). -/
  | argmax (sl op : Fin 64)
  /-- `ARGMIN` (R230). -/
  | argmin (sl op : Fin 64)
  /-- `STREAM_ENABLE` (R242). -/
  | streamEnable (sl : Fin 64) (en : Bool)
  /-- `LANE_BUNDLE_ISSUE` (R246). -/
  | laneBundleIssue (c : Fin 128)
  /-- `MPY` (R250). -/
  | mpy (c : Fin 128) (m : LaneMul)
  /-- `MAC` (R250). -/
  | mac (c : Fin 128) (m : LaneMul)
  /-- `MSU` (R250). -/
  | msu (c : Fin 128) (m : LaneMul)
  /-- `CMPY` (R252). -/
  | cmpy (c : Fin 128) (m : LaneMul)
  /-- `CMAC` (R252). -/
  | cmac (c : Fin 128) (m : LaneMul)
  /-- `CMACJ` (R252). -/
  | cmacj (c : Fin 128) (m : LaneMul)
  /-- `ACLR` (R253). -/
  | aclr (c : Fin 128) (m : LaneMul)
  /-- `ADD` (R254). -/
  | add (c : Fin 128) (a : LaneAlu)
  /-- `SUB` (R254). -/
  | sub (c : Fin 128) (a : LaneAlu)
  /-- `AND` (R254). -/
  | and (c : Fin 128) (a : LaneAlu)
  /-- `OR` (R254). -/
  | or (c : Fin 128) (a : LaneAlu)
  /-- `XOR` (R254). -/
  | xor (c : Fin 128) (a : LaneAlu)
  /-- `SHL` (R254). -/
  | shl (c : Fin 128) (a : LaneAlu)
  /-- `SHRA` (R254). -/
  | shra (c : Fin 128) (a : LaneAlu)
  /-- `SHRL` (R254). -/
  | shrl (c : Fin 128) (a : LaneAlu)
  /-- `MOVI` (R254). -/
  | movi (c : Fin 128) (a : LaneAlu)
  /-- `MOVH` (R254). -/
  | movh (c : Fin 128) (a : LaneAlu)
  /-- `LANE_MAX` (R254). -/
  | laneMax (c : Fin 128) (a : LaneAlu)
  /-- `LANE_MIN` (R254). -/
  | laneMin (c : Fin 128) (a : LaneAlu)
  /-- `MAXI` (R256). -/
  | maxi (c : Fin 128) (a : LaneAlu)
  /-- `MINI` (R256). -/
  | mini (c : Fin 128) (a : LaneAlu)
  /-- `CADD` (R254). -/
  | cadd (c : Fin 128) (a : LaneAlu)
  /-- `CSUB` (R254). -/
  | csub (c : Fin 128) (a : LaneAlu)
  /-- `SHC` (R254). -/
  | shc (c : Fin 128) (a : LaneAlu)
  /-- `NRM` (R255). -/
  | nrm (c : Fin 128) (a : LaneAlu)
  /-- `NRMC` (R255). -/
  | nrmc (c : Fin 128) (a : LaneAlu)
  /-- `EXTH` (R254). -/
  | exth (c : Fin 128) (a : LaneAlu)
  /-- `EXTC` (R254). -/
  | extc (c : Fin 128) (a : LaneAlu)
  /-- `EXTW` (R254). -/
  | extw (c : Fin 128) (a : LaneAlu)
  /-- `XCH` (R257). -/
  | xch (c : Fin 128) (a : LaneAlu)
  /-- `MOV` (R254). -/
  | mov (c : Fin 128) (a : LaneAlu)
  /-- `RDF` (R254). -/
  | rdf (c : Fin 128) (a : LaneAlu)
  /-- `LD` (R259). -/
  | ld (c : Fin 128) (o : LaneMem)
  /-- `ST` (R261). -/
  | st (c : Fin 128) (o : LaneMem)
  /-- `AADD` (R262). -/
  | aadd (c : Fin 128) (o : LaneMem)
  /-- `ASWP` (R262). -/
  | aswp (c : Fin 128) (o : LaneMem)
  /-- `AMOD` (R260). -/
  | amod (c : Fin 128) (o : LaneMem)
  /-- `SETI` (R258). -/
  | seti (c : Fin 128) (m : Bool) (i : Fin 8) (imm : BitVec 16)
  /-- `MOVR` (R258). -/
  | movr (c : Fin 128) (vr : BitVec 6) (kind : BitVec 2) (i : Fin 8)
  /-- `MOVV` (R258). -/
  | movv (c : Fin 128) (vr : BitVec 6) (kind : BitVec 2) (i : Fin 8)
  /-- `LOOP` (R264). -/
  | loop (c : Fin 128) (o : LaneLoopOp)
  /-- `ENDL` (R264). -/
  | endl (c : Fin 128) (lc : Fin 4)
  /-- `LOOP1` (R264). -/
  | loop1 (c : Fin 128) (o : LaneLoopOp)
  /-- `HALT` (R245). -/
  | halt (c : Fin 128)
  /-- `WAIT` (R265). -/
  | wait (c : Fin 128) (ev : Fin 64)
  /-- `POST` (R282). -/
  | post (c : Fin 128) (ev : Fin 64)
  /-- `CLRF` (R265). -/
  | clrf (c : Fin 128)
  /-- `TASK_END` (R245). -/
  | taskEnd (c : Fin 128)
  /-- `TASK_START` (R280). -/
  | taskStart (c : Fin 128)
  /-- `TASK_START_WRITE` (R280). -/
  | taskStartWrite (v : Word)
  /-- `POST_START` (R282). -/
  | postStart (c : Fin 128)
  /-- `POST_SET` (R282). -/
  | postSet (c : Fin 128)
  /-- `POST_KICK` (R282). -/
  | postKick (c : Fin 128)
  /-- `POST_ARM` (R299). -/
  | postArm (c : Fin 128)
  /-- `POST_NOTIFY` (R302). -/
  | postNotify (c : Fin 128)
  /-- `EV_SET` (R281). -/
  | evSet (v : Word)
  /-- `CLAIM` (R270). -/
  | claim (l : Fin 64) (v : Word)
  /-- `RELEASE` (R270). -/
  | release (l : Fin 64) (v : Word)
  /-- `BANK_RELEASE_DONE` (R270). -/
  | bankReleaseDone (c : Fin 128) (l : Fin 64)
  /-- `SEAL` (R271). -/
  | seal (l : Fin 64) (v : Word)
  /-- `BANK_WIPE` (R271). -/
  | bankWipe (c : Fin 128) (l : Fin 64)
  /-- `BANK_BIST_CHUNK` (R274). -/
  | bankBistChunk (c : Fin 128) (fails : BitVec 256)
  /-- `BANK_REPAIR_WRITE` (R275). -/
  | bankRepairWrite (j : Fin 512) (v : Word)
  /-- `BBA_BIST_RESTART` (R274). -/
  | bbaBistRestart
  /-- `FAULT_CLR` (R243). -/
  | faultClr
  /-- `LANE_INJECT_ARM` (R277). -/
  | laneInjectArm (v : Word)
  /-- `CLUSTER_POWER_OFF` (R283). -/
  | clusterPowerOff (c : Fin 128)
  /-- `HQ_ENABLE` (R285). -/
  | hqEnable (q : Fin 64) (v : Word)
  /-- `NOP` (R286). -/
  | nop (q : Fin 64)
  /-- `DMA` (R288). -/
  | dma (q : Fin 64)
  /-- `FFT` (R289). -/
  | fft (q : Fin 64)
  /-- `LDPC_DEC` (R290). -/
  | ldpcDec (q : Fin 64)
  /-- `LDPC_ENC` (R290). -/
  | ldpcEnc (q : Fin 64)
  /-- `POLAR_DEC` (R291). -/
  | polarDec (q : Fin 64)
  /-- `POLAR_ENC` (R291). -/
  | polarEnc (q : Fin 64)
  /-- `EXPAND` (R292). -/
  | expand (q : Fin 64)
  /-- `COMPRESS` (R292). -/
  | compress (q : Fin 64)
  /-- `FH_TX` (R297). -/
  | fhTx (q : Fin 64)
  /-- `HELPER_COMPLETION` (R287). -/
  | helperCompletion (q : Fin 64) (k : Nat)
  /-- `FH_SYMBOL_COMPLETE` (R295). -/
  | fhSymbolComplete (i : Fin 4096) (g : Nat)
  /-- `FH_TX_LAUNCH` (R298). -/
  | fhTxLaunch (q : Fin 128) (ph : Fin 8)
  /-- `STAGE_OUTCOME` (R300). -/
  | stageOutcome (st : Fin 256)
  /-- `PROG_START` (R304). -/
  | progStart (ok : Bool) (host : List Byte) (sig : Bool)
  /-- `PROG_LOAD_DONE` (R304). -/
  | progLoadDone
  /-- `CREATE` (R311). -/
  | create (sl : Fin 64)
  /-- `DESTROY` (R323). -/
  | destroy (sl : Fin 64)
  /-- `SLICE_FREE` (R323). -/
  | sliceFree (sl : Fin 64)
  /-- `EXPORT` (R329). -/
  | exportSlice (sl : Fin 64)
  /-- `IMPORT` (R329). -/
  | importSlice (sl : Fin 64)
  /-- `MBX_REQ_PROD` (R319). -/
  | mbxReqProd (sl : Fin 64) (v : Word)
  /-- `MBX_RSP_CONS` (R318). -/
  | mbxRspCons (sl : Fin 64) (v : Word)
  /-- `STM_CMD_PROD` (R318). -/
  | stmCmdProd (sl : Fin 64) (v : Word)
  /-- `HQ_PROD` (R285). -/
  | hqProd (sl q : Fin 64) (v : Word)
  /-- `ETX_PROD` (R413). -/
  | etxProd (sl : Fin 64) (j : Fin 256) (v : Word)
  /-- `ERX_PROD` (R413). -/
  | erxProd (sl : Fin 64) (j : Fin 256) (v : Word)
  /-- `MBX_RSP_PROD_WRITE` (R319). -/
  | mbxRspProdWrite (sl : Fin 64) (v : Word)
  /-- `LOG_ENABLE` (R327). -/
  | logEnable (k : Fin 4) (v : Word)
  /-- `SWAP` (R327). -/
  | swap (k : Fin 4)
  /-- `SWAP_DONE` (R327). -/
  | swapDone (k : Fin 4)
  /-- `CYCLIC_WINDOW_START` (R333). -/
  | cyclicWindowStart
  /-- `GROUP_RETURN` (R341). -/
  | groupReturn (g : Fin 64)
  /-- `SWITCH` (R335). -/
  | switch
  /-- `CYC_EN` (R336). -/
  | cycEn (v : Bool)
  /-- `CYC_WIN_WRITE` (R331). -/
  | cycWinWrite (b : Fin 2) (j : Fin 1280) (w : Fin 8) (v : Word)
  /-- `SAVE` (R344). -/
  | save (sl : Fin 64)
  /-- `GROUP_SAVE_BEGIN` (R344). -/
  | groupSaveBegin (g : Fin 64)
  /-- `GROUP_SAVED` (R344). -/
  | groupSaved (g : Fin 64)
  /-- `RESTORE` (R347). -/
  | restore (sl : Fin 64)
  /-- `GROUP_RESTORED` (R347). -/
  | groupRestored (g : Fin 64)
  /-- `DRV_PORT_ENABLE` (R356). -/
  | drvPortEnable (p : Fin 12) (v : Word)
  /-- `RETRAIN` (R358). -/
  | retrain (p : Fin 12)
  /-- `DRV_PORT_TRAINED` (R356). -/
  | drvPortTrained (p : Fin 12) (dev : Fin 4096) (port : Fin 16)
  /-- `DRV_TRAIN_TIMEOUT` (R356). -/
  | drvTrainTimeout (p : Fin 12)
  /-- `DRV_AUTO_RETRY` (R356). -/
  | drvAutoRetry (p : Fin 12)
  /-- `DRV_PORT_DOWN` (R357). -/
  | drvPortDown (p : Fin 12)
  /-- `DRV_SILENCE_TIMEOUT` (R357). -/
  | drvSilenceTimeout (p : Fin 12)
  /-- `LINK_RETRY` (R354). -/
  | linkRetry (p : Fin 12) (fec : Bool)
  /-- `LINK_RETRY_EXHAUSTED` (R390). -/
  | linkRetryExhausted (p : Fin 12)
  /-- `IDLE_FLIT` (R354). -/
  | idleFlit (p : Fin 12)
  /-- `REQ_RD` (R387). -/
  | reqRd (port : Option (Fin 12)) (ok : Bool) (p : Packet)
  /-- `REQ_WR` (R373). -/
  | reqWr (port : Option (Fin 12)) (ok : Bool) (p : Packet)
  /-- `REQ_RED` (R375). -/
  | reqRed (port : Option (Fin 12)) (ok : Bool) (p : Packet)
  /-- `REQ_ATOM` (R377). -/
  | reqAtom (port : Option (Fin 12)) (ok : Bool) (p : Packet)
  /-- `REQ_MCW` (R378). -/
  | reqMcw (port : Option (Fin 12)) (ok : Bool) (p : Packet)
  /-- `HELD_REQUEST_RELEASE` (R373). -/
  | heldRequestRelease (k : Fin 8192)
  /-- `GATED_READ_ANSWER` (R376). -/
  | gatedReadAnswer (k : BitVec 32)
  /-- `ACK` (R386). -/
  | ack (port : Option (Fin 12)) (ok : Bool) (p : Packet)
  /-- `RESP` (R386). -/
  | resp (port : Option (Fin 12)) (ok : Bool) (p : Packet)
  /-- `NACK_REFUSAL` (R363). -/
  | nackRefusal (port : Option (Fin 12)) (ok : Bool) (p : Packet)
  /-- `NACK_BUSY` (R392). -/
  | nackBusy (port : Option (Fin 12)) (ok : Bool) (p : Packet)
  /-- `BUSY_RESEND` (R392). -/
  | busyResend (d : Fin 4096) (ctrl : Bool) (seq : Word)
  /-- `CTRL_READY` (R379). -/
  | ctrlReady (port : Option (Fin 12)) (ok : Bool) (p : Packet)
  /-- `CTRL_RERUN` (R170). -/
  | ctrlRerun (port : Option (Fin 12)) (ok : Bool) (p : Packet)
  /-- `PACKET_FORWARD` (R367). -/
  | packetForward (port : Fin 12) (ok : Bool) (p : Packet)
  /-- `FORWARD_QUEUE_TIMEOUT` (R395). -/
  | forwardQueueTimeout (k : Fin 8192)
  /-- `RTO_EXPIRY` (R391). -/
  | rtoExpiry (d : Fin 4096) (ctrl : Bool) (seq : Word)
  /-- `XPORT_PROBE` (R393). -/
  | xportProbe (v : Word)
  /-- `APPLY` (R398). -/
  | apply (v : Word)
  /-- `SELF_WRITE` (R381). -/
  | selfWrite (v : Word)
  /-- `DRV_INJECT_ARM` (R382). -/
  | drvInjectArm (v : Word)
  /-- `EYE_MEASUREMENT` (R523). -/
  | eyeMeasurement (site : EyeSite) (height width : BitVec 8) (lane : Fin 8)
  /-- `QUAD_MODE_WRITE` (R407). -/
  | quadModeWrite (k : Fin 8) (v : Word)
  /-- `ETH_PORT_ENABLE` (R408). -/
  | ethPortEnable (p : Fin 32) (v : Word)
  /-- `ETH_LINK_UP` (R408). -/
  | ethLinkUp (p : Fin 32)
  /-- `ETH_LINK_DOWN` (R408). -/
  | ethLinkDown (p : Fin 32)
  /-- `ETH_FRAME_RECEIVE` (R410). -/
  | ethFrameReceive (p : Fin 32) (ph : Fin 8) (ce ue : Nat) (fcs : Bool) (frame : List Byte) (desc : Option (List Byte)) (ok : Bool)
  /-- `TX_QUEUE_ENABLE` (R412). -/
  | txQueueEnable (q : Fin 1024) (v : Word)
  /-- `RX_QUEUE_ENABLE` (R412). -/
  | rxQueueEnable (q : Fin 1024) (v : Word)
  /-- `ETH_TX_DESCRIPTOR_FETCH` (R415). -/
  | ethTxDescriptorFetch (q : Fin 1024) (desc : Option (List Byte)) (frame : Option (Option (List Byte)))
  /-- `ETH_TX_FRAME_START` (R420). -/
  | ethTxFrameStart (p : Fin 32) (ph : Fin 8)
  /-- `ETH_TX_COMPLETE` (R416). -/
  | ethTxComplete (p : Fin 32)
  /-- `ETH_TX_LATE` (R418). -/
  | ethTxLate (q : Fin 1024)
  /-- `SHAPER_REFILL` (R421). -/
  | shaperRefill
  /-- `RATE_WRITE` (R426). -/
  | rateWrite (v : Word)
  /-- `STEP_GO` (R428). -/
  | stepGo
  /-- `OVR_NEXT` (R428). -/
  | ovrNext
  /-- `TIME_READ` (R427). -/
  | timeRead (who : Requester) (raw : Bool)
  /-- `TIME_PLL_LOCK` (R424). -/
  | timePllLock
  /-- `REF_LOST` (R433). -/
  | refLost (i : Fin 2)
  /-- `REF_RETURN` (R433). -/
  | refReturn (i : Fin 2)
  /-- `SYNCE_ENABLE` (R434). -/
  | synceEnable (i : Fin 2) (v : Word)
  /-- `SYNCE_RESUME` (R434). -/
  | synceResume (i : Fin 2)
  /-- `PULSE_ENABLE` (R436). -/
  | pulseEnable (i : Fin 8) (v : Word)
  /-- `PULSE_FIRE` (R435). -/
  | pulseFire (i : Fin 8)
  /-- `PULSE_END` (R435). -/
  | pulseEnd (i : Fin 8)
  /-- `PULSE_DRIVER_FAULT` (R438). -/
  | pulseDriverFault (i : Fin 8)
  /-- `PULSE_DRIVER_RETRY` (R438). -/
  | pulseDriverRetry (i : Fin 8) (ok : Bool)
  /-- `CAPTURE_EDGE` (R439). -/
  | captureEdge (j : Fin 8) (rise : Bool) (sub : Fin 8)
  /-- `CAPTURE_POP` (R440). -/
  | capturePop (j : Fin 8) (who : Requester)
  /-- `CORE_CFG_WRITE` (R443). -/
  | coreCfgWrite (c : Fin 32) (v : Word)
  /-- `CORE_TIER_ACCESS` (R445). -/
  | coreTierAccess (c : Fin 32) (tierB : Bool) (off : BitVec 40) (acc : Access)
  /-- `CORE_HOST_ACCESS` (R444). -/
  | coreHostAccess (c : Fin 32) (addr : BitVec 47) (acc : Access) (ans : HostAns)
  /-- `BOOT_START` (R449). -/
  | bootStart
  /-- `GO` (R449). -/
  | go
  /-- `BOOT_FETCH_DONE` (R449). -/
  | bootFetchDone (flash : Option (List Byte)) (sig : Bool)
  /-- `BAR2_REQUEST` (R453). -/
  | bar2Request (rid : BitVec 16) (pasid : Option (BitVec 20)) (off : BitVec 41) (acc : Access) (poisoned : Bool)
  /-- `ATS_TRANSLATION_COMPLETE` (R454). -/
  | atsTranslationComplete (pasid : Option (BitVec 20)) (base dst : BitVec 64) (log2 : Fin 19) (rd wr : Bool)
  /-- `ATS_INVALIDATE` (R454). -/
  | atsInvalidate (tag : Fin 32) (pasid : Option (BitVec 20)) (base : BitVec 64) (log2 : Fin 53)
  /-- `ATS_INVALIDATE_DONE` (R454). -/
  | atsInvalidateDone (tag : Fin 32)
  /-- `COMPLETION_TIMEOUT` (R456). -/
  | completionTimeout (hart : Fin 32)
  /-- `FUNCTION_LEVEL_RESET` (R456). -/
  | functionLevelReset
  /-- `PCIE_RESET` (R538). -/
  | pcieReset
  /-- `PCIE_LINK_DOWN` (R456). -/
  | pcieLinkDown
  /-- `MSIX_UNMASK` (R459). -/
  | msixUnmask (vec : Fin 2048) (e : MsixEntry)
  /-- `WARDEN_WAKE` (R460). -/
  | wardenWake
  /-- `WCLK_STOP` (R460). -/
  | wclkStop
  /-- `WATCHDOG_EXPIRY` (R462). -/
  | watchdogExpiry
  /-- `INFO` (R473). -/
  | info
  /-- `LOG_READ` (R473). -/
  | logRead
  /-- `LOG_EXPORT` (R473). -/
  | logExport
  /-- `KEY_ENROLL` (R466). -/
  | keyEnroll
  /-- `KEY_REVOKE` (R466). -/
  | keyRevoke
  /-- `LC_ADVANCE` (R465). -/
  | lcAdvance (good : Bool)
  /-- `ATTEST` (R473). -/
  | attest
  /-- `SENSOR_READ` (R473). -/
  | sensorRead
  /-- `PMBUS_XFER` (R471). -/
  | pmbusXfer (ans : Option (List Byte))
  /-- `CMIS_XFER` (R472). -/
  | cmisXfer (ans : Option (List Byte))
  /-- `SEAL_GROUPS_WRITE` (R467). -/
  | sealGroupsWrite (hi : Bool) (v : Word)
  /-- `TAMPER_EVENT` (R468). -/
  | tamperEvent (src : Fin 5)
  /-- `TAMPER_TEST` (R468). -/
  | tamperTest
  /-- `WIPE_COMPLETE` (R469). -/
  | wipeComplete
  /-- `SENSOR_SCAN` (R470). -/
  | sensorScan (ts : List (BitVec 16))
  /-- `REGULATOR_POLL` (R471). -/
  | regulatorPoll (i : Fin 16) (ans : Option (BitVec 16 × BitVec 15))
  /-- `SMBALERT` (R471). -/
  | smbalert (i : Fin 16) (status : BitVec 16) (affects : Bool)
  /-- `MODULE_INSERT` (R472). -/
  | moduleInsert (site : Fin 44) (pages : Option (List Byte))
  /-- `MODULE_MONITOR_READ` (R472). -/
  | moduleMonitorRead (site : Fin 44) (ans : Option (List Byte × BitVec 16 × Fin 8))
  /-- `WARDEN_RECORD` (R509). -/
  | wardenRecord
  /-- `INT_INJECT_ARM` (R508). -/
  | intInjectArm (v : Word)
  /-- `REPLAY_START` (R513). -/
  | replayStart (sl lg : Fin 64)
  /-- `REPLAY_SETUP_DONE` (R514). -/
  | replaySetupDone (g : Fin 64)
  /-- `REPLAY_VERDICT` (R517). -/
  | replayVerdict (sl lg : Fin 64)
  /-- `QUAR_CLEAR` (R518). -/
  | quarClear (hi : Bool) (v : Word)
  /-- `MARGIN_SAMPLE` (R523). -/
  | marginSample (d : Fin 5) (m : Fin 96) (v : BitVec 10)
  /-- `SUPPLY_DROOP` (R523). -/
  | supplyDroop (d : Fin 5) (m : Fin 16) (v : BitVec 8)
  /-- `DERATE_CLR` (R535). -/
  | derateClr (d : Fin 5)
  /-- `AO_POWER_UP` (R529). -/
  | aoPowerUp
  /-- `HOLLOW_RESET_RELEASE` (R529). -/
  | hollowResetRelease (c : CardConfig)
  /-- `PWR_REQ` (R529). -/
  | pwrReq
  /-- `POWER_GOOD` (R530). -/
  | powerGood
  /-- `POWER_GOOD_TIMEOUT` (R531). -/
  | powerGoodTimeout
  /-- `HUB_RESET_RELEASE` (R530). -/
  | hubResetRelease
  /-- `PLL_LOCK_TIMEOUT` (R531). -/
  | pllLockTimeout
  /-- `PLL_LOSS` (R537). -/
  | pllLoss (p : Pll)
  /-- `CAP_WRITE` (R535). -/
  | capWrite (d : Fin 4) (v : Word)
  /-- `TCLK_STEP_CHANGE` (R535). -/
  | tclkStepChange (d : Fin 4)
  /-- `CCLK_STEP_WRITE` (R536). -/
  | cclkStepWrite (v : Word)
  /-- `DOM_SWITCH_WRITE` (R528). -/
  | domSwitchWrite (drp : Bool) (v : Word)
  /-- `GROUP_POWER_OFF` (R527). -/
  | groupPowerOff (g : Fin 64)
  /-- `RST_N` (R538). -/
  | rstN
  /-- `PART_RESET` (R539). -/
  | partReset
  /-- `OFF` (R542). -/
  | powerOff
  /-- `SUPPLY_LOSS` (R543). -/
  | supplyLoss
  /-- `SALET_PREAMBLE` (R483). -/
  | saletPreamble (busB : Bool) (level : BitVec 8) (afc : BitVec 16) (clip : Bool)
  /-- `BEACON` (R486). -/
  | beacon (busB : Bool) (src : BitVec 6) (cycle : BitVec 16)
  /-- `BEACON_SEND` (R486). -/
  | beaconSend (busB : Bool)
  /-- `BEACON_TIMEOUT` (R485). -/
  | beaconTimeout (busB : Bool)
  /-- `HEARTBEAT` (R487, R488): the energies received on subcarriers 20 to 235. -/
  | heartbeat (busB : Bool) (es : List Nat)
  /-- `PROBE` (R492): the probe energy and the error energy of subcarriers 20 to 235 over the probe symbols. -/
  | probe (busB : Bool) (src dst : BitVec 6) (es : List (Nat × Nat))
  /-- `PROBE_SEND` (R491). -/
  | probeSend (busB : Bool) (n : BitVec 6)
  /-- `SALET_FRAME_SEND` (R489). -/
  | saletFrameSend (busB : Bool) (k : BitVec 16)
  /-- `SALET_RETRY_TIMEOUT` (R494). -/
  | saletRetryTimeout (k : BitVec 16)
  /-- `CMD` (R497). -/
  | cmd (f : SalFrame)
  /-- `RSP` (R495). -/
  | rsp (f : SalFrame)
  /-- `RECORD` (R495). -/
  | record (f : SalFrame)
  /-- `EPOCH` (R498). -/
  | epoch (f : SalFrame)
  /-- `EPOCH_ACK` (R495). -/
  | epochAck (f : SalFrame)
  /-- `SALET_ACK` (R494). -/
  | saletAck (f : SalFrame)
  /-- `USER` (R495). -/
  | user (f : SalFrame)
  /-- `LOAD` (R493). -/
  | load (f : SalFrame)
  /-- `LINE_TEST` (R499). -/
  | lineTest (busB : Bool) (r vp vn : BitVec 20)
  /-- `POLARITY_READING` (R500). -/
  | polarityReading (busB : Bool) (mv : Int)
  /-- `SALET_TX_GO` (R494). -/
  | saletTxGo (v : Word)
  /-- `RX_POP` (R495). -/
  | rxPop
  /-- `SAL_INJECT_ARM` (R502). -/
  | salInjectArm (v : Word)
  /-- `BEACON_LOST` (R488). -/
  | beaconLost (busB : Bool)
  /-- `FALSE_RECEPTION` (R482). -/
  | falseReception (busB : Bool)
  /-- `PCIE_LINK_UP` (R544). -/
  | pcieLinkUp (speed : Fin 8) (width : Fin 32) (flit : Bool)
  /-- `CONFIGURATION_SPACE_WRITE` (R456). -/
  | configurationSpaceWrite (c : FnConfig)
  /-- `ALWAYS_ON_POWER_LOSS` (R475). -/
  | alwaysOnPowerLoss
  /-- `IEEE_1149_1_INSTRUCTION` (R6). -/
  | ieee11491Instruction (i : TapInstr)
  deriving DecidableEq, Repr

end Sys2Proof
end

