-- ==== Sys2Proof/Decode.lean ====
section
/-! DEFINITION. The commands that words spell. The table of operations and events gives none of its rows any bits: a
command comes from outside the part as what it is, not as a word (DESIGN CHOICE, log entry 23). -/

/-- The command that a word of `nbits` bits spells: none. -/
def Sys2Proof.decodeTableWord (_nbits _w : Nat) : Option Sys2Proof.Instr := none
end

