-- ==== Sys2Proof/Config.lean ====
section
/-! DEFINITION. What the part's manual leaves open, as constants without a body: nothing in Lean can evaluate one
or prove a value of it. Each is named in a log entry of notes/assumptions. -/

namespace Sys2Proof

/-- Free value number `n` of the run, as bits: one is taken from it each time the part writes a value that the
manual states no value for (DESIGN CHOICE, log entry 3). `State.free` counts those taken. -/
opaque Config.freeBits : Nat → BitVec 128

/-- The FP32 result of vector function `op` on operand `x` where R86 bounds the error and does not fix the result: taken
where it keeps the bound (DESIGN CHOICE, log entry 4). It is a function of the operand, so it is the same on every tile (R57). -/
opaque Config.vecFunction : Nat → Word → Word

/-- Lane and vector register (64 times its number plus the lane), and mask register (2,048 plus its number), of a tile at the
beginning of a segment: no value is held across a segment's end (R87; DESIGN CHOICE, log entry 99). The first argument is the
free value's number. -/
opaque Config.lostVector : Nat → Nat → BitVec 64

/-- Which of the FP32 values within 1 ulp the reciprocal functions return (R86; DESIGN CHOICE, log entry 4). -/
opaque Config.ulpChoice : Nat → Word → BitVec 2

/-- The FP32 value of exp(x) in the decode units, taken where it keeps the bound of R86 (DESIGN CHOICE, log entry 4). -/
opaque Config.decodeExp : Word → Word

/-- The base graphs of 3GPP TS 38.212: the shift of row and column in base graph 1 (0) or 2 (1) for a lifting size, `none` where the entry
is zero (R290; PRESUMED to exist there, log entry 5). The arguments are graph, lifting size, row and column. -/
opaque Config.baseGraph : Nat → Nat → Nat → Nat → Option Nat

/-- Parity bit `i` of an LDPC code block of a graph and lifting size (R290; log entry 5). -/
opaque Config.ldpcParity : Nat → Nat → List Bool → Nat → Bool

/-- How the LDPC decoder rounds a check's message, given in quarters: the manual states the scaling of 0.75 alone
(R290; DESIGN CHOICE, log entry 5). -/
opaque Config.ldpcMessage : Int → Int

/-- How the LDPC decoder holds a variable's value (R290; DESIGN CHOICE, log entry 5). -/
opaque Config.ldpcValue : Int → Int

/-- The value of a filler bit, which is known, in the LDPC decoder (R290; DESIGN CHOICE, log entry 5). -/
opaque Config.ldpcKnown : Int

/-- What the flag of a passed transport-block check reads where there is no check (R290; DESIGN CHOICE, log entry 5). -/
opaque Config.noCrc : Bool

/-- The reliability rank of an input bit of the polar code, a table of 3GPP TS 38.212 (R291; log entry 5). -/
opaque Config.polarRank : Nat → Nat

/-- The input interleaver's pattern of the polar code, a table of 3GPP TS 38.212 (R291; log entry 5). -/
opaque Config.polarPi : Nat → Nat

/-- Whether a CRC24C is formed with 24 ones before the message: 3GPP TS 38.212 does so for one channel and not for
another, and the descriptor does not tell them apart (R291; DESIGN CHOICE, log entry 5). -/
opaque Config.polarOnes : Bool

/-- What the polar list decoder is run for: code length as a power of two, bits, rate-matched length, parity bits, list size. -/
structure PolarRun where
  lg   : Nat
  k    : Nat
  e    : Nat
  npc  : Nat
  list : Nat

/-- Bit of a path of the polar list decoder, the paths in rising order of their metric: the arithmetic of the metrics is open
(R291; DESIGN CHOICE, log entry 5). The arguments are the run, what came for each coded bit (`none` for a known zero), path and bit. -/
opaque Config.polarPath : PolarRun → List (Option Int) → Nat → Nat → Bool

/-- Whether a pass of an FFT helper multiplies by its twiddles after its butterflies: the manual leaves it open (R289; DESIGN
CHOICE, log entry 5). -/
opaque Config.fftDif : Bool

/-- The difference that the order of the operations inside a pass of an FFT helper makes to a component, before its bound (R289;
DESIGN CHOICE, log entry 5): radix, the pass's input, and which component. -/
opaque Config.fftSlack : Nat → List (Int × Int) → Nat → Nat

/-- The bits of a component that a width does not hold, where samples are packed without compression (R292; DESIGN CHOICE, log entry 5):
width and component. -/
opaque Config.wideComponent : Nat → Int → Nat

/-- Signatures, digests and certificates of the warden's cryptography (R139, R473; DESIGN CHOICE, log entry 6). -/
opaque Config.digest : List Byte → Nat → Byte

/-- The part's 64-bit device identifier, which its fuses hold (R463; DESIGN CHOICE, log entry 6). -/
opaque Config.deviceId : BitVec 64

/-- The warden's ROM version (R461; DESIGN CHOICE, log entry 6). -/
opaque Config.romVersion : Word

/-- How many refreshes of a bank a controller may defer: a limit of the JEDEC standard (R192; DESIGN CHOICE, log entry 19). -/
opaque Config.refreshLimit : Nat → Nat

/-- The regulator of the card that supplies a die: 0 to 3 the plain dies, 4 the hub, 5 the hollow. It is in the card's configuration, which
the manual does not lay out (R471, R509; DESIGN CHOICE, log entry 12). -/
opaque Config.supplyOf : Nat → Fin 16

/-- `VCPX` in mV at the CCLK steps between the first and the last, of which the manual gives only the range (R536; DESIGN CHOICE, log entry 128). -/
opaque Config.vcpxMid : Nat → Nat

/-- The temperature in °C that an LP5X device's refresh-rate report stands for (R203; DESIGN CHOICE, log entry 19). -/
opaque Config.rateTemp : Nat → Int

end Sys2Proof
end

