-- ==== Sys2Proof/Machine/Store.lean ====
section
/-! DEFINITION. Sparse maps (`SMap`) in one canonical form: keys strictly rising, and no entry equal to what
an unlisted key reads as. Every register file, memory and table of State is held so. -/

namespace Sys2Proof.Machine

/-- The entry of key `k`, if listed. -/
def mapFind {α : Type} (k : Nat) : SMap α → Option α
  | [] => none
  | (k', v) :: t => if k = k' then some v else mapFind k t

/-- The value of key `k`; `d` is what an unlisted key reads as. -/
def mapGet {α : Type} (d : Nat → α) (m : SMap α) (k : Nat) : α :=
  (mapFind k m).getD (d k)

/-- All entries but those of key `k`. -/
def mapErase {α : Type} (k : Nat) : SMap α → SMap α
  | [] => []
  | (k', v) :: t => if k = k' then mapErase k t else (k', v) :: mapErase k t

/-- `(k, v)` put before the first larger key. -/
def mapInsert {α : Type} (k : Nat) (v : α) : SMap α → SMap α
  | [] => [(k, v)]
  | (k', v') :: t => if k < k' then (k, v) :: (k', v') :: t else (k', v') :: mapInsert k v t

/-- The map after key `k` is given the value `v`. -/
def mapSet {α : Type} [DecidableEq α] (d : Nat → α) (m : SMap α) (k : Nat) (v : α) : SMap α :=
  if v = d k then mapErase k m else mapInsert k v (mapErase k m)

/-- Keys of `m` all exceed `lo`, rise strictly, and no entry holds its default. -/
def mapWfFrom {α : Type} [DecidableEq α] (d : Nat → α) : Option Nat → SMap α → Bool
  | _, [] => true
  | lo, (k, v) :: t =>
    (match lo with | none => true | some l => decide (l < k)) && decide (v ≠ d k)
      && mapWfFrom d (some k) t

/-- The canonical form of a sparse map. -/
def mapWf {α : Type} [DecidableEq α] (d : Nat → α) (m : SMap α) : Bool := mapWfFrom d none m

/-- Every value of the map changed by `f`, entries that become their default dropped. -/
def mapMap {α : Type} [DecidableEq α] (d : Nat → α) (f : Nat → α → α) (m : SMap α) : SMap α :=
  (m.map (fun p => (p.1, f p.1 p.2))).filter (fun p => decide (p.2 ≠ d p.1))

/-- The entries whose key satisfies `p`. -/
def mapFilter {α : Type} (p : Nat → Bool) (m : SMap α) : SMap α := m.filter (fun e => p e.1)

/-- `n` values from key `k`. -/
def mapRange {α : Type} (d : Nat → α) (m : SMap α) (k n : Nat) : List α :=
  (List.range n).map (fun i => mapGet d m (k + i))

/-- A list of values written from key `k` upward. -/
def mapWriteList {α : Type} [DecidableEq α] (d : Nat → α) (m : SMap α) (k : Nat) : List α → SMap α
  | [] => m
  | v :: t => mapWriteList d (mapSet d m k v) (k + 1) t

/-- Keys `k` to `k + n - 1` returned to their defaults. -/
def mapClear {α : Type} (m : SMap α) (k n : Nat) : SMap α :=
  mapFilter (fun i => decide (i < k ∨ k + n ≤ i)) m

/-- A bit list, least significant first, as a number. -/
def bitsToNat : List Bool → Nat
  | [] => 0
  | b :: t => (if b then 1 else 0) + 2 * bitsToNat t

/-- Bytes, lowest address first, as a little-endian number (R47). -/
def bytesToNat : List Byte → Nat
  | [] => 0
  | b :: t => b.toNat + 256 * bytesToNat t

/-- The `n` low bytes of a number, lowest address first (R47). -/
def natToBytes : Nat → Nat → List Byte
  | 0, _ => []
  | n + 1, v => BitVec.ofNat 8 v :: natToBytes n (v / 256)

/-- Bits `lo + wd - 1 : lo` of a number. -/
def bitField (v lo wd : Nat) : Nat := v / 2 ^ lo % 2 ^ wd

/-- The two's-complement reading of the low `w` bits of `v`. -/
def signed (w v : Nat) : Int :=
  let u := v % 2 ^ w
  if u < 2 ^ (w - 1) then (u : Int) else (u : Int) - (2 : Int) ^ w

/-- `v` with the bits `lo + wd - 1 : lo` replaced by `x`. -/
def bitPut (v lo wd x : Nat) : Nat :=
  v - bitField v lo wd * 2 ^ lo + x % 2 ^ wd * 2 ^ lo

/-- A list cut into pieces of `n`, at most `fuel` of them. -/
def chunksOf {α : Type} (n : Nat) : Nat → List α → List (List α)
  | 0, _ => []
  | _ + 1, [] => []
  | f + 1, l => l.take n :: chunksOf n f (l.drop n)

/-- Element `i` of a list, or a default. -/
def nth {α : Type} (d : α) (l : List α) (i : Nat) : α := (l[i]?).getD d

/-- Element `i` of a list replaced. -/
def setNth {α : Type} : List α → Nat → α → List α
  | [], _, _ => []
  | _ :: t, 0, v => v :: t
  | x :: t, i + 1, v => x :: setNth t i v

end Sys2Proof.Machine
end

