-- ==== Sys2Proof/Machine/Code.lean ====
section
/-! DEFINITION. The 144/128 code (R503 to R505) and memories that carry it. A memory is its data bytes and, for
each 16-byte code word, the SYNDROME a reader would compute: stored check bits XOR check(data). A word written
clean has syndrome 0; a poisoned word has `0xFFFF` (R504). -/

namespace Sys2Proof.Machine

/-- The column of nibble `n` holding the value `nib`: its contribution to the check bits (R503). -/
def nibbleCheck (n nib : Nat) : Syn :=
  let odd := ((nib / 8) + (nib / 4) + (nib / 2) + nib) % 2 = 1
  BitVec.ofNat 16 nib ^^^
    (if odd then (BitVec.ofNat 16 (2 ^ (4 + n % 6)) ||| BitVec.ofNat 16 (2 ^ (10 + n / 6))) else 0)

/-- The check bits over nibbles `n` onward of a 128-bit data word read as a number. -/
def checkFrom : Nat → Nat → Nat → Syn
  | 0, _, _ => 0
  | f + 1, n, d => nibbleCheck n (d % 16) ^^^ checkFrom f (n + 1) (d / 16)

/-- The 16 check bits of a data word (R503). -/
def checkBits (d : Nat) : Syn := checkFrom 32 0 d

/-- The number of set bits among the low `w` bits of `v`. -/
def popFrom : Nat → Nat → Nat
  | 0, _ => 0
  | w + 1, v => v % 2 + popFrom w (v / 2)

/-- The lowest set bit of `v`, searched over `w` bits. -/
def ctz : Nat → Nat → Nat
  | 0, _ => 0
  | w + 1, v => if v % 2 = 1 then 0 else 1 + ctz w (v / 2)

/-- The code-word bit that a syndrome names as a one-bit error, if it names one (R504, `single`). -/
def singleBit (s : Syn) : Option Nat :=
  let v := s.toNat
  if popFrom 16 v = 1 then some (128 + ctz 16 v)
  else if popFrom 4 (bitField v 0 4) = 1 ∧ popFrom 6 (bitField v 4 6) = 1 ∧ popFrom 6 (bitField v 10 6) = 1 then
    let n := 6 * ctz 6 (bitField v 10 6) + ctz 6 (bitField v 4 6)
    if n < 32 then some (4 * n + ctz 4 (bitField v 0 4)) else none
  else none

/-- What a reader makes of a code word (R504). -/
inductive WordClass where
  | clean | correctable (bit : Nat) | poisoned | uncorrectable
  deriving DecidableEq, Repr

/-- The classification of a syndrome (R504, `classify`). -/
def classify (s : Syn) : WordClass :=
  if s = 0 then .clean
  else match singleBit s with
    | some b => .correctable b
    | none => if s = 0xFFFF ∨ (singleBit (s ^^^ 0xFFFF)).isSome then .poisoned else .uncorrectable

/-- A memory under the 144/128 code: bytes by address, syndromes by code word (address / 16). -/
structure Memory where
  cells : SMap Byte
  syn   : SMap Syn
  deriving DecidableEq, Repr

/-- Every byte zero with valid check bits (R202, R526). -/
def memEmpty : Memory := ⟨[], []⟩

/-- What an unlisted byte reads as: zero (R202, R526). -/
def byteDefault (_ : Nat) : Byte := 0
/-- What an unlisted syndrome reads as: a clean word. -/
def synDefault (_ : Nat) : Syn := 0

/-- The stored byte at an address, as it stands (no correction). -/
def Memory.byte (m : Memory) (a : Nat) : Byte := mapGet byteDefault m.cells a
/-- The syndrome of code word `w`. -/
def Memory.synAt (m : Memory) (w : Nat) : Syn := mapGet synDefault m.syn w
/-- The canonical form of a memory. -/
def Memory.wf (m : Memory) : Bool := mapWf byteDefault m.cells && mapWf synDefault m.syn

/-- One stored byte replaced. -/
def Memory.setByte (m : Memory) (a : Nat) (v : Byte) : Memory :=
  { m with cells := mapSet byteDefault m.cells a v }
/-- The syndrome of one code word replaced. -/
def Memory.setSyn (m : Memory) (w : Nat) (v : Syn) : Memory :=
  { m with syn := mapSet synDefault m.syn w v }
/-- Stored bytes from address `a`. -/
def Memory.bytes (m : Memory) (a n : Nat) : List Byte := mapRange byteDefault m.cells a n
/-- Bytes stored from address `a`; syndromes are left as they are. -/
def Memory.setBytes (m : Memory) (a : Nat) (l : List Byte) : Memory :=
  { m with cells := mapWriteList byteDefault m.cells a l }
/-- `n` bytes from `a` made zero with valid check bits (both `a` and `n` multiples of 16). -/
def Memory.zeroRange (m : Memory) (a n : Nat) : Memory :=
  ⟨mapClear m.cells a n, mapClear m.syn (a / 16) (n / 16)⟩

/-- One code word as a correcting reader delivers it: 16 bytes and an error mark (R504, R505). -/
structure CWord where
  data   : List Byte
  marked : Bool
  deriving DecidableEq, Repr

/-- 16 data bytes with one data bit inverted. -/
def flipDataBit (l : List Byte) (bit : Nat) : List Byte :=
  setNth l (bit / 8) (nth 0 l (bit / 8) ^^^ BitVec.ofNat 8 (2 ^ (bit % 8)))

/-- Code word `w` read at a correcting point: a single-bit error is corrected in what is delivered; an
UNCORRECTABLE or POISONED word is delivered marked (R505). The memory is not changed. -/
def Memory.readWord (m : Memory) (w : Nat) : CWord :=
  let raw := m.bytes (16 * w) 16
  match classify (m.synAt w) with
  | .clean => ⟨raw, false⟩
  | .correctable b => if b < 128 then ⟨flipDataBit raw b, false⟩ else ⟨raw, false⟩
  | .poisoned => ⟨raw, true⟩
  | .uncorrectable => ⟨raw, true⟩

/-- A whole code word written: clean, or poisoned if it arrives marked (R505). -/
def Memory.writeWord (m : Memory) (w : Nat) (c : CWord) : Memory :=
  (m.setBytes (16 * w) (c.data.take 16)).setSyn w (if c.marked then 0xFFFF else 0)

/-- Code words `w` to `w + n - 1` as delivered. -/
def Memory.readWords (m : Memory) (w n : Nat) : List CWord :=
  (List.range n).map (fun i => m.readWord (w + i))

/-- Successive code words written from word `w`. -/
def Memory.writeWords (m : Memory) (w : Nat) : List CWord → Memory
  | [] => m
  | c :: t => Memory.writeWords (m.writeWord w c) (w + 1) t

/-- One stored bit of code word `w` inverted: data bit or check bit. The syndrome changes by the bit's column
(R503). -/
def Memory.flipBit (m : Memory) (w bit : Nat) : Memory :=
  if bit < 128 then
    let a := 16 * w + bit / 8
    let m1 := m.setByte a (m.byte a ^^^ BitVec.ofNat 8 (2 ^ (bit % 8)))
    m1.setSyn w (m1.synAt w ^^^ nibbleCheck (bit / 4) (2 ^ (bit % 4)))
  else m.setSyn w (m.synAt w ^^^ BitVec.ofNat 16 (2 ^ (bit - 128)))

/-- The first code word, of `n` from `w`, that would be delivered marked. -/
def Memory.anyMarked (m : Memory) (w n : Nat) : Bool :=
  (m.readWords w n).any (fun c => c.marked)

/-- The number of code words, of `n` from `w`, whose read would be corrected. -/
def Memory.corrected (m : Memory) (w n : Nat) : Nat :=
  ((List.range n).filter (fun i =>
    match classify (m.synAt (w + i)) with | .correctable _ => true | _ => false)).length

/-- The data bytes of delivered words, in order. -/
def wordsData (l : List CWord) : List Byte := l.flatMap (fun c => c.data)

/-- Bytes cut into clean code words of 16. -/
def toWords (l : List Byte) : List CWord :=
  (chunksOf 16 (l.length / 16 + 1) l).map (fun d => ⟨d, false⟩)

/-- `n` bytes from address `a` as delivered, with whether any word of them is marked. -/
def Memory.readBytes (m : Memory) (a n : Nat) : List Byte × Bool :=
  let w0 := a / 16
  let nw := (a + n + 15) / 16 - w0
  let ws := m.readWords w0 nw
  (((wordsData ws).drop (a - 16 * w0)).take n, ws.any (fun c => c.marked))

/-- A byte as it travels, with the error mark of the code word it came from (R505). -/
abbrev MByte := Byte × Bool

/-- `n` bytes from address `a` as delivered, each with its word's error mark. -/
def Memory.readM (m : Memory) (a n : Nat) : List MByte :=
  let w0 := a / 16
  let nw := (a + n + 15) / 16 - w0
  (((m.readWords w0 nw).flatMap (fun c => c.data.map (fun b => (b, c.marked)))).drop (a - 16 * w0)).take n

/-- Marked bytes written from address `a`, word by word: a word covered whole is replaced and poisoned if any of its
bytes is marked (R505, R565); a word covered in part is read, corrected, merged and written back, unless the old word
reads in error, which keeps its error and is reported by the second component (R89). -/
def Memory.writeM (m : Memory) (a : Nat) (data : List MByte) : Memory × Bool :=
  let w0 := a / 16
  let nw := (a + data.length + 15) / 16 - w0
  (List.range nw).foldl (fun (acc : Memory × Bool) i =>
    let w := w0 + i
    let lo := max a (16 * w)
    let hi := min (a + data.length) (16 * w + 16)
    let part := (data.drop (lo - a)).take (hi - lo)
    let bad := part.any (fun b => b.2)
    let bytes := part.map (fun b => b.1)
    if hi - lo = 16 then (acc.1.writeWord w ⟨bytes, bad⟩, acc.2)
    else
      let old := acc.1.readWord w
      if old.marked then (acc.1, true)
      else (acc.1.writeWord w ⟨old.data.take (lo - 16 * w) ++ bytes ++ old.data.drop (hi - 16 * w), bad⟩, acc.2)) (m, false)

/-- Clean bytes. -/
def cleanM (l : List Byte) : List MByte := l.map (fun b => (b, false))
/-- The bytes of marked bytes. -/
def bytesM (l : List MByte) : List Byte := l.map (fun b => b.1)
/-- Whether any byte is marked. -/
def markedM (l : List MByte) : Bool := l.any (fun b => b.2)
/-- Zeros with valid check bits: what a refused read returns (R88). -/
def zerosM (n : Nat) : List MByte := List.replicate n (0, false)
/-- Code words as marked bytes. -/
def wordsM (l : List CWord) : List MByte := l.flatMap (fun c => c.data.map (fun b => (b, c.marked)))
/-- Marked bytes as code words of 16. -/
def toCWords (l : List MByte) : List CWord :=
  (chunksOf 16 (l.length / 16 + 1) l).map (fun d => ⟨bytesM d, markedM d⟩)

/-- Bytes written from address `a`, word by word: a word covered whole is replaced; a word covered in part is
read, corrected, merged and written back (R89, R190). A part-covered word that reads UNCORRECTABLE or POISONED is
not merged and keeps its error; the second component says that this happened. -/
def Memory.mergeBytes (m : Memory) (a : Nat) (data : List Byte) : Memory × Bool :=
  let w0 := a / 16
  let nw := (a + data.length + 15) / 16 - w0
  (List.range nw).foldl (fun (acc : Memory × Bool) i =>
    let w := w0 + i
    let lo := max a (16 * w)
    let hi := min (a + data.length) (16 * w + 16)
    let part := (data.drop (lo - a)).take (hi - lo)
    if hi - lo = 16 then (acc.1.writeWord w ⟨part, false⟩, acc.2)
    else
      let old := acc.1.readWord w
      if old.marked then (acc.1, true)
      else
        let merged := old.data.take (lo - 16 * w) ++ part ++ old.data.drop (hi - 16 * w)
        (acc.1.writeWord w ⟨merged, false⟩, acc.2)) (m, false)

end Sys2Proof.Machine
end

