-- ==== Sys2Proof/Machine/Numbers.lean ====
section
/-! DEFINITION. Number formats and arithmetic rules: formats (R41, R42, R45, R46), packing (R47), roundings
(R58, R59), conversions and their events (R61 to R65), stochastic rounding (R66, R67), the generator (R225),
block quantisation (R51) and block floating point (R70 to R72). Codes and events are natural numbers. -/

namespace Sys2Proof.Machine

/-! ### Arithmetic events (R65)

A set of events is a number that holds how often each occurred: 20 bits for each kind, in the order of the bits of
`TIL_ARITH_STATUS`. No command brings 2^20 events of one kind. -/

/-- No event. -/
def evNone : Nat := 0
/-- `INT_WRAP` (R56). -/
def evIntWrap : Nat := 1
/-- `CVT_SAT` (R62, R64). -/
def evCvtSat : Nat := 2 ^ 20
/-- `CVT_NAN` (R51, R62, R64, R86). -/
def evCvtNan : Nat := 2 ^ 40
/-- `FMT_BAD` (R45). -/
def evFmtBad : Nat := 2 ^ 60
/-- `CHK_RANGE` (R82). -/
def evChkRange : Nat := 2 ^ 80
/-- Both sets of events. -/
def evAdd (a b : Nat) : Nat := a + b
/-- How often event kind `i` occurred. -/
def evCount (ev i : Nat) : Nat := ev / 2 ^ (20 * i) % 2 ^ 20
/-- The sticky bits that a set of events sets. -/
def evBits (ev : Nat) : Nat := (List.range 5).foldl (fun a i => if evCount ev i = 0 then a else a + 2 ^ i) 0

/-! ### Floating formats -/

/-- A floating value: NaN, an infinity, or (−1)^neg × m × 2^e exactly. -/
inductive FVal where
  | nan
  | inf (neg : Bool)
  | fin (neg : Bool) (m : Nat) (e : Int)
  deriving DecidableEq, Repr

/-- A floating format (R42): exponent and mantissa widths, bias, the code of the largest finite value, the code
of +∞ if there is one, the canonical NaN if there is one (R44), and whether a finite value above the largest
finite saturates (R62). -/
structure FFmt where
  ew : Nat
  mw : Nat
  bias : Int
  maxCode : Nat
  infCode : Option Nat
  nanCode : Option Nat
  sat : Bool
  deriving DecidableEq, Repr

/-- FP32, format 1. -/
def fmtFP32 : FFmt := ⟨8, 23, 127, 0x7F7FFFFF, some 0x7F800000, some 0x7FC00000, false⟩
/-- BF16, format 2. -/
def fmtBF16 : FFmt := ⟨8, 7, 127, 0x7F7F, some 0x7F80, some 0x7FC0, false⟩
/-- FP16, format 3. -/
def fmtFP16 : FFmt := ⟨5, 10, 15, 0x7BFF, some 0x7C00, some 0x7E00, false⟩
/-- FP8 E4M3, format 4. -/
def fmtE4M3 : FFmt := ⟨4, 3, 7, 0x7E, none, some 0x7F, true⟩
/-- FP8 E5M2, format 5. -/
def fmtE5M2 : FFmt := ⟨5, 2, 15, 0x7B, some 0x7C, some 0x7F, true⟩
/-- FP6 E3M2, format 6. -/
def fmtE3M2 : FFmt := ⟨3, 2, 3, 0x1F, none, none, true⟩
/-- FP6 E2M3, format 7. -/
def fmtE2M3 : FFmt := ⟨2, 3, 1, 0x1F, none, none, true⟩
/-- FP4 E2M1, format 8. -/
def fmtE2M1 : FFmt := ⟨2, 1, 1, 0x7, none, none, true⟩

/-- The floating formats of R41 by number. -/
def floatFmt (n : Nat) : Option FFmt :=
  match n with
  | 1 => some fmtFP32 | 2 => some fmtBF16 | 3 => some fmtFP16 | 4 => some fmtE4M3
  | 5 => some fmtE5M2 | 6 => some fmtE3M2 | 7 => some fmtE2M3 | 8 => some fmtE2M1 | _ => none

/-- The width of a format of R41 in bits; 0 names INT32 in the vector slot (R566). -/
def fmtWidth (n : Nat) : Nat :=
  match n with
  | 0 => 32 | 1 => 32 | 2 => 16 | 3 => 16 | 4 => 8 | 5 => 8 | 6 => 6 | 7 => 6 | 8 => 4
  | 9 => 8 | 10 => 4 | 11 => 2 | 12 => 16 | 13 => 32 | 15 => 8 | _ => 0

/-- The value that a code stands for (R42). -/
def floatDecode (f : FFmt) (c : Nat) : FVal :=
  let neg := decide (c / 2 ^ (f.ew + f.mw) % 2 = 1)
  let mag := c % 2 ^ (f.ew + f.mw)
  let ex := mag / 2 ^ f.mw
  let m := mag % 2 ^ f.mw
  if f.infCode = some mag then .inf neg
  else if f.infCode.isSome ∧ ex = 2 ^ f.ew - 1 then .nan
  else if f.infCode.isNone ∧ f.nanCode = some mag then .nan
  else if ex = 0 then .fin neg m (1 - f.bias - f.mw)
  else .fin neg (2 ^ f.mw + m) ((ex : Int) - f.bias - f.mw)

/-- How a discarded remainder is rounded. -/
inductive Rounding where
  /-- To nearest, ties to even (R58). -/
  | nearest
  /-- Stochastic, with the 16-bit draw `r` (R66). -/
  | stochastic (r : Nat)
  /-- Toward zero. -/
  | down
  deriving DecidableEq, Repr

/-- `m / 2^k` rounded to an integer. -/
def roundShift (rd : Rounding) (m k : Nat) : Nat :=
  let q := m / 2 ^ k
  let r := m % 2 ^ k
  match rd with
  | .nearest =>
    if 2 * r > 2 ^ k ∨ (2 * r = 2 ^ k ∧ q % 2 = 1) then q + 1 else q
  | .stochastic d => if r * 65536 / 2 ^ k + d ≥ 65536 then q + 1 else q
  | .down => q

/-- The magnitude code nearest to m × 2^e before overflow is considered, with the subnormal spacing below the
smallest normal (R43, R62, R66). Codes continue past `maxCode` where the value does. -/
def roundMag (f : FFmt) (rd : Rounding) (m : Nat) (e : Int) : Nat :=
  if m = 0 then 0
  else
    let top : Int := (Nat.log2 m : Int) + e
    let q : Int := max top (1 - f.bias) - f.mw
    let n := if q ≤ e then m * 2 ^ (e - q).toNat else roundShift rd m (q - e).toNat
    (q + f.mw + f.bias - 1).toNat * 2 ^ f.mw + n

/-- The sign bit of a format. -/
def signBit (f : FFmt) (neg : Bool) : Nat := if neg then 2 ^ (f.ew + f.mw) else 0

/-- A value converted into a floating format: its code and its events (R44, R62, R66). -/
def floatEncode (f : FFmt) (rd : Rounding) (v : FVal) : Nat × Nat :=
  match v with
  | .nan => match f.nanCode with
    | some c => (c, evNone)
    | none => (0, evCvtNan)
  | .inf neg => match f.infCode with
    | some c => (signBit f neg + c, evNone)
    | none => (signBit f neg + f.maxCode, evCvtSat)
  | .fin neg m e =>
    let c := roundMag f rd m e
    if c ≤ f.maxCode then (signBit f neg + c, evNone)
    else if f.sat then (signBit f neg + f.maxCode, evCvtSat)
    else (signBit f neg + f.infCode.getD f.maxCode, evNone)

/-- FP32 code of a value, to nearest even. -/
def toFP32 (v : FVal) : Word := BitVec.ofNat 32 (floatEncode fmtFP32 .nearest v).1
/-- The value of an FP32 code. -/
def ofFP32 (w : Word) : FVal := floatDecode fmtFP32 w.toNat
/-- The canonical FP32 NaN (R44). -/
def nan32 : Word := 0x7FC00000
/-- Whether an FP32 code is a NaN. -/
def isNan32 (w : Word) : Bool := decide (ofFP32 w = .nan)
/-- A code with every NaN made canonical (R44). -/
def canon32 (w : Word) : Word := if isNan32 w then nan32 else w

/-! ### Exact arithmetic on values -/

/-- A signed mantissa scaled to exponent `e0` (`e0` at most `e`). -/
def alignTo (e0 : Int) (neg : Bool) (m : Nat) (e : Int) : Int :=
  let a : Int := (m * 2 ^ (e - e0).toNat : Nat)
  if neg then -a else a

/-- The exact value `z × 2^e`; a zero has the sign `zneg`. -/
def ofInt (zneg : Bool) (z : Int) (e : Int) : FVal :=
  if z = 0 then .fin zneg 0 0 else .fin (decide (z < 0)) z.natAbs e

/-- The exact sum of two values; +0 from operands of unlike sign, by IEEE 754. -/
def addVal (a b : FVal) : FVal :=
  match a, b with
  | .nan, _ => .nan
  | _, .nan => .nan
  | .inf x, .inf y => if x = y then .inf x else .nan
  | .inf x, .fin _ _ _ => .inf x
  | .fin _ _ _, .inf y => .inf y
  | .fin na ma ea, .fin nb mb eb =>
    let e0 := min ea eb
    ofInt (na && nb) (alignTo e0 na ma ea + alignTo e0 nb mb eb) e0

/-- The negated value. -/
def negVal : FVal → FVal
  | .nan => .nan
  | .inf n => .inf (!n)
  | .fin n m e => .fin (!n) m e

/-- The magnitude of a value. -/
def absVal : FVal → FVal
  | .nan => .nan
  | .inf _ => .inf false
  | .fin _ m e => .fin false m e

/-- The exact product; 0 × ∞ is NaN (R44). -/
def mulVal (a b : FVal) : FVal :=
  match a, b with
  | .nan, _ => .nan
  | _, .nan => .nan
  | .inf x, .inf y => .inf (x != y)
  | .inf x, .fin y m _ => if m = 0 then .nan else .inf (x != y)
  | .fin x m _, .inf y => if m = 0 then .nan else .inf (x != y)
  | .fin x ma ea, .fin y mb eb => .fin (x != y) (ma * mb) (ea + eb)

/-- A value times 2^k. -/
def scaleVal (k : Int) : FVal → FVal
  | .nan => .nan
  | .inf n => .inf n
  | .fin n m e => .fin n m (e + k)

/-- The exact sum of a list of values; the empty sum is +0. -/
def sumVals (l : List FVal) : FVal := l.foldl addVal (.fin false 0 0)

/-- FP32 addition, subtraction, multiplication and fused multiply-add, each rounded once (R58). -/
def fadd (a b : Word) : Word := toFP32 (addVal (ofFP32 a) (ofFP32 b))
/-- FP32 subtraction. -/
def fsub (a b : Word) : Word := toFP32 (addVal (ofFP32 a) (negVal (ofFP32 b)))
/-- FP32 multiplication. -/
def fmul (a b : Word) : Word := toFP32 (mulVal (ofFP32 a) (ofFP32 b))
/-- FP32 a × b + c rounded once. -/
def ffma (a b c : Word) : Word := toFP32 (addVal (mulVal (ofFP32 a) (ofFP32 b)) (ofFP32 c))

/-- A quotient with 64 bits beyond the divisor and a sticky bit below, which rounds as the exact quotient does. -/
def divVal (a b : FVal) : FVal :=
  match a, b with
  | .nan, _ => .nan
  | _, .nan => .nan
  | .inf _, .inf _ => .nan
  | .inf x, .fin y _ _ => .inf (x != y)
  | .fin x _ _, .inf y => .fin (x != y) 0 0
  | .fin x ma ea, .fin y mb eb =>
    if mb = 0 then (if ma = 0 then .nan else .inf (x != y))
    else
      let k := 64 + Nat.log2 mb
      let n := ma * 2 ^ k
      .fin (x != y) (2 * (n / mb) + (if n % mb = 0 then 0 else 1)) (ea - eb - k - 1)

/-- The integer square root of `n`, found bit by bit from bit `f` down. -/
def isqrtFrom (n : Nat) : Nat → Nat → Nat
  | 0, r => if (r + 1) * (r + 1) ≤ n then r + 1 else r
  | f + 1, r =>
    let c := r + 2 ^ (f + 1)
    isqrtFrom n f (if c * c ≤ n then c else r)

/-- The integer square root. -/
def isqrt (n : Nat) : Nat := isqrtFrom n (Nat.log2 n / 2 + 1) 0

/-- A square root with at least 60 bits and a sticky bit below (R86). −0 gives −0 and a negative value NaN. -/
def sqrtVal (a : FVal) : FVal :=
  match a with
  | .nan => .nan
  | .inf n => if n then .nan else .inf false
  | .fin n m e =>
    if m = 0 then .fin n 0 0
    else if n then .nan
    else
      let m1 := if e % 2 = 0 then m else 2 * m
      let e1 := if e % 2 = 0 then e else e - 1
      let big := m1 * 2 ^ 128
      let r := isqrt big
      .fin false (2 * r + (if r * r = big then 0 else 1)) (e1 / 2 - 64 - 1)

/-- FP32 division and square root, correctly rounded (R86). -/
def fdiv (a b : Word) : Word := toFP32 (divVal (ofFP32 a) (ofFP32 b))
/-- FP32 square root. -/
def fsqrt (a : Word) : Word := toFP32 (sqrtVal (ofFP32 a))

/-- Whether m × 2^e is an FP32 magnitude exactly (below overflow). -/
def isExactMag (m : Nat) (e : Int) : Bool :=
  let q : Int := max ((Nat.log2 m : Int) + e) (-126) - 23
  decide (q ≤ e ∨ m % 2 ^ (q - e).toNat = 0)

/-- An FP32 value within 1 ulp of the exact value, chosen by `ch`: a neighbour of an inexact value, or an exact
value or one of its two neighbours (R86). -/
def within1Ulp (ch : BitVec 2) (v : FVal) : Word :=
  match v with
  | .nan => nan32
  | .inf n => toFP32 (.inf n)
  | .fin n m e =>
    let lo := roundMag fmtFP32 .down m e
    let exact := isExactMag m e
    let d := ch.toNat
    let c := if exact then (if d = 1 then lo + 1 else if d = 2 then lo - 1 else lo) else lo + d % 2
    BitVec.ofNat 32 (signBit fmtFP32 n + min c 0x7F800000)

/-! ### Comparisons (R567) -/

/-- The value of an ordered FP32 code as a signed magnitude, −0 and +0 both 0. -/
def orderKey (w : Word) : Int :=
  let mag : Int := (w.toNat % 2 ^ 31 : Nat)
  if w.toNat / 2 ^ 31 = 1 then -mag else mag

/-- IEEE 754 less-than: false with a NaN. -/
def flt (a b : Word) : Bool := !isNan32 a && !isNan32 b && decide (orderKey a < orderKey b)
/-- IEEE 754 less-or-equal. -/
def fle (a b : Word) : Bool := !isNan32 a && !isNan32 b && decide (orderKey a ≤ orderKey b)
/-- IEEE 754 equal. -/
def feq (a b : Word) : Bool := !isNan32 a && !isNan32 b && decide (orderKey a = orderKey b)

/-- The order of R567 with −0 below +0. -/
def totalKey (w : Word) : Int := 2 * orderKey w + (if w = 0 then 1 else 0)

/-- FP32 minimum: canonical NaN with a NaN input, −0 below +0 (R567). -/
def fmin (a b : Word) : Word :=
  if isNan32 a || isNan32 b then nan32 else if totalKey a ≤ totalKey b then a else b
/-- FP32 maximum (R567). -/
def fmax (a b : Word) : Word :=
  if isNan32 a || isNan32 b then nan32 else if totalKey b ≤ totalKey a then a else b
/-- FP32 absolute value (R567). -/
def fabs (a : Word) : Word := if isNan32 a then nan32 else a &&& 0x7FFFFFFF
/-- FP32 negation (R567). -/
def fneg (a : Word) : Word := if isNan32 a then nan32 else a ^^^ 0x80000000

/-! ### Integers and scales -/

/-- The range of an integer format: width and, for ternary, −1 to 1. -/
def satInt (lo hi : Int) (z : Int) : Int × Nat :=
  if z < lo then (lo, evCvtSat) else if hi < z then (hi, evCvtSat) else (z, evNone)

/-- Saturation into a two's-complement width (R64). -/
def satWidth (w : Nat) (z : Int) : Int × Nat := satInt (-(2 : Int) ^ (w - 1)) ((2 : Int) ^ (w - 1) - 1) z

/-- The low `w` bits of an integer. -/
def intCode (w : Nat) (z : Int) : Nat := (z % (2 : Int) ^ w).toNat

/-- A value rounded to an integer, to nearest even; `none` for NaN, the sign for an infinity. -/
def roundInt (v : FVal) : Option Int ⊕ Bool :=
  match v with
  | .nan => .inl none
  | .inf n => .inr n
  | .fin n m e =>
    let a : Int := if 0 ≤ e then ((m * 2 ^ e.toNat : Nat) : Int) else (roundShift .nearest m (-e).toNat : Int)
    .inl (some (if n then -a else a))

/-- A value converted to an integer between `lo` and `hi`: NaN gives 0 with `CVT_NAN`, ±∞ saturates (R64). -/
def toIntRange (lo hi : Int) (v : FVal) : Int × Nat :=
  match roundInt v with
  | .inl none => (0, evCvtNan)
  | .inl (some z) => satInt lo hi z
  | .inr n => (if n then lo else hi, evCvtSat)

/-- The exact value of an integer. -/
def intVal (z : Int) : FVal := ofInt false z 0

/-- The exponent ⌊log2 |x|⌋ of a non-zero finite value. -/
def floorLog2 (m : Nat) (e : Int) : Int := (Nat.log2 m : Int) + e

/-- A conversion to E8M0 (R63). An infinity gives 0xFF, which is no saturated value, and no event (R62; DESIGN CHOICE, log entry 107). -/
def toE8M0 (v : FVal) : Nat :=
  match v with
  | .nan => 0xFF
  | .inf _ => 0xFF
  | .fin _ m e => if m = 0 then 0 else (max 0 (min 254 (floorLog2 m e + 127))).toNat

/-- The value of an E8M0 code (R46, R63). -/
def ofE8M0 (c : Nat) : FVal := if c = 0xFF then .nan else .fin false 1 ((c : Int) - 127)

/-- A ternary code read: 10 is taken as 0 with `FMT_BAD` (R45). -/
def ternVal (c : Nat) : Int × Nat :=
  match c % 4 with
  | 0 => (0, evNone) | 1 => (1, evNone) | 3 => (-1, evNone) | _ => (0, evFmtBad)

/-- The value that code `c` of a format stands for, with its events; `tern` reads format 11 as ternary. INT32 and
formats of integers are exact integers. -/
def decodeElem (fmt : Nat) (tern : Bool) (c : Nat) : FVal × Nat :=
  match floatFmt fmt with
  | some f => (floatDecode f c, evNone)
  | none =>
    if fmt = 15 then (ofE8M0 c, evNone)
    else if fmt = 11 ∧ tern then (intVal (ternVal c).1, (ternVal c).2)
    else (intVal (signed (fmtWidth fmt) c), evNone)

/-- A value converted into a format: code and events (R61 to R64). `tern` gives ternary codes for format 11. -/
def encodeElem (fmt : Nat) (tern : Bool) (rd : Rounding) (v : FVal) : Nat × Nat :=
  match floatFmt fmt with
  | some f => floatEncode f rd v
  | none =>
    if fmt = 15 then (toE8M0 v, evNone)
    else
      let r := if fmt = 11 ∧ tern then toIntRange (-1) 1 v
        else toIntRange (-(2 : Int) ^ (fmtWidth fmt - 1)) ((2 : Int) ^ (fmtWidth fmt - 1) - 1) v
      (intCode (fmtWidth fmt) r.1, r.2)

/-- The implicit factor F of a block-scaled element, as a power of two (R49). -/
def blockF (fmt : Nat) : Int := if fmt = 9 then -6 else if fmt = 10 then -2 else 0
/-- Emax of R51, step 3. -/
def blockEmax (fmt : Nat) : Int :=
  match fmt with | 4 => 8 | 5 => 15 | 6 => 4 | 7 => 2 | 8 => 2 | _ => 0

/-- A block-scaled element's value (R49, R50). -/
def blockElem (fmt scale c : Nat) : FVal :=
  if scale = 0xFF then .nan
  else scaleVal ((scale : Int) - 127 + blockF fmt) (decodeElem fmt false c).1

/-! ### Packing (R47) -/

/-- The bit position of element `i` of width `w` in a packed byte string. -/
def packBit (w i : Nat) : Nat := w * i

/-- Element `i` of width `w` of bytes held as a little-endian number. -/
def packedElem (w : Nat) (bits i : Nat) : Nat := bitField bits (packBit w i) w

/-- Elements packed from element 0 into a little-endian number. -/
def packElems (w : Nat) : List Nat → Nat
  | [] => 0
  | c :: t => c % 2 ^ w + 2 ^ w * packElems w t

/-! ### Generators and stochastic draws -/

/-- One round of R225 on (x0, x1, x2, x3, r0, r1). -/
def genRound (x : Nat × Nat × Nat × Nat × Nat × Nat) : Nat × Nat × Nat × Nat × Nat × Nat :=
  let (x0, x1, x2, x3, r0, r1) := x
  let p0 := 0xD2511F53 * x0
  let p1 := 0xCD9E8D57 * x2
  let y0 := Nat.xor (Nat.xor (p1 / 2 ^ 32) x1) r0
  let y2 := Nat.xor (Nat.xor (p0 / 2 ^ 32) x3) r1
  (y0, p1 % 2 ^ 32, y2, p0 % 2 ^ 32, (r0 + 0x9E3779B9) % 2 ^ 32, (r1 + 0xBB67AE85) % 2 ^ 32)

/-- `n` rounds. -/
def genRounds : Nat → Nat × Nat × Nat × Nat × Nat × Nat → Nat × Nat × Nat × Nat × Nat × Nat
  | 0, x => x
  | n + 1, x => genRounds n (genRound x)

/-- The counter-based generator (R225): 128 output bits from a 128-bit key and a 64-bit counter. -/
def generator (key ctr : Nat) : Nat :=
  let (x0, x1, x2, x3, _, _) := genRounds 10
    (ctr % 2 ^ 32, ctr / 2 ^ 32 % 2 ^ 32, bitField key 64 32, bitField key 96 32, bitField key 0 32, bitField key 32 32)
  x0 + 2 ^ 32 * x1 + 2 ^ 64 * x2 + 2 ^ 96 * x3

/-- The draw r of element `e` of a stochastic conversion (R67). -/
def stochDraw (seed imageId slice step ltile conv e : Nat) : Nat :=
  let key := seed % 2 ^ 64 + 2 ^ 64 * (imageId % 2 ^ 32) + 2 ^ 96 * (slice % 64)
  let ctr := 2 ^ 32 * (step % 2 ^ 32) + 2 ^ 22 * (ltile % 1024) + 2 ^ 12 * (conv % 1024) + (e / 8) % 4096
  bitField (generator key ctr) (16 * (e % 8)) 16

/-! ### Block quantisation (R51) -/

/-- The scale code and the element codes of a block of FP32 values, with events. `rd e` rounds element `e`. -/
def quantBlock (fmt : Nat) (rd : Nat → Rounding) (xs : List Word) : Nat × List Nat × Nat :=
  let vs := xs.map ofFP32
  if vs.any (fun v => match v with | .fin _ _ _ => false | _ => true) then (0xFF, xs.map (fun _ => 0), evCvtNan)
  else
    let x : Int := vs.foldl (fun acc v => match v with
      | .fin _ m e => if m = 0 then acc else max acc (max (-127) (min 127 (floorLog2 m e - blockEmax fmt)))
      | _ => acc) (-127)
    let cs := (List.range xs.length).map (fun i =>
      encodeElem fmt false (rd i) (scaleVal (-(x + blockF fmt)) (nth FVal.nan vs i)))
    ((x + 127).toNat, cs.map (fun c => c.1), cs.foldl (fun a c => evAdd a c.2) evNone)

/-! ### Block floating point of width `w` (R70 to R72) -/

/-- The components' smallest exponent (R71), searched from `e`. -/
def bfpExp (w : Nat) (cs : List Int) : Nat → Nat → Nat
  | 0, e => e
  | f + 1, e =>
    if cs.all (fun c => decide (-(2 : Int) ^ (w - 1) ≤ c / (2 : Int) ^ e ∧ c / (2 : Int) ^ e ≤ (2 : Int) ^ (w - 1) - 1)) then e
    else bfpExp w cs f (e + 1)

/-- Mantissas packed most significant bit first (R70), as a big-endian number of `8 * nbytes` bits. -/
def bfpPack (w nbytes : Nat) (ms : List Int) : List Byte :=
  let v := ms.foldl (fun a m => a * 2 ^ w + intCode w m) 0
  (natToBytes nbytes (v * 2 ^ (8 * nbytes - w * ms.length))).reverse

/-- Compression of one resource block of 24 components (R71). -/
def bfpCompress (w : Nat) (cs : List Int) : List Byte :=
  let e := bfpExp w cs (16 - w) 0
  BitVec.ofNat 8 e :: bfpPack w ((24 * w + 7) / 8) (cs.map (fun c => c / (2 : Int) ^ e))

/-- Expansion of one block: 24 components and the number of them that saturated (R72). -/
def bfpExpand (w : Nat) (bytes : List Byte) : List Int × Nat :=
  let e := (nth 0 bytes 0).toNat % 16
  let nb := (24 * w + 7) / 8
  let v := bytesToNat ((bytes.drop 1).take nb).reverse
  let raw := (List.range 24).map (fun i => signed w (v / 2 ^ (8 * nb - w * (i + 1))) * (2 : Int) ^ e)
  (raw.map (fun z => (satWidth 16 z).1), (raw.filter (fun z => decide ((satWidth 16 z).2 ≠ 0))).length)

/-! ### Cyclic redundancy checks -/

/-- One byte of a reflected CRC of polynomial `poly` (already reflected). -/
def crcByte (poly : Nat) (crc : Nat) (b : Byte) : Nat :=
  let rec go : Nat → Nat → Nat
    | 0, c => c
    | n + 1, c => go n (if c % 2 = 1 then Nat.xor (c / 2) poly else c / 2)
  go 8 (Nat.xor crc b.toNat)

/-- CRC-32C of a byte string (R138). -/
def crc32c (l : List Byte) : Nat :=
  Nat.xor (l.foldl (fun c b => crcByte 0x82F63B78 c b) 0xFFFFFFFF) 0xFFFFFFFF

/-- CRC-64 of R516: reflected polynomial, initial value all ones, final complement. -/
def crc64 (l : List Byte) : Nat :=
  Nat.xor (l.foldl (fun c b => crcByte 0xC96C5795D7870F42 c b) (2 ^ 64 - 1)) (2 ^ 64 - 1)

end Sys2Proof.Machine
end

