-- ==== Sys2Proof/Machine/Functions.lean ====
section
/-! DEFINITION. The vector unit's functions with a bounded error (R86): the exact value of each function to about 250
bits, and the bound that a free result has to keep (DESIGN CHOICE, log entry 4). A result that keeps the bound is the free one;
where the free one does not keep it, the result is the exact value rounded. -/

namespace Sys2Proof.Machine

/-- Fraction bits of the fixed-point values of this file. -/
def fxBits : Nat := 256
/-- One. -/
def fxOne : Int := 2 ^ fxBits
/-- ln 2. -/
def fxLn2 : Int := 0xb17217f7d1cf79abc9e3b39803f2f6af40f343267298b62d8a0d175b8baafa2b
/-- 2π. -/
def fxTwoPi : Int := 0x6487ed5110b4611a62633145c06e0e68948127044533e63a0105df531d89cd912

/-- A signed multiple of a power of two as a fixed-point value. -/
def toFx (neg : Bool) (m : Nat) (e : Int) : Int :=
  let k := e + fxBits
  let a : Int := if 0 ≤ k then (m : Int) * 2 ^ k.toNat else (m : Int) / 2 ^ (-k).toNat
  if neg then -a else a

/-- A fixed-point value times 2^k. -/
def ofFx (x : Int) (k : Int) : FVal := .fin (decide (x < 0)) x.natAbs (k - fxBits)

/-- The exponential series from term `n` with value `t`. -/
def expSeries (r : Int) : Nat → Nat → Int → Int
  | 0, _, t => t
  | f + 1, n, t => t + expSeries r f (n + 1) (t * r / fxOne / (n + 1 : Nat))

/-- An alternating series whose term of degree `n` is −r²/(n(n−1)) of the one before. -/
def altSeries (r2 : Int) : Nat → Nat → Int → Int
  | 0, _, t => t
  | f + 1, n, t => t + altSeries r2 f (n + 2) (-(t * r2 / fxOne / ((n + 1) * (n + 2) : Nat)))

/-- The series of atanh: z^n / n for odd n. -/
def atanhSeries (z2 : Int) : Nat → Nat → Int → Int
  | 0, n, p => p / (n : Int)
  | f + 1, n, p => p / (n : Int) + atanhSeries z2 f (n + 2) (p * z2 / fxOne)

/-- 2^x as a fraction and a power of two. -/
def fxExp2 (x : Int) : Int × Int := (expSeries ((x % fxOne) * fxLn2 / fxOne) 60 0 fxOne, x / fxOne)
/-- e^x as a fraction and a power of two. -/
def fxExp (x : Int) : Int × Int := (expSeries (x % fxLn2) 60 0 fxOne, x / fxLn2)
/-- ln of m × 2^e, m not zero. -/
def fxLn (m : Nat) (e : Int) : Int :=
  let l := Nat.log2 m
  let t := toFx false m (-(l : Int))
  let z := (t - fxOne) * fxOne / (t + fxOne)
  2 * atanhSeries (z * z / fxOne) 80 1 z + ((l : Int) + e) * fxLn2
/-- The sine of a fixed-point value. -/
def fxSin (x : Int) : Int := let r := x % fxTwoPi; altSeries (r * r / fxOne) 48 1 r
/-- The cosine of a fixed-point value. -/
def fxCos (x : Int) : Int := let r := x % fxTwoPi; altSeries (r * r / fxOne) 48 0 fxOne

/-- The distance of two finite values and a multiple `c` × 2^`u`, compared at one scale. -/
def fvalWithin (a b : FVal) (c : Nat) (u : Int) : Bool :=
  match a, b with
  | .fin na ma ea, .fin nb mb eb =>
    let s := min u (min ea eb)
    let at' (n : Bool) (m : Nat) (e : Int) : Int := if n then -((m : Int) * 2 ^ (e - s).toNat) else (m : Int) * 2 ^ (e - s).toNat
    decide ((at' na ma ea - at' nb mb eb).natAbs ≤ c * 2 ^ (u - s).toNat)
  | _, _ => false

/-- The exponent of an FP32 unit in the last place at m × 2^e. -/
def ulpExp (m : Nat) (e : Int) : Int := if m = 0 then -149 else max ((Nat.log2 m : Int) + e) (-126) - 23

/-- A result within `k` ulp of the exact value: `w` where it is, or the exact value rounded (R86; DESIGN CHOICE, log entry 4). A
value that rounds past the largest finite value is infinite. -/
def withinUlps (k : Nat) (w : Word) (v : FVal) : Word :=
  match v with
  | .fin _ m e =>
    if isNan32 (toFP32 v) || decide ((toFP32 v).toNat % 2 ^ 31 = 0x7F800000) then toFP32 v
    else if fvalWithin (ofFP32 w) v k (ulpExp m e) then w else toFP32 v
  | _ => toFP32 v

/-- A result within 2^−22 of the exact value (R86; DESIGN CHOICE, log entry 4). -/
def withinAbs (w : Word) (v : FVal) : Word := if fvalWithin (ofFP32 w) v 1 (-22) then w else toFP32 v

/-- An exponential's result: no sign, since underflow gives subnormals or +0 (R86). -/
def expResult (k : Nat) (w : Word) (v : FVal) : Word := withinUlps k (w &&& 0x7FFFFFFF) v

/-- exp2 (R86): at most 1 ulp. The argument is cut to ±1,024, beyond which the result is +∞ or underflows. -/
def exp2Val (w x : Word) : Word :=
  match ofFP32 x with
  | .nan => nan32
  | .inf n => if n then 0 else 0x7F800000
  | .fin n m e =>
    let r := fxExp2 (max (-1024 * fxOne) (min (1024 * fxOne) (toFx n m (min e 200))))
    expResult 1 w (ofFx r.1 r.2)

/-- exp (R86): at most 2 ulp. -/
def expVal (w x : Word) : Word :=
  match ofFP32 x with
  | .nan => nan32
  | .inf n => if n then 0 else 0x7F800000
  | .fin n m e =>
    let r := fxExp (max (-1024 * fxOne) (min (1024 * fxOne) (toFx n m (min e 200))))
    expResult 2 w (ofFx r.1 r.2)

/-- log, and with `two` log2 (R86): at most 2 ulp on positive inputs; the result at +∞ is not stated. -/
def logVal (two : Bool) (w x : Word) : Word :=
  match ofFP32 x with
  | .nan => nan32
  | .inf n => if n then nan32 else canon32 w
  | .fin n m e =>
    if m = 0 then 0xFF800000
    else if n then nan32
    else
      let l := fxLn m e
      withinUlps 2 w (ofFx (if two then l * fxOne / fxLn2 else l) 0)

/-- tanh (R86): at most 3 ulp, ±1 at the infinities. The argument's magnitude is cut to 64. -/
def tanhVal (w x : Word) : Word :=
  match ofFP32 x with
  | .nan => nan32
  | .inf n => if n then 0xBF800000 else 0x3F800000
  | .fin n m e =>
    let r := fxExp (2 * min (64 * fxOne) (toFx false m (min e 200)))
    let a := r.1 * 2 ^ r.2.toNat
    let q := (a - fxOne) * fxOne / (a + fxOne)
    withinUlps 3 w (ofFx (if n then -q else q) 0)

/-- sigmoid (R86): at most 3 ulp, 0 at −∞ and within the bound of 1 at +∞. -/
def sigmVal (w x : Word) : Word :=
  match ofFP32 x with
  | .nan => nan32
  | .inf n => if n then 0 else withinUlps 3 w (.fin false 1 0)
  | .fin n m e =>
    let r := fxExp (min (256 * fxOne) (toFx false m (min e 200)))
    let a := r.1 * 2 ^ r.2.toNat
    withinUlps 3 w (ofFx ((if n then fxOne else a) * 2 ^ fxBits * fxOne / (a + fxOne)) (-(fxBits : Int)))

/-- sin and cos (R86): an absolute error of at most 2^−22 up to a magnitude of 2^20. -/
def trigVal (isCos : Bool) (w x : Word) : Word :=
  match ofFP32 x with
  | .fin n m e =>
    let a := toFx n m e
    withinAbs w (ofFx (if isCos then fxCos a else fxSin a) 0)
  | _ => nan32

end Sys2Proof.Machine
end

