-- ==== Sys2Proof/Machine/Registers.lean ====
section
/-! DEFINITION. The part's registers as named fields, written from the register tables of the manual: each field
has the key of its register, its lowest bit and its width (R8, R36). The key of a register is its BAR 0 offset;
a register shown through `PLN_TILE_WINDOW` has a key of its own for each tile, and one shown through
`BBA_CL_WINDOW` a key for each cluster, since their contents are kept separately (R36, R104). A 48-bit counter
has the key of its low word (R15). -/

namespace Sys2Proof.Machine

/-- A register field: its register's key, its lowest bit and its width. -/
structure Fld where
  key : Nat
  lo  : Nat
  wd  : Nat
  deriving DecidableEq, Repr

/-- The access codes of R10. -/
inductive Acc where
  | rw | ro | w1c | w1s | rc | wo | rwl
  deriving DecidableEq, Repr

/-- One row of a register table. -/
structure RegRow where
  lo    : Nat
  wd    : Nat
  acc   : Acc
  reset : Nat
  deriving DecidableEq, Repr

/-- A register, or an array of registers: first key, array dimensions (count, stride) with larger strides first,
and its fields. Bits of no field are reserved (R12). -/
structure RegDef where
  base : Nat
  dims : List (Nat × Nat)
  rows : List RegRow
  deriving DecidableEq, Repr

/-- `TILE` of `PLN_TILE_WINDOW`. -/
def PLN_TILE_WINDOW_TILE : Fld := ⟨0x100, 0, 10⟩
/-- `PRESENT` of `PLN_TILE_WINDOW`. -/
def PLN_TILE_WINDOW_PRESENT : Fld := ⟨0x100, 16, 1⟩
/-- `POWERED` of `PLN_TILE_WINDOW`. -/
def PLN_TILE_WINDOW_POWERED : Fld := ⟨0x100, 17, 1⟩
/-- `PRESENT` of `PLN_GROUP_PRESENT_LO`. -/
def PLN_GROUP_PRESENT_LO_PRESENT : Fld := ⟨0x110, 0, 32⟩
/-- `PRESENT` of `PLN_GROUP_PRESENT_HI`. -/
def PLN_GROUP_PRESENT_HI_PRESENT : Fld := ⟨0x114, 0, 32⟩
/-- `LEND` of `PLN_RADIO_GROUPS_LO`. -/
def PLN_RADIO_GROUPS_LO_LEND : Fld := ⟨0x118, 0, 32⟩
/-- `LEND` of `PLN_RADIO_GROUPS_HI`. -/
def PLN_RADIO_GROUPS_HI_LEND : Fld := ⟨0x11c, 0, 32⟩
/-- `ADDR` of `PLN_LOAD_ADDR_LO`. -/
def PLN_LOAD_ADDR_LO_ADDR : Fld := ⟨0x200, 0, 32⟩
/-- `ADDR` of `PLN_LOAD_ADDR_HI`. -/
def PLN_LOAD_ADDR_HI_ADDR : Fld := ⟨0x204, 0, 32⟩
/-- `SPACE` of `PLN_LOAD_SRC`. -/
def PLN_LOAD_SRC_SPACE : Fld := ⟨0x208, 0, 2⟩
/-- `SLICE` of `PLN_LOAD_SRC`. -/
def PLN_LOAD_SRC_SLICE : Fld := ⟨0x208, 8, 6⟩
/-- `LEN` of `PLN_LOAD_LEN`. -/
def PLN_LOAD_LEN_LEN : Fld := ⟨0x20c, 0, 32⟩
/-- `OX` of `PLN_LOAD_PLACE`. -/
def PLN_LOAD_PLACE_OX : Fld := ⟨0x210, 0, 3⟩
/-- `OY` of `PLN_LOAD_PLACE`. -/
def PLN_LOAD_PLACE_OY : Fld := ⟨0x210, 4, 3⟩
/-- `START` of `PLN_LOAD_CTRL`. -/
def PLN_LOAD_CTRL_START : Fld := ⟨0x214, 0, 1⟩
/-- `ABORT` of `PLN_LOAD_CTRL`. -/
def PLN_LOAD_CTRL_ABORT : Fld := ⟨0x214, 1, 1⟩
/-- `AUTO_ACT` of `PLN_LOAD_CTRL`. -/
def PLN_LOAD_CTRL_AUTO_ACT : Fld := ⟨0x214, 2, 1⟩
/-- `ACT` of `PLN_LOAD_CTRL`. -/
def PLN_LOAD_CTRL_ACT : Fld := ⟨0x214, 3, 1⟩
/-- `UNLOAD` of `PLN_LOAD_CTRL`. -/
def PLN_LOAD_CTRL_UNLOAD : Fld := ⟨0x214, 4, 1⟩
/-- `STAGE` of `PLN_LOAD_STATUS`. -/
def PLN_LOAD_STATUS_STAGE : Fld := ⟨0x218, 0, 3⟩
/-- `EVT` of `PLN_LOAD_STATUS`. -/
def PLN_LOAD_STATUS_EVT : Fld := ⟨0x218, 3, 1⟩
/-- `BUSY` of `PLN_LOAD_STATUS`. -/
def PLN_LOAD_STATUS_BUSY : Fld := ⟨0x218, 4, 1⟩
/-- `UNLOAD_REF` of `PLN_LOAD_STATUS`. -/
def PLN_LOAD_STATUS_UNLOAD_REF : Fld := ⟨0x218, 5, 1⟩
/-- `ERR` of `PLN_LOAD_STATUS`. -/
def PLN_LOAD_STATUS_ERR : Fld := ⟨0x218, 8, 8⟩
/-- `ERR_SECT` of `PLN_LOAD_STATUS`. -/
def PLN_LOAD_STATUS_ERR_SECT : Fld := ⟨0x218, 16, 10⟩
/-- `INDEX` of `PLN_LOAD_DETAIL`. -/
def PLN_LOAD_DETAIL_INDEX : Fld := ⟨0x21c, 0, 32⟩
/-- `ALLOW_UNSIGNED` of `PLN_IMG_POLICY`. -/
def PLN_IMG_POLICY_ALLOW_UNSIGNED : Fld := ⟨0x220, 0, 1⟩
/-- `KEY_EN` of `PLN_IMG_POLICY`. -/
def PLN_IMG_POLICY_KEY_EN : Fld := ⟨0x220, 8, 8⟩
/-- `STATE` of `PLN_SLICE_IMG`. -/
def PLN_SLICE_IMG_STATE (i : Nat) : Fld := ⟨0x300 + 4 * i, 0, 2⟩
/-- `GEN` of `PLN_SLICE_IMG`. -/
def PLN_SLICE_IMG_GEN (i : Nat) : Fld := ⟨0x300 + 4 * i, 8, 8⟩
/-- `IMAGE_ID` of `PLN_SLICE_IMGID`. -/
def PLN_SLICE_IMGID_IMAGE_ID (i : Nat) : Fld := ⟨0x400 + 4 * i, 0, 32⟩
/-- `TIMEOUT_US` of `DSP_STEP_TIMEOUT`. -/
def DSP_STEP_TIMEOUT_TIMEOUT_US : Fld := ⟨0x200010, 0, 20⟩
/-- `RATE_LOG2` of `DSP_SAMPLE_CFG`. -/
def DSP_SAMPLE_CFG_RATE_LOG2 : Fld := ⟨0x200014, 0, 3⟩
/-- `EN` of `DSP_CYC_CTRL`. -/
def DSP_CYC_CTRL_EN : Fld := ⟨0x200020, 0, 1⟩
/-- `SWITCH` of `DSP_CYC_CTRL`. -/
def DSP_CYC_CTRL_SWITCH : Fld := ⟨0x200020, 1, 1⟩
/-- `ACTIVE` of `DSP_CYC_CTRL`. -/
def DSP_CYC_CTRL_ACTIVE : Fld := ⟨0x200020, 2, 1⟩
/-- `PEND` of `DSP_CYC_CTRL`. -/
def DSP_CYC_CTRL_PEND : Fld := ⟨0x200020, 3, 1⟩
/-- `ERR` of `DSP_CYC_CTRL`. -/
def DSP_CYC_CTRL_ERR : Fld := ⟨0x200020, 4, 3⟩
/-- `ERR_WIN` of `DSP_CYC_CTRL`. -/
def DSP_CYC_CTRL_ERR_WIN : Fld := ⟨0x200020, 8, 11⟩
/-- `PAD_NS` of `DSP_CYC_GUARD`. -/
def DSP_CYC_GUARD_PAD_NS : Fld := ⟨0x200024, 0, 13⟩
/-- `FLOOR_MHZ` of `DSP_CYC_GUARD`. -/
def DSP_CYC_GUARD_FLOOR_MHZ : Fld := ⟨0x200024, 16, 12⟩
/-- `WINDOW` of `DSP_CYC_STATUS`. -/
def DSP_CYC_STATUS_WINDOW : Fld := ⟨0x200028, 0, 11⟩
/-- `SFN` of `DSP_CYC_STATUS`. -/
def DSP_CYC_STATUS_SFN : Fld := ⟨0x200028, 16, 10⟩
/-- `CUT` of `DSP_CYC_EVENT`. -/
def DSP_CYC_EVENT_CUT : Fld := ⟨0x20002c, 0, 1⟩
/-- `OVERRUN` of `DSP_CYC_EVENT`. -/
def DSP_CYC_EVENT_OVERRUN : Fld := ⟨0x20002c, 1, 1⟩
/-- `SKIP` of `DSP_CYC_EVENT`. -/
def DSP_CYC_EVENT_SKIP : Fld := ⟨0x20002c, 2, 1⟩
/-- `SWITCHED` of `DSP_CYC_EVENT`. -/
def DSP_CYC_EVENT_SWITCHED : Fld := ⟨0x20002c, 3, 1⟩
/-- `RUN` of `DSP_SLC_CTRL`. -/
def DSP_SLC_CTRL_RUN (i : Nat) : Fld := ⟨0x201000 + 64 * i, 0, 1⟩
/-- `CONT` of `DSP_SLC_CTRL`. -/
def DSP_SLC_CTRL_CONT (i : Nat) : Fld := ⟨0x201000 + 64 * i, 1, 1⟩
/-- `OVERLAP` of `DSP_SLC_CTRL`. -/
def DSP_SLC_CTRL_OVERLAP (i : Nat) : Fld := ⟨0x201000 + 64 * i, 2, 1⟩
/-- `RETRY` of `DSP_SLC_CTRL`. -/
def DSP_SLC_CTRL_RETRY (i : Nat) : Fld := ⟨0x201000 + 64 * i, 3, 1⟩
/-- `COMMIT_MGROUP` of `DSP_SLC_CTRL`. -/
def DSP_SLC_CTRL_COMMIT_MGROUP (i : Nat) : Fld := ⟨0x201000 + 64 * i, 8, 8⟩
/-- `CREDIT` of `DSP_SLC_CREDIT`. -/
def DSP_SLC_CREDIT_CREDIT (i : Nat) : Fld := ⟨0x201004 + 64 * i, 0, 16⟩
/-- `STATE` of `DSP_SLC_STATE`. -/
def DSP_SLC_STATE_STATE (i : Nat) : Fld := ⟨0x201008 + 64 * i, 0, 3⟩
/-- `CAUSE` of `DSP_SLC_STATE`. -/
def DSP_SLC_STATE_CAUSE (i : Nat) : Fld := ⟨0x201008 + 64 * i, 4, 4⟩
/-- `UNCOMMITTED` of `DSP_SLC_STATE`. -/
def DSP_SLC_STATE_UNCOMMITTED (i : Nat) : Fld := ⟨0x201008 + 64 * i, 8, 2⟩
/-- `STEP_TIMEOUT` of `DSP_SLC_EVENT`. -/
def DSP_SLC_EVENT_STEP_TIMEOUT (i : Nat) : Fld := ⟨0x20100c + 64 * i, 0, 1⟩
/-- `SEL_RANGE` of `DSP_SLC_EVENT`. -/
def DSP_SLC_EVENT_SEL_RANGE (i : Nat) : Fld := ⟨0x20100c + 64 * i, 1, 1⟩
/-- `FAULT` of `DSP_SLC_EVENT`. -/
def DSP_SLC_EVENT_FAULT (i : Nat) : Fld := ⟨0x20100c + 64 * i, 2, 1⟩
/-- `STAGE_FULL` of `DSP_SLC_EVENT`. -/
def DSP_SLC_EVENT_STAGE_FULL (i : Nat) : Fld := ⟨0x20100c + 64 * i, 3, 1⟩
/-- `EPOCH_ABORT` of `DSP_SLC_EVENT`. -/
def DSP_SLC_EVENT_EPOCH_ABORT (i : Nat) : Fld := ⟨0x20100c + 64 * i, 4, 1⟩
/-- `RERUN` of `DSP_SLC_EVENT`. -/
def DSP_SLC_EVENT_RERUN (i : Nat) : Fld := ⟨0x20100c + 64 * i, 5, 1⟩
/-- `STEP` of `DSP_SLC_STEP_LO`. -/
def DSP_SLC_STEP_LO_STEP (i : Nat) : Fld := ⟨0x201010 + 64 * i, 0, 32⟩
/-- `STEP` of `DSP_SLC_STEP_HI`. -/
def DSP_SLC_STEP_HI_STEP (i : Nat) : Fld := ⟨0x201014 + 64 * i, 0, 32⟩
/-- `USED` of `DSP_SLC_STAGE`. -/
def DSP_SLC_STAGE_USED (i : Nat) : Fld := ⟨0x201018 + 64 * i, 0, 23⟩
/-- `SAVE` of `DSP_SLC_SAVE`. -/
def DSP_SLC_SAVE_SAVE (i : Nat) : Fld := ⟨0x201030 + 64 * i, 0, 1⟩
/-- `RESTORE` of `DSP_SLC_SAVE`. -/
def DSP_SLC_SAVE_RESTORE (i : Nat) : Fld := ⟨0x201030 + 64 * i, 1, 1⟩
/-- `SAVE_OFF` of `DSP_SLC_SAVE`. -/
def DSP_SLC_SAVE_SAVE_OFF (i : Nat) : Fld := ⟨0x201030 + 64 * i, 2, 1⟩
/-- `SAVE_PEND` of `DSP_SLC_SAVE`. -/
def DSP_SLC_SAVE_SAVE_PEND (i : Nat) : Fld := ⟨0x201030 + 64 * i, 3, 1⟩
/-- `PRIO` of `DSP_SLC_SAVE`. -/
def DSP_SLC_SAVE_PRIO (i : Nat) : Fld := ⟨0x201030 + 64 * i, 8, 3⟩
/-- `SAVED` of `DSP_SLC_SAVE`. -/
def DSP_SLC_SAVE_SAVED (i : Nat) : Fld := ⟨0x201030 + 64 * i, 16, 7⟩
/-- `STATE` of `DSP_GRP_STATE`. -/
def DSP_GRP_STATE_STATE (i : Nat) : Fld := ⟨0x202000 + 4 * i, 0, 3⟩
/-- `LGROUP` of `DSP_GRP_STATE`. -/
def DSP_GRP_STATE_LGROUP (i : Nat) : Fld := ⟨0x202000 + 4 * i, 3, 6⟩
/-- `SLICE` of `DSP_GRP_STATE`. -/
def DSP_GRP_STATE_SLICE (i : Nat) : Fld := ⟨0x202000 + 4 * i, 9, 6⟩
/-- `SEG` of `DSP_GRP_STATE`. -/
def DSP_GRP_STATE_SEG (i : Nat) : Fld := ⟨0x202000 + 4 * i, 15, 12⟩
/-- `SAMPLED` of `DSP_GRP_STATE`. -/
def DSP_GRP_STATE_SAMPLED (i : Nat) : Fld := ⟨0x202000 + 4 * i, 27, 1⟩
/-- `SUSPECT` of `DSP_GRP_STATE`. -/
def DSP_GRP_STATE_SUSPECT (i : Nat) : Fld := ⟨0x202000 + 4 * i, 28, 1⟩
/-- `GUARD_NS` of `DSP_GRP_GUARD`. -/
def DSP_GRP_GUARD_GUARD_NS (i : Nat) : Fld := ⟨0x202100 + 4 * i, 0, 19⟩
/-- `BORROW` of `DSP_GRP_GUARD`. -/
def DSP_GRP_GUARD_BORROW (i : Nat) : Fld := ⟨0x202100 + 4 * i, 20, 1⟩
/-- `INTACT` of `DSP_GRP_GUARD`. -/
def DSP_GRP_GUARD_INTACT (i : Nat) : Fld := ⟨0x202100 + 4 * i, 21, 1⟩
/-- `WORD` of `DSP_CYC_WIN`. -/
def DSP_CYC_WIN_WORD (i j k : Nat) : Fld := ⟨0x280000 + 65536 * i + 32 * j + 4 * k, 0, 32⟩
/-- `PERIOD_H` of `MEM_SCRUB_CFG`. -/
def MEM_SCRUB_CFG_PERIOD_H : Fld := ⟨0x300010, 0, 8⟩
/-- `A_EN` of `MEM_SCRUB_CFG`. -/
def MEM_SCRUB_CFG_A_EN : Fld := ⟨0x300010, 8, 1⟩
/-- `B_EN` of `MEM_SCRUB_CFG`. -/
def MEM_SCRUB_CFG_B_EN : Fld := ⟨0x300010, 9, 1⟩
/-- `XT_CONFLICT` of `MEM_EVENT`. -/
def MEM_EVENT_XT_CONFLICT : Fld := ⟨0x300014, 0, 1⟩
/-- `THERM_WARN` of `MEM_EVENT`. -/
def MEM_EVENT_THERM_WARN : Fld := ⟨0x300014, 1, 1⟩
/-- `THERM_THROTTLE` of `MEM_EVENT`. -/
def MEM_EVENT_THERM_THROTTLE : Fld := ⟨0x300014, 2, 1⟩
/-- `THERM_CRIT` of `MEM_EVENT`. -/
def MEM_EVENT_THERM_CRIT : Fld := ⟨0x300014, 3, 1⟩
/-- `CH_FAIL` of `MEM_EVENT`. -/
def MEM_EVENT_CH_FAIL : Fld := ⟨0x300014, 4, 1⟩
/-- `POISON` of `MEM_EVENT`. -/
def MEM_EVENT_POISON : Fld := ⟨0x300014, 5, 1⟩
/-- `PM_DONE` of `MEM_EVENT`. -/
def MEM_EVENT_PM_DONE : Fld := ⟨0x300014, 6, 1⟩
/-- `ADDR` of `MEM_ERR_ADDR_LO`. -/
def MEM_ERR_ADDR_LO_ADDR : Fld := ⟨0x300018, 0, 32⟩
/-- `ADDR` of `MEM_ERR_ADDR_HI`. -/
def MEM_ERR_ADDR_HI_ADDR : Fld := ⟨0x30001c, 0, 8⟩
/-- `TIER_B` of `MEM_ERR_ADDR_HI`. -/
def MEM_ERR_ADDR_HI_TIER_B : Fld := ⟨0x30001c, 8, 1⟩
/-- `SLICE` of `MEM_ERR_ADDR_HI`. -/
def MEM_ERR_ADDR_HI_SLICE : Fld := ⟨0x30001c, 9, 6⟩
/-- `VALID` of `MEM_ERR_ADDR_HI`. -/
def MEM_ERR_ADDR_HI_VALID : Fld := ⟨0x30001c, 15, 1⟩
/-- `A_DONE` of `MEM_INIT`. -/
def MEM_INIT_A_DONE : Fld := ⟨0x300020, 0, 1⟩
/-- `B_DONE` of `MEM_INIT`. -/
def MEM_INIT_B_DONE : Fld := ⟨0x300020, 1, 1⟩
/-- `WORD` of `MEM_PM_DESC`. -/
def MEM_PM_DESC_WORD (i : Nat) : Fld := ⟨0x300800 + 4 * i, 0, 32⟩
/-- `SUBMIT` of `MEM_PM_CTRL`. -/
def MEM_PM_CTRL_SUBMIT : Fld := ⟨0x300820, 0, 1⟩
/-- `TAG` of `MEM_PM_STATUS`. -/
def MEM_PM_STATUS_TAG : Fld := ⟨0x300824, 0, 8⟩
/-- `RESULT` of `MEM_PM_STATUS`. -/
def MEM_PM_STATUS_RESULT : Fld := ⟨0x300824, 8, 3⟩
/-- `FULL` of `MEM_PM_STATUS`. -/
def MEM_PM_STATUS_FULL : Fld := ⟨0x300824, 11, 1⟩
/-- `QUEUED` of `MEM_PM_STATUS`. -/
def MEM_PM_STATUS_QUEUED : Fld := ⟨0x300824, 16, 9⟩
/-- `TEMP` of `MEM_HBM_STATUS`. -/
def MEM_HBM_STATUS_TEMP (i : Nat) : Fld := ⟨0x300900 + 32 * i, 0, 8⟩
/-- `STEP` of `MEM_HBM_STATUS`. -/
def MEM_HBM_STATUS_STEP (i : Nat) : Fld := ⟨0x300900 + 32 * i, 8, 2⟩
/-- `CH_FAIL` of `MEM_HBM_STATUS`. -/
def MEM_HBM_STATUS_CH_FAIL (i : Nat) : Fld := ⟨0x300900 + 32 * i, 16, 16⟩
/-- `POINT` of `MEM_INJECT`. -/
def MEM_INJECT_POINT : Fld := ⟨0x300c20, 0, 4⟩
/-- `INST` of `MEM_INJECT`. -/
def MEM_INJECT_INST : Fld := ⟨0x300c20, 4, 5⟩
/-- `ARM` of `MEM_INJECT`. -/
def MEM_INJECT_ARM : Fld := ⟨0x300c20, 31, 1⟩
/-- `PEAK` of `MEM_TC0_PEAK`. -/
def MEM_TC0_PEAK_PEAK (i : Nat) : Fld := ⟨0x300c40 + 4 * i, 0, 16⟩
/-- `CLR` of `MEM_TC0_PEAK`. -/
def MEM_TC0_PEAK_CLR (i : Nat) : Fld := ⟨0x300c40 + 4 * i, 31, 1⟩
/-- `BASE` of `MEM_SLC_A`. -/
def MEM_SLC_A_BASE (i : Nat) : Fld := ⟨0x301000 + 32 * i, 0, 13⟩
/-- `COUNT` of `MEM_SLC_A`. -/
def MEM_SLC_A_COUNT (i : Nat) : Fld := ⟨0x301000 + 32 * i, 16, 13⟩
/-- `BASE` of `MEM_SLC_B`. -/
def MEM_SLC_B_BASE (i : Nat) : Fld := ⟨0x301004 + 32 * i, 0, 13⟩
/-- `COUNT` of `MEM_SLC_B`. -/
def MEM_SLC_B_COUNT (i : Nat) : Fld := ⟨0x301004 + 32 * i, 16, 13⟩
/-- `BASE` of `MEM_SLC_IMG`. -/
def MEM_SLC_IMG_BASE (i : Nat) : Fld := ⟨0x301008 + 32 * i, 0, 13⟩
/-- `COUNT` of `MEM_SLC_IMG`. -/
def MEM_SLC_IMG_COUNT (i : Nat) : Fld := ⟨0x301008 + 32 * i, 16, 13⟩
/-- `BASE` of `MEM_SLC_SAVE`. -/
def MEM_SLC_SAVE_BASE (i : Nat) : Fld := ⟨0x30100c + 32 * i, 0, 13⟩
/-- `COUNT` of `MEM_SLC_SAVE`. -/
def MEM_SLC_SAVE_COUNT (i : Nat) : Fld := ⟨0x30100c + 32 * i, 16, 13⟩
/-- `BASE` of `MEM_SLC_STAGE`. -/
def MEM_SLC_STAGE_BASE (i : Nat) : Fld := ⟨0x301010 + 32 * i, 0, 13⟩
/-- `COUNT` of `MEM_SLC_STAGE`. -/
def MEM_SLC_STAGE_COUNT (i : Nat) : Fld := ⟨0x301010 + 32 * i, 16, 4⟩
/-- `LINES` of `MEM_SLC_STGLN`. -/
def MEM_SLC_STGLN_LINES (i : Nat) : Fld := ⟨0x301014 + 32 * i, 0, 23⟩
/-- `RATE` of `MEM_MCB_STATUS`. -/
def MEM_MCB_STATUS_RATE (i : Nat) : Fld := ⟨0x302000 + 64 * i, 0, 3⟩
/-- `STEP` of `MEM_MCB_STATUS`. -/
def MEM_MCB_STATUS_STEP (i : Nat) : Fld := ⟨0x302000 + 64 * i, 3, 2⟩
/-- `CH_FAIL` of `MEM_MCB_STATUS`. -/
def MEM_MCB_STATUS_CH_FAIL (i : Nat) : Fld := ⟨0x302000 + 64 * i, 8, 4⟩
/-- `EXT` of `MEM_XT`. -/
def MEM_XT_EXT (i : Nat) : Fld := ⟨0x310000 + 4 * i, 0, 12⟩
/-- `SPREAD` of `MEM_XT`. -/
def MEM_XT_SPREAD (i : Nat) : Fld := ⟨0x310000 + 4 * i, 12, 1⟩
/-- `TIER_B` of `MEM_XT`. -/
def MEM_XT_TIER_B (i : Nat) : Fld := ⟨0x310000 + 4 * i, 13, 1⟩
/-- `VALID` of `MEM_XT`. -/
def MEM_XT_VALID (i : Nat) : Fld := ⟨0x310000 + 4 * i, 31, 1⟩
/-- `OFF` of `STM_SLC_PROF_LO`. -/
def STM_SLC_PROF_LO_OFF (i : Nat) : Fld := ⟨0x401000 + 64 * i, 0, 32⟩
/-- `OFF` of `STM_SLC_PROF_HI`. -/
def STM_SLC_PROF_HI_OFF (i : Nat) : Fld := ⟨0x401004 + 64 * i, 0, 32⟩
/-- `ENABLE` of `STM_SLC_CTRL`. -/
def STM_SLC_CTRL_ENABLE (i : Nat) : Fld := ⟨0x401008 + 64 * i, 0, 1⟩
/-- `PROFILE_BAD` of `STM_SLC_EVENT`. -/
def STM_SLC_EVENT_PROFILE_BAD (i : Nat) : Fld := ⟨0x40100c + 64 * i, 0, 1⟩
/-- `ALLOC_FAIL` of `STM_SLC_EVENT`. -/
def STM_SLC_EVENT_ALLOC_FAIL (i : Nat) : Fld := ⟨0x40100c + 64 * i, 1, 1⟩
/-- `PAGE_LOST` of `STM_SLC_EVENT`. -/
def STM_SLC_EVENT_PAGE_LOST (i : Nat) : Fld := ⟨0x40100c + 64 * i, 2, 1⟩
/-- `OUTQ_WAIT` of `STM_SLC_EVENT`. -/
def STM_SLC_EVENT_OUTQ_WAIT (i : Nat) : Fld := ⟨0x40100c + 64 * i, 3, 1⟩
/-- `CMD_REFUSED` of `STM_SLC_EVENT`. -/
def STM_SLC_EVENT_CMD_REFUSED (i : Nat) : Fld := ⟨0x40100c + 64 * i, 4, 1⟩
/-- `PAGES` of `STM_SLC_FREE_A`. -/
def STM_SLC_FREE_A_PAGES (i : Nat) : Fld := ⟨0x401010 + 64 * i, 0, 25⟩
/-- `PAGES` of `STM_SLC_FREE_B`. -/
def STM_SLC_FREE_B_PAGES (i : Nat) : Fld := ⟨0x401014 + 64 * i, 0, 25⟩
/-- `BUSY` of `DEC_UNIT_STATUS`. -/
def DEC_UNIT_STATUS_BUSY (i : Nat) : Fld := ⟨0x500010 + 4 * i, 0, 1⟩
/-- `SLICE` of `DEC_UNIT_STATUS`. -/
def DEC_UNIT_STATUS_SLICE (i : Nat) : Fld := ⟨0x500010 + 4 * i, 1, 6⟩
/-- `QUEUED` of `DEC_UNIT_STATUS`. -/
def DEC_UNIT_STATUS_QUEUED (i : Nat) : Fld := ⟨0x500010 + 4 * i, 8, 16⟩
/-- `CLUSTER` of `BBA_CL_WINDOW`. -/
def BBA_CL_WINDOW_CLUSTER : Fld := ⟨0x600100, 0, 7⟩
/-- `POWERED` of `BBA_CL_WINDOW`. -/
def BBA_CL_WINDOW_POWERED : Fld := ⟨0x600100, 16, 1⟩
/-- `OFF_NS` of `BBA_FRAME_CFG`. -/
def BBA_FRAME_CFG_OFF_NS : Fld := ⟨0x600110, 0, 24⟩
/-- `LEAD_US` of `BBA_WAKE_CFG`. -/
def BBA_WAKE_CFG_LEAD_US : Fld := ⟨0x600114, 0, 6⟩
/-- `OFF_MIN_US` of `BBA_WAKE_CFG`. -/
def BBA_WAKE_CFG_OFF_MIN_US : Fld := ⟨0x600114, 8, 7⟩
/-- `NOTIFY_OFF` of `BBA_NOTIFY_LO`. -/
def BBA_NOTIFY_LO_NOTIFY_OFF : Fld := ⟨0x600118, 0, 32⟩
/-- `NOTIFY_OFF` of `BBA_NOTIFY_HI`. -/
def BBA_NOTIFY_HI_NOTIFY_OFF : Fld := ⟨0x60011c, 0, 8⟩
/-- `LOG2` of `BBA_NOTIFY_HI`. -/
def BBA_NOTIFY_HI_LOG2 : Fld := ⟨0x60011c, 8, 4⟩
/-- `TASK` of `BBA_TASK_START`. -/
def BBA_TASK_START_TASK : Fld := ⟨0x600120, 0, 10⟩
/-- `ADDR` of `BBA_PROG_ADDR_LO`. -/
def BBA_PROG_ADDR_LO_ADDR : Fld := ⟨0x600200, 0, 32⟩
/-- `ADDR` of `BBA_PROG_ADDR_HI`. -/
def BBA_PROG_ADDR_HI_ADDR : Fld := ⟨0x600204, 0, 32⟩
/-- `SPACE` of `BBA_PROG_SRC`. -/
def BBA_PROG_SRC_SPACE : Fld := ⟨0x600208, 0, 2⟩
/-- `SLICE` of `BBA_PROG_SRC`. -/
def BBA_PROG_SRC_SLICE : Fld := ⟨0x600208, 8, 6⟩
/-- `CL_FIRST` of `BBA_PROG_DST`. -/
def BBA_PROG_DST_CL_FIRST : Fld := ⟨0x60020c, 0, 7⟩
/-- `CL_COUNT` of `BBA_PROG_DST`. -/
def BBA_PROG_DST_CL_COUNT : Fld := ⟨0x60020c, 8, 8⟩
/-- `BUNDLE` of `BBA_PROG_DST`. -/
def BBA_PROG_DST_BUNDLE : Fld := ⟨0x60020c, 16, 12⟩
/-- `START` of `BBA_PROG_CTRL`. -/
def BBA_PROG_CTRL_START : Fld := ⟨0x600210, 0, 1⟩
/-- `BUSY` of `BBA_PROG_STATUS`. -/
def BBA_PROG_STATUS_BUSY : Fld := ⟨0x600214, 0, 1⟩
/-- `DONE` of `BBA_PROG_STATUS`. -/
def BBA_PROG_STATUS_DONE : Fld := ⟨0x600214, 1, 1⟩
/-- `ERR` of `BBA_PROG_STATUS`. -/
def BBA_PROG_STATUS_ERR : Fld := ⟨0x600214, 4, 4⟩
/-- `DETAIL` of `BBA_PROG_STATUS`. -/
def BBA_PROG_STATUS_DETAIL : Fld := ⟨0x600214, 8, 12⟩
/-- `PC` of `BBA_TASK_CFG`. -/
def BBA_TASK_CFG_PC (i : Nat) : Fld := ⟨0x640000 + 16 * i, 0, 12⟩
/-- `CL` of `BBA_TASK_CFG`. -/
def BBA_TASK_CFG_CL (i : Nat) : Fld := ⟨0x640000 + 16 * i, 12, 7⟩
/-- `SLICE` of `BBA_TASK_CFG`. -/
def BBA_TASK_CFG_SLICE (i : Nat) : Fld := ⟨0x640000 + 16 * i, 19, 6⟩
/-- `VALID` of `BBA_TASK_CFG`. -/
def BBA_TASK_CFG_VALID (i : Nat) : Fld := ⟨0x640000 + 16 * i, 31, 1⟩
/-- `MASK` of `BBA_TASK_MASK_LO`. -/
def BBA_TASK_MASK_LO_MASK (i : Nat) : Fld := ⟨0x640004 + 16 * i, 0, 32⟩
/-- `MASK` of `BBA_TASK_MASK_HI`. -/
def BBA_TASK_MASK_HI_MASK (i : Nat) : Fld := ⟨0x640008 + 16 * i, 0, 32⟩
/-- `T_OK` of `BBA_NRX`. -/
def BBA_NRX_T_OK (i : Nat) : Fld := ⟨0x650000 + 4 * i, 0, 10⟩
/-- `T_FB` of `BBA_NRX`. -/
def BBA_NRX_T_FB (i : Nat) : Fld := ⟨0x650000 + 4 * i, 10, 10⟩
/-- `ARMED` of `BBA_NRX`. -/
def BBA_NRX_ARMED (i : Nat) : Fld := ⟨0x650000 + 4 * i, 20, 1⟩
/-- `LAST` of `BBA_NRX`. -/
def BBA_NRX_LAST (i : Nat) : Fld := ⟨0x650000 + 4 * i, 21, 3⟩
/-- `QERR` of `BBH_EVENT`. -/
def BBH_EVENT_QERR : Fld := ⟨0x700010, 0, 1⟩
/-- `TX_LATE` of `BBH_EVENT`. -/
def BBH_EVENT_TX_LATE : Fld := ⟨0x700010, 1, 1⟩
/-- `FH_LATE` of `BBH_EVENT`. -/
def BBH_EVENT_FH_LATE : Fld := ⟨0x700010, 2, 1⟩
/-- `FH_MISSING` of `BBH_EVENT`. -/
def BBH_EVENT_FH_MISSING : Fld := ⟨0x700010, 3, 1⟩
/-- `MASK` of `BBH_FH_EAXC_MASK`. -/
def BBH_FH_EAXC_MASK_MASK : Fld := ⟨0x700020, 0, 16⟩
/-- `CLASS` of `BBH_Q_CFG`. -/
def BBH_Q_CFG_CLASS (i : Nat) : Fld := ⟨0x701000 + 32 * i, 0, 3⟩
/-- `PRIO` of `BBH_Q_CFG`. -/
def BBH_Q_CFG_PRIO (i : Nat) : Fld := ⟨0x701000 + 32 * i, 3, 2⟩
/-- `MODE` of `BBH_Q_CFG`. -/
def BBH_Q_CFG_MODE (i : Nat) : Fld := ⟨0x701000 + 32 * i, 5, 1⟩
/-- `EN` of `BBH_Q_CFG`. -/
def BBH_Q_CFG_EN (i : Nat) : Fld := ⟨0x701000 + 32 * i, 6, 1⟩
/-- `SLICE` of `BBH_Q_CFG`. -/
def BBH_Q_CFG_SLICE (i : Nat) : Fld := ⟨0x701000 + 32 * i, 7, 6⟩
/-- `LOG2` of `BBH_Q_CFG`. -/
def BBH_Q_CFG_LOG2 (i : Nat) : Fld := ⟨0x701000 + 32 * i, 16, 4⟩
/-- `QERR` of `BBH_Q_CFG`. -/
def BBH_Q_CFG_QERR (i : Nat) : Fld := ⟨0x701000 + 32 * i, 31, 1⟩
/-- `OFF` of `BBH_Q_RING_LO`. -/
def BBH_Q_RING_LO_OFF (i : Nat) : Fld := ⟨0x701004 + 32 * i, 0, 32⟩
/-- `OFF` of `BBH_Q_RING_HI`. -/
def BBH_Q_RING_HI_OFF (i : Nat) : Fld := ⟨0x701008 + 32 * i, 0, 8⟩
/-- `OFF` of `BBH_Q_CMPL_LO`. -/
def BBH_Q_CMPL_LO_OFF (i : Nat) : Fld := ⟨0x70100c + 32 * i, 0, 32⟩
/-- `OFF` of `BBH_Q_CMPL_HI`. -/
def BBH_Q_CMPL_HI_OFF (i : Nat) : Fld := ⟨0x701010 + 32 * i, 0, 8⟩
/-- `CONS` of `BBH_Q_STATUS`. -/
def BBH_Q_STATUS_CONS (i : Nat) : Fld := ⟨0x701014 + 32 * i, 0, 12⟩
/-- `PROD` of `BBH_Q_STATUS`. -/
def BBH_Q_STATUS_PROD (i : Nat) : Fld := ⟨0x701014 + 32 * i, 16, 12⟩
/-- `EN` of `BBH_CAR_CFG`. -/
def BBH_CAR_CFG_EN (i : Nat) : Fld := ⟨0x704000 + 4 * i, 0, 1⟩
/-- `SCS` of `BBH_CAR_CFG`. -/
def BBH_CAR_CFG_SCS (i : Nat) : Fld := ⟨0x704000 + 4 * i, 1, 1⟩
/-- `NRB` of `BBH_CAR_CFG`. -/
def BBH_CAR_CFG_NRB (i : Nat) : Fld := ⟨0x704000 + 4 * i, 2, 9⟩
/-- `T_MIN` of `BBH_CAR_CFG`. -/
def BBH_CAR_CFG_T_MIN (i : Nat) : Fld := ⟨0x704000 + 4 * i, 11, 7⟩
/-- `T_MAX` of `BBH_CAR_CFG`. -/
def BBH_CAR_CFG_T_MAX (i : Nat) : Fld := ⟨0x704000 + 4 * i, 18, 7⟩
/-- `DL_ADV` of `BBH_CAR_CFG`. -/
def BBH_CAR_CFG_DL_ADV (i : Nat) : Fld := ⟨0x704000 + 4 * i, 25, 7⟩
/-- `EAXC` of `BBH_FH_MAP_CFG`. -/
def BBH_FH_MAP_CFG_EAXC (i : Nat) : Fld := ⟨0x710000 + 16 * i, 0, 16⟩
/-- `CAR` of `BBH_FH_MAP_CFG`. -/
def BBH_FH_MAP_CFG_CAR (i : Nat) : Fld := ⟨0x710000 + 16 * i, 16, 8⟩
/-- `WIDTH` of `BBH_FH_MAP_CFG`. -/
def BBH_FH_MAP_CFG_WIDTH (i : Nat) : Fld := ⟨0x710000 + 16 * i, 24, 5⟩
/-- `METHOD` of `BBH_FH_MAP_CFG`. -/
def BBH_FH_MAP_CFG_METHOD (i : Nat) : Fld := ⟨0x710000 + 16 * i, 29, 1⟩
/-- `EN` of `BBH_FH_MAP_CFG`. -/
def BBH_FH_MAP_CFG_EN (i : Nat) : Fld := ⟨0x710000 + 16 * i, 31, 1⟩
/-- `DST` of `BBH_FH_MAP_DST_LO`. -/
def BBH_FH_MAP_DST_LO_DST (i : Nat) : Fld := ⟨0x710004 + 16 * i, 0, 32⟩
/-- `DST` of `BBH_FH_MAP_DST_HI`. -/
def BBH_FH_MAP_DST_HI_DST (i : Nat) : Fld := ⟨0x710008 + 16 * i, 0, 32⟩
/-- `SYM_STRIDE` of `BBH_FH_MAP_STR`. -/
def BBH_FH_MAP_STR_SYM_STRIDE (i : Nat) : Fld := ⟨0x71000c + 16 * i, 0, 20⟩
/-- `RLOG2` of `BBH_FH_MAP_STR`. -/
def BBH_FH_MAP_STR_RLOG2 (i : Nat) : Fld := ⟨0x71000c + 16 * i, 21, 3⟩
/-- `EVV` of `BBH_FH_MAP_STR`. -/
def BBH_FH_MAP_STR_EVV (i : Nat) : Fld := ⟨0x71000c + 16 * i, 24, 1⟩
/-- `EV` of `BBH_FH_MAP_STR`. -/
def BBH_FH_MAP_STR_EV (i : Nat) : Fld := ⟨0x71000c + 16 * i, 25, 6⟩
/-- `LINK_UP` of `ETH_EVENT`. -/
def ETH_EVENT_LINK_UP : Fld := ⟨0x800010, 0, 1⟩
/-- `LINK_DOWN` of `ETH_EVENT`. -/
def ETH_EVENT_LINK_DOWN : Fld := ⟨0x800010, 1, 1⟩
/-- `QSTOP` of `ETH_EVENT`. -/
def ETH_EVENT_QSTOP : Fld := ⟨0x800010, 2, 1⟩
/-- `TX_LATE` of `ETH_EVENT`. -/
def ETH_EVENT_TX_LATE : Fld := ⟨0x800010, 3, 1⟩
/-- `MODE` of `ETH_QUAD_CFG`. -/
def ETH_QUAD_CFG_MODE (i : Nat) : Fld := ⟨0x800100 + 4 * i, 0, 2⟩
/-- `EN` of `ETH_PORT_CTRL`. -/
def ETH_PORT_CTRL_EN (i : Nat) : Fld := ⟨0x801000 + 256 * i, 0, 1⟩
/-- `FH_EN` of `ETH_PORT_CTRL`. -/
def ETH_PORT_CTRL_FH_EN (i : Nat) : Fld := ⟨0x801000 + 256 * i, 1, 1⟩
/-- `PROMISC` of `ETH_PORT_CTRL`. -/
def ETH_PORT_CTRL_PROMISC (i : Nat) : Fld := ⟨0x801000 + 256 * i, 2, 1⟩
/-- `MCAST_EN` of `ETH_PORT_CTRL`. -/
def ETH_PORT_CTRL_MCAST_EN (i : Nat) : Fld := ⟨0x801000 + 256 * i, 3, 1⟩
/-- `MAX_FRAME` of `ETH_PORT_CTRL`. -/
def ETH_PORT_CTRL_MAX_FRAME (i : Nat) : Fld := ⟨0x801000 + 256 * i, 16, 14⟩
/-- `STATE` of `ETH_PORT_STATUS`. -/
def ETH_PORT_STATUS_STATE (i : Nat) : Fld := ⟨0x801004 + 256 * i, 0, 2⟩
/-- `FEC_LOCK` of `ETH_PORT_STATUS`. -/
def ETH_PORT_STATUS_FEC_LOCK (i : Nat) : Fld := ⟨0x801004 + 256 * i, 2, 1⟩
/-- `FH_SW_Q` of `ETH_PORT_FH`. -/
def ETH_PORT_FH_FH_SW_Q (i : Nat) : Fld := ⟨0x801008 + 256 * i, 0, 10⟩
/-- `ADDR` of `ETH_PORT_MAC_LO`. -/
def ETH_PORT_MAC_LO_ADDR (i j : Nat) : Fld := ⟨0x801010 + 256 * i + 8 * j, 0, 32⟩
/-- `ADDR` of `ETH_PORT_MAC_HI`. -/
def ETH_PORT_MAC_HI_ADDR (i j : Nat) : Fld := ⟨0x801014 + 256 * i + 8 * j, 0, 16⟩
/-- `VALID` of `ETH_PORT_MAC_HI`. -/
def ETH_PORT_MAC_HI_VALID (i j : Nat) : Fld := ⟨0x801014 + 256 * i + 8 * j, 31, 1⟩
/-- `QUEUE_E` of `ETH_VLAN_MAP`. -/
def ETH_VLAN_MAP_QUEUE_E (i j : Nat) : Fld := ⟨0x840000 + 8192 * i + 4 * j, 0, 10⟩
/-- `VALID_E` of `ETH_VLAN_MAP`. -/
def ETH_VLAN_MAP_VALID_E (i j : Nat) : Fld := ⟨0x840000 + 8192 * i + 4 * j, 15, 1⟩
/-- `QUEUE_O` of `ETH_VLAN_MAP`. -/
def ETH_VLAN_MAP_QUEUE_O (i j : Nat) : Fld := ⟨0x840000 + 8192 * i + 4 * j, 16, 10⟩
/-- `VALID_O` of `ETH_VLAN_MAP`. -/
def ETH_VLAN_MAP_VALID_O (i j : Nat) : Fld := ⟨0x840000 + 8192 * i + 4 * j, 31, 1⟩
/-- `OVH` of `TSH_PORT_CFG`. -/
def TSH_PORT_CFG_OVH (i : Nat) : Fld := ⟨0x901000 + 16 * i, 0, 8⟩
/-- `LT_LATE` of `TSH_PORT_CFG`. -/
def TSH_PORT_CFG_LT_LATE (i : Nat) : Fld := ⟨0x901000 + 16 * i, 8, 8⟩
/-- `EN` of `TSH_TXQ_CFG`. -/
def TSH_TXQ_CFG_EN (i : Nat) : Fld := ⟨0x910000 + 64 * i, 0, 1⟩
/-- `SPACE` of `TSH_TXQ_CFG`. -/
def TSH_TXQ_CFG_SPACE (i : Nat) : Fld := ⟨0x910000 + 64 * i, 1, 2⟩
/-- `LOG2` of `TSH_TXQ_CFG`. -/
def TSH_TXQ_CFG_LOG2 (i : Nat) : Fld := ⟨0x910000 + 64 * i, 3, 4⟩
/-- `PORT` of `TSH_TXQ_CFG`. -/
def TSH_TXQ_CFG_PORT (i : Nat) : Fld := ⟨0x910000 + 64 * i, 7, 5⟩
/-- `LEVEL` of `TSH_TXQ_CFG`. -/
def TSH_TXQ_CFG_LEVEL (i : Nat) : Fld := ⟨0x910000 + 64 * i, 12, 3⟩
/-- `QSTOP` of `TSH_TXQ_CFG`. -/
def TSH_TXQ_CFG_QSTOP (i : Nat) : Fld := ⟨0x910000 + 64 * i, 15, 1⟩
/-- `ADDR` of `TSH_TXQ_RING_LO`. -/
def TSH_TXQ_RING_LO_ADDR (i : Nat) : Fld := ⟨0x910004 + 64 * i, 0, 32⟩
/-- `ADDR` of `TSH_TXQ_RING_HI`. -/
def TSH_TXQ_RING_HI_ADDR (i : Nat) : Fld := ⟨0x910008 + 64 * i, 0, 32⟩
/-- `QUANTUM` of `TSH_TXQ_DRR`. -/
def TSH_TXQ_DRR_QUANTUM (i : Nat) : Fld := ⟨0x91000c + 64 * i, 0, 20⟩
/-- `RATE` of `TSH_TXQ_SHAPE`. -/
def TSH_TXQ_SHAPE_RATE (i : Nat) : Fld := ⟨0x910010 + 64 * i, 0, 16⟩
/-- `BURST` of `TSH_TXQ_BURST`. -/
def TSH_TXQ_BURST_BURST (i : Nat) : Fld := ⟨0x910014 + 64 * i, 0, 24⟩
/-- `CONS` of `TSH_TXQ_STATUS`. -/
def TSH_TXQ_STATUS_CONS (i : Nat) : Fld := ⟨0x910018 + 64 * i, 0, 32⟩
/-- `TOKENS` of `TSH_TXQ_TOKENS`. -/
def TSH_TXQ_TOKENS_TOKENS (i : Nat) : Fld := ⟨0x91001c + 64 * i, 0, 32⟩
/-- `EN` of `TSH_RXQ_CFG`. -/
def TSH_RXQ_CFG_EN (i : Nat) : Fld := ⟨0x920000 + 64 * i, 0, 1⟩
/-- `SPACE` of `TSH_RXQ_CFG`. -/
def TSH_RXQ_CFG_SPACE (i : Nat) : Fld := ⟨0x920000 + 64 * i, 1, 2⟩
/-- `LOG2` of `TSH_RXQ_CFG`. -/
def TSH_RXQ_CFG_LOG2 (i : Nat) : Fld := ⟨0x920000 + 64 * i, 3, 4⟩
/-- `BUFSZ` of `TSH_RXQ_CFG`. -/
def TSH_RXQ_CFG_BUFSZ (i : Nat) : Fld := ⟨0x920000 + 64 * i, 7, 6⟩
/-- `IRQ` of `TSH_RXQ_CFG`. -/
def TSH_RXQ_CFG_IRQ (i : Nat) : Fld := ⟨0x920000 + 64 * i, 13, 1⟩
/-- `QSTOP` of `TSH_RXQ_CFG`. -/
def TSH_RXQ_CFG_QSTOP (i : Nat) : Fld := ⟨0x920000 + 64 * i, 14, 1⟩
/-- `ADDR` of `TSH_RXQ_RING_LO`. -/
def TSH_RXQ_RING_LO_ADDR (i : Nat) : Fld := ⟨0x920004 + 64 * i, 0, 32⟩
/-- `ADDR` of `TSH_RXQ_RING_HI`. -/
def TSH_RXQ_RING_HI_ADDR (i : Nat) : Fld := ⟨0x920008 + 64 * i, 0, 32⟩
/-- `RATE` of `TSH_RXQ_POLICE`. -/
def TSH_RXQ_POLICE_RATE (i : Nat) : Fld := ⟨0x92000c + 64 * i, 0, 16⟩
/-- `BURST` of `TSH_RXQ_PBURST`. -/
def TSH_RXQ_PBURST_BURST (i : Nat) : Fld := ⟨0x920010 + 64 * i, 0, 24⟩
/-- `CONS` of `TSH_RXQ_STATUS`. -/
def TSH_RXQ_STATUS_CONS (i : Nat) : Fld := ⟨0x920014 + 64 * i, 0, 32⟩
/-- `TOKENS` of `TSH_RXQ_TOKENS`. -/
def TSH_RXQ_TOKENS_TOKENS (i : Nat) : Fld := ⟨0x920018 + 64 * i, 0, 32⟩
/-- `DA_LO` of `TSH_TPL_W0`. -/
def TSH_TPL_W0_DA_LO (i : Nat) : Fld := ⟨0x930000 + 16 * i, 0, 32⟩
/-- `DA_HI` of `TSH_TPL_W1`. -/
def TSH_TPL_W1_DA_HI (i : Nat) : Fld := ⟨0x930004 + 16 * i, 0, 16⟩
/-- `SA_LO` of `TSH_TPL_W1`. -/
def TSH_TPL_W1_SA_LO (i : Nat) : Fld := ⟨0x930004 + 16 * i, 16, 16⟩
/-- `SA_HI` of `TSH_TPL_W2`. -/
def TSH_TPL_W2_SA_HI (i : Nat) : Fld := ⟨0x930008 + 16 * i, 0, 32⟩
/-- `TCI` of `TSH_TPL_W3`. -/
def TSH_TPL_W3_TCI (i : Nat) : Fld := ⟨0x93000c + 16 * i, 0, 16⟩
/-- `VLAN` of `TSH_TPL_W3`. -/
def TSH_TPL_W3_VLAN (i : Nat) : Fld := ⟨0x93000c + 16 * i, 16, 1⟩
/-- `STEP_GO` of `TIM_CTRL`. -/
def TIM_CTRL_STEP_GO : Fld := ⟨0xa00010, 0, 1⟩
/-- `OVR_NEXT` of `TIM_CTRL`. -/
def TIM_CTRL_OVR_NEXT : Fld := ⟨0xa00010, 1, 1⟩
/-- `LOCKED` of `TIM_CTRL`. -/
def TIM_CTRL_LOCKED : Fld := ⟨0xa00010, 2, 1⟩
/-- `STEP_DONE` of `TIM_EVENT`. -/
def TIM_EVENT_STEP_DONE : Fld := ⟨0xa00014, 0, 1⟩
/-- `STEP_REF` of `TIM_EVENT`. -/
def TIM_EVENT_STEP_REF : Fld := ⟨0xa00014, 1, 1⟩
/-- `REF_LOST` of `TIM_EVENT`. -/
def TIM_EVENT_REF_LOST : Fld := ⟨0xa00014, 2, 1⟩
/-- `HOLDOVER` of `TIM_EVENT`. -/
def TIM_EVENT_HOLDOVER : Fld := ⟨0xa00014, 3, 1⟩
/-- `REF_SWITCH` of `TIM_EVENT`. -/
def TIM_EVENT_REF_SWITCH : Fld := ⟨0xa00014, 4, 1⟩
/-- `PULSE_FAULT` of `TIM_EVENT`. -/
def TIM_EVENT_PULSE_FAULT : Fld := ⟨0xa00014, 5, 1⟩
/-- `PULSE_LATE` of `TIM_EVENT`. -/
def TIM_EVENT_PULSE_LATE : Fld := ⟨0xa00014, 6, 1⟩
/-- `CAP_OVF` of `TIM_EVENT`. -/
def TIM_EVENT_CAP_OVF : Fld := ⟨0xa00014, 7, 1⟩
/-- `SYNCE_SQ` of `TIM_EVENT`. -/
def TIM_EVENT_SYNCE_SQ : Fld := ⟨0xa00014, 8, 1⟩
/-- `VALUE` of `TIM_TIME`. -/
def TIM_TIME_VALUE (i : Nat) : Fld := ⟨0xa00020 + 4 * i, 0, 32⟩
/-- `VALUE` of `TIM_RAW`. -/
def TIM_RAW_VALUE (i : Nat) : Fld := ⟨0xa00030 + 4 * i, 0, 32⟩
/-- `RATE` of `TIM_RATE`. -/
def TIM_RATE_RATE : Fld := ⟨0xa00040, 0, 32⟩
/-- `LIMIT_NS` of `TIM_STEP_LIMIT`. -/
def TIM_STEP_LIMIT_LIMIT_NS : Fld := ⟨0xa00044, 0, 31⟩
/-- `COUNT` of `TIM_STEP_CNT`. -/
def TIM_STEP_CNT_COUNT : Fld := ⟨0xa00048, 0, 16⟩
/-- `VALUE` of `TIM_STEP`. -/
def TIM_STEP_VALUE (i : Nat) : Fld := ⟨0xa00050 + 4 * i, 0, 32⟩
/-- `REF_SEL` of `TIM_PLL`. -/
def TIM_PLL_REF_SEL : Fld := ⟨0xa00060, 0, 1⟩
/-- `REF_FREQ` of `TIM_PLL`. -/
def TIM_PLL_REF_FREQ : Fld := ⟨0xa00060, 1, 2⟩
/-- `AUTO_SW` of `TIM_PLL`. -/
def TIM_PLL_AUTO_SW : Fld := ⟨0xa00060, 3, 1⟩
/-- `PLL_LOCK` of `TIM_PLL`. -/
def TIM_PLL_PLL_LOCK : Fld := ⟨0xa00060, 4, 1⟩
/-- `HOLDOVER` of `TIM_PLL`. -/
def TIM_PLL_HOLDOVER : Fld := ⟨0xa00060, 5, 1⟩
/-- `REF0_OK` of `TIM_PLL`. -/
def TIM_PLL_REF0_OK : Fld := ⟨0xa00060, 6, 1⟩
/-- `REF1_OK` of `TIM_PLL`. -/
def TIM_PLL_REF1_OK : Fld := ⟨0xa00060, 7, 1⟩
/-- `CORR` of `TIM_CORR_TX`. -/
def TIM_CORR_TX_CORR (i : Nat) : Fld := ⟨0xa00080 + 8 * i, 0, 20⟩
/-- `CORR` of `TIM_CORR_RX`. -/
def TIM_CORR_RX_CORR (i : Nat) : Fld := ⟨0xa00084 + 8 * i, 0, 20⟩
/-- `EN` of `TIM_SYNCE`. -/
def TIM_SYNCE_EN (i : Nat) : Fld := ⟨0xa000a0 + 4 * i, 0, 1⟩
/-- `PORT` of `TIM_SYNCE`. -/
def TIM_SYNCE_PORT (i : Nat) : Fld := ⟨0xa000a0 + 4 * i, 1, 5⟩
/-- `DIV` of `TIM_SYNCE`. -/
def TIM_SYNCE_DIV (i : Nat) : Fld := ⟨0xa000a0 + 4 * i, 6, 1⟩
/-- `SQ` of `TIM_SYNCE`. -/
def TIM_SYNCE_SQ (i : Nat) : Fld := ⟨0xa000a0 + 4 * i, 7, 1⟩
/-- `EN` of `TIM_PULSE_CTRL`. -/
def TIM_PULSE_CTRL_EN (i : Nat) : Fld := ⟨0xa01000 + 64 * i, 0, 1⟩
/-- `MODE` of `TIM_PULSE_CTRL`. -/
def TIM_PULSE_CTRL_MODE (i : Nat) : Fld := ⟨0xa01000 + 64 * i, 1, 1⟩
/-- `POL` of `TIM_PULSE_CTRL`. -/
def TIM_PULSE_CTRL_POL (i : Nat) : Fld := ⟨0xa01000 + 64 * i, 2, 1⟩
/-- `ACTIVE` of `TIM_PULSE_CTRL`. -/
def TIM_PULSE_CTRL_ACTIVE (i : Nat) : Fld := ⟨0xa01000 + 64 * i, 3, 1⟩
/-- `FAULT` of `TIM_PULSE_CTRL`. -/
def TIM_PULSE_CTRL_FAULT (i : Nat) : Fld := ⟨0xa01000 + 64 * i, 4, 1⟩
/-- `LATE` of `TIM_PULSE_CTRL`. -/
def TIM_PULSE_CTRL_LATE (i : Nat) : Fld := ⟨0xa01000 + 64 * i, 5, 1⟩
/-- `DRV_OFF` of `TIM_PULSE_CTRL`. -/
def TIM_PULSE_CTRL_DRV_OFF (i : Nat) : Fld := ⟨0xa01000 + 64 * i, 6, 1⟩
/-- `CFG_ERR` of `TIM_PULSE_CTRL`. -/
def TIM_PULSE_CTRL_CFG_ERR (i : Nat) : Fld := ⟨0xa01000 + 64 * i, 7, 1⟩
/-- `START` of `TIM_PULSE_START_LO`. -/
def TIM_PULSE_START_LO_START (i : Nat) : Fld := ⟨0xa01004 + 64 * i, 0, 32⟩
/-- `START` of `TIM_PULSE_START_HI`. -/
def TIM_PULSE_START_HI_START (i : Nat) : Fld := ⟨0xa01008 + 64 * i, 0, 32⟩
/-- `PERIOD` of `TIM_PULSE_PERIOD`. -/
def TIM_PULSE_PERIOD_PERIOD (i : Nat) : Fld := ⟨0xa0100c + 64 * i, 0, 32⟩
/-- `WIDTH` of `TIM_PULSE_WIDTH`. -/
def TIM_PULSE_WIDTH_WIDTH (i : Nat) : Fld := ⟨0xa01010 + 64 * i, 0, 24⟩
/-- `EN` of `TIM_CAP_CFG`. -/
def TIM_CAP_CFG_EN (i : Nat) : Fld := ⟨0xa02000 + 64 * i, 0, 1⟩
/-- `EDGE` of `TIM_CAP_CFG`. -/
def TIM_CAP_CFG_EDGE (i : Nat) : Fld := ⟨0xa02000 + 64 * i, 1, 2⟩
/-- `OVF` of `TIM_CAP_CFG`. -/
def TIM_CAP_CFG_OVF (i : Nat) : Fld := ⟨0xa02000 + 64 * i, 3, 1⟩
/-- `COUNT` of `TIM_CAP_CFG`. -/
def TIM_CAP_CFG_COUNT (i : Nat) : Fld := ⟨0xa02000 + 64 * i, 4, 5⟩
/-- `FILT` of `TIM_CAP_CFG`. -/
def TIM_CAP_CFG_FILT (i : Nat) : Fld := ⟨0xa02000 + 64 * i, 16, 8⟩
/-- `VALID` of `TIM_CAP_0`. -/
def TIM_CAP_0_VALID (i : Nat) : Fld := ⟨0xa02004 + 64 * i, 0, 1⟩
/-- `RISE` of `TIM_CAP_0`. -/
def TIM_CAP_0_RISE (i : Nat) : Fld := ⟨0xa02004 + 64 * i, 1, 1⟩
/-- `STEP` of `TIM_CAP_0`. -/
def TIM_CAP_0_STEP (i : Nat) : Fld := ⟨0xa02004 + 64 * i, 8, 8⟩
/-- `STAMP` of `TIM_CAP_1`. -/
def TIM_CAP_1_STAMP (i : Nat) : Fld := ⟨0xa02008 + 64 * i, 0, 32⟩
/-- `STAMP` of `TIM_CAP_2`. -/
def TIM_CAP_2_STAMP (i : Nat) : Fld := ⟨0xa0200c + 64 * i, 0, 32⟩
/-- `STAMP` of `TIM_CAP_3`. -/
def TIM_CAP_3_STAMP (i : Nat) : Fld := ⟨0xa02010 + 64 * i, 0, 32⟩
/-- `DEV` of `DRV_SELF`. -/
def DRV_SELF_DEV : Fld := ⟨0xb00010, 0, 12⟩
/-- `PORT_DOWN` of `DRV_EVENT`. -/
def DRV_EVENT_PORT_DOWN : Fld := ⟨0xb00014, 0, 1⟩
/-- `PORT_UP` of `DRV_EVENT`. -/
def DRV_EVENT_PORT_UP : Fld := ⟨0xb00014, 1, 1⟩
/-- `PEER_MISMATCH` of `DRV_EVENT`. -/
def DRV_EVENT_PEER_MISMATCH : Fld := ⟨0xb00014, 2, 1⟩
/-- `REFUSED` of `DRV_EVENT`. -/
def DRV_EVENT_REFUSED : Fld := ⟨0xb00014, 3, 1⟩
/-- `TTL_DROP` of `DRV_EVENT`. -/
def DRV_EVENT_TTL_DROP : Fld := ⟨0xb00014, 4, 1⟩
/-- `CTRL_DROP` of `DRV_EVENT`. -/
def DRV_EVENT_CTRL_DROP : Fld := ⟨0xb00014, 5, 1⟩
/-- `SRC_DEV` of `DRV_REFUSE_REC`. -/
def DRV_REFUSE_REC_SRC_DEV : Fld := ⟨0xb00018, 0, 12⟩
/-- `REGION` of `DRV_REFUSE_REC`. -/
def DRV_REFUSE_REC_REGION : Fld := ⟨0xb00018, 12, 12⟩
/-- `CODE` of `DRV_REFUSE_REC`. -/
def DRV_REFUSE_REC_CODE : Fld := ⟨0xb00018, 24, 4⟩
/-- `VALID` of `DRV_REFUSE_REC`. -/
def DRV_REFUSE_REC_VALID : Fld := ⟨0xb00018, 31, 1⟩
/-- `POINT` of `DRV_INJECT`. -/
def DRV_INJECT_POINT : Fld := ⟨0xb00040, 0, 4⟩
/-- `PORT` of `DRV_INJECT`. -/
def DRV_INJECT_PORT : Fld := ⟨0xb00040, 4, 4⟩
/-- `ARM` of `DRV_INJECT`. -/
def DRV_INJECT_ARM : Fld := ⟨0xb00040, 31, 1⟩
/-- `EPOCH` of `DRV_EPOCH`. -/
def DRV_EPOCH_EPOCH : Fld := ⟨0xb00200, 0, 16⟩
/-- `VALID` of `DRV_EPOCH`. -/
def DRV_EPOCH_VALID : Fld := ⟨0xb00200, 16, 1⟩
/-- `ADMITTED` of `DRV_EPOCH`. -/
def DRV_EPOCH_ADMITTED : Fld := ⟨0xb00200, 17, 1⟩
/-- `BANK` of `DRV_EPOCH`. -/
def DRV_EPOCH_BANK : Fld := ⟨0xb00200, 18, 1⟩
/-- `EPOCH` of `DRV_EPOCH_NEXT`. -/
def DRV_EPOCH_NEXT_EPOCH : Fld := ⟨0xb00204, 0, 16⟩
/-- `FIRST` of `DRV_EPOCH_NEXT`. -/
def DRV_EPOCH_NEXT_FIRST : Fld := ⟨0xb00204, 16, 1⟩
/-- `APPLY` of `DRV_EPOCH_NEXT`. -/
def DRV_EPOCH_NEXT_APPLY : Fld := ⟨0xb00204, 17, 1⟩
/-- `RTO_US` of `DRV_XPORT_CFG`. -/
def DRV_XPORT_CFG_RTO_US : Fld := ⟨0xb00210, 0, 10⟩
/-- `EPOCH_APPLIED` of `DRV_XPORT_EVENT`. -/
def DRV_XPORT_EVENT_EPOCH_APPLIED : Fld := ⟨0xb00214, 0, 1⟩
/-- `EPOCH_ERR` of `DRV_XPORT_EVENT`. -/
def DRV_XPORT_EVENT_EPOCH_ERR : Fld := ⟨0xb00214, 1, 1⟩
/-- `SUSPECT` of `DRV_XPORT_EVENT`. -/
def DRV_XPORT_EVENT_SUSPECT : Fld := ⟨0xb00214, 2, 1⟩
/-- `STALE_DROP` of `DRV_XPORT_EVENT`. -/
def DRV_XPORT_EVENT_STALE_DROP : Fld := ⟨0xb00214, 3, 1⟩
/-- `DEFER_DROP` of `DRV_XPORT_EVENT`. -/
def DRV_XPORT_EVENT_DEFER_DROP : Fld := ⟨0xb00214, 4, 1⟩
/-- `DEV` of `DRV_XPORT_PROBE`. -/
def DRV_XPORT_PROBE_DEV : Fld := ⟨0xb00218, 0, 12⟩
/-- `EN` of `DRV_PORT_CTRL`. -/
def DRV_PORT_CTRL_EN (i : Nat) : Fld := ⟨0xb01000 + 64 * i, 0, 1⟩
/-- `AUTO` of `DRV_PORT_CTRL`. -/
def DRV_PORT_CTRL_AUTO (i : Nat) : Fld := ⟨0xb01000 + 64 * i, 1, 1⟩
/-- `RETRAIN` of `DRV_PORT_CTRL`. -/
def DRV_PORT_CTRL_RETRAIN (i : Nat) : Fld := ⟨0xb01000 + 64 * i, 2, 1⟩
/-- `STATE` of `DRV_PORT_STATUS`. -/
def DRV_PORT_STATUS_STATE (i : Nat) : Fld := ⟨0xb01004 + 64 * i, 0, 3⟩
/-- `CAUSE` of `DRV_PORT_STATUS`. -/
def DRV_PORT_STATUS_CAUSE (i : Nat) : Fld := ⟨0xb01004 + 64 * i, 3, 4⟩
/-- `SEEN_DEV` of `DRV_PORT_STATUS`. -/
def DRV_PORT_STATUS_SEEN_DEV (i : Nat) : Fld := ⟨0xb01004 + 64 * i, 8, 12⟩
/-- `SEEN_PORT` of `DRV_PORT_STATUS`. -/
def DRV_PORT_STATUS_SEEN_PORT (i : Nat) : Fld := ⟨0xb01004 + 64 * i, 20, 4⟩
/-- `DOWN_EVT` of `DRV_PORT_STATUS`. -/
def DRV_PORT_STATUS_DOWN_EVT (i : Nat) : Fld := ⟨0xb01004 + 64 * i, 24, 1⟩
/-- `UP_EVT` of `DRV_PORT_STATUS`. -/
def DRV_PORT_STATUS_UP_EVT (i : Nat) : Fld := ⟨0xb01004 + 64 * i, 25, 1⟩
/-- `DEV` of `DRV_PORT_PEER`. -/
def DRV_PORT_PEER_DEV (i : Nat) : Fld := ⟨0xb01008 + 64 * i, 0, 12⟩
/-- `PORT` of `DRV_PORT_PEER`. -/
def DRV_PORT_PEER_PORT (i : Nat) : Fld := ⟨0xb01008 + 64 * i, 12, 4⟩
/-- `EXPECT` of `DRV_PORT_PEER`. -/
def DRV_PORT_PEER_EXPECT (i : Nat) : Fld := ⟨0xb01008 + 64 * i, 16, 1⟩
/-- `HEIGHT_MV` of `DRV_PORT_EYE`. -/
def DRV_PORT_EYE_HEIGHT_MV (i : Nat) : Fld := ⟨0xb0100c + 64 * i, 0, 8⟩
/-- `WIDTH` of `DRV_PORT_EYE`. -/
def DRV_PORT_EYE_WIDTH (i : Nat) : Fld := ⟨0xb0100c + 64 * i, 8, 8⟩
/-- `LANE` of `DRV_PORT_EYE`. -/
def DRV_PORT_EYE_LANE (i : Nat) : Fld := ⟨0xb0100c + 64 * i, 16, 3⟩
/-- `VALID` of `DRV_PORT_EYE`. -/
def DRV_PORT_EYE_VALID (i : Nat) : Fld := ⟨0xb0100c + 64 * i, 31, 1⟩
/-- `RXPWR` of `DRV_PORT_OPT`. -/
def DRV_PORT_OPT_RXPWR (i : Nat) : Fld := ⟨0xb01010 + 64 * i, 0, 16⟩
/-- `LANE` of `DRV_PORT_OPT`. -/
def DRV_PORT_OPT_LANE (i : Nat) : Fld := ⟨0xb01010 + 64 * i, 16, 3⟩
/-- `OPTICAL` of `DRV_PORT_OPT`. -/
def DRV_PORT_OPT_OPTICAL (i : Nat) : Fld := ⟨0xb01010 + 64 * i, 30, 1⟩
/-- `VALID` of `DRV_PORT_OPT`. -/
def DRV_PORT_OPT_VALID (i : Nat) : Fld := ⟨0xb01010 + 64 * i, 31, 1⟩
/-- `PORTS` of `DRV_ROUTE`, one of the 4,096 devices. -/
def DRV_ROUTE_PORTS (i : Nat) : Fld := ⟨0xb10000 + 4 * (i % 4096), 0, 12⟩
/-- `KIND` of `DRV_REGION_CFG`. -/
def DRV_REGION_CFG_KIND (i : Nat) : Fld := ⟨0xb20000 + 16 * i, 0, 2⟩
/-- `PERM` of `DRV_REGION_CFG`. -/
def DRV_REGION_CFG_PERM (i : Nat) : Fld := ⟨0xb20000 + 16 * i, 2, 5⟩
/-- `GATE` of `DRV_REGION_CFG`. -/
def DRV_REGION_CFG_GATE (i : Nat) : Fld := ⟨0xb20000 + 16 * i, 7, 1⟩
/-- `ORDERED` of `DRV_REGION_CFG`. -/
def DRV_REGION_CFG_ORDERED (i : Nat) : Fld := ⟨0xb20000 + 16 * i, 8, 1⟩
/-- `NRANK` of `DRV_REGION_CFG`. -/
def DRV_REGION_CFG_NRANK (i : Nat) : Fld := ⟨0xb20000 + 16 * i, 9, 6⟩
/-- `SIZE` of `DRV_REGION_CFG`. -/
def DRV_REGION_CFG_SIZE (i : Nat) : Fld := ⟨0xb20000 + 16 * i, 16, 6⟩
/-- `VALID` of `DRV_REGION_CFG`. -/
def DRV_REGION_CFG_VALID (i : Nat) : Fld := ⟨0xb20000 + 16 * i, 31, 1⟩
/-- `BASE` of `DRV_REGION_BASE_LO`. -/
def DRV_REGION_BASE_LO_BASE (i : Nat) : Fld := ⟨0xb20004 + 16 * i, 0, 32⟩
/-- `BASE` of `DRV_REGION_BASE_HI`. -/
def DRV_REGION_BASE_HI_BASE (i : Nat) : Fld := ⟨0xb20008 + 16 * i, 0, 8⟩
/-- `ARRIVE` of `DRV_REGION_BASE_HI`. -/
def DRV_REGION_BASE_HI_ARRIVE (i : Nat) : Fld := ⟨0xb20008 + 16 * i, 8, 24⟩
/-- `KEY` of `DRV_REGION_KEY`. -/
def DRV_REGION_KEY_KEY (i : Nat) : Fld := ⟨0xb2000c + 16 * i, 0, 32⟩
/-- `KEY` of `DRV_KEYLIST`. -/
def DRV_KEYLIST_KEY (i : Nat) : Fld := ⟨0xb30000 + 4 * i, 0, 32⟩
/-- `COUNT` of `DRV_MCAST_CFG`. -/
def DRV_MCAST_CFG_COUNT (i : Nat) : Fld := ⟨0xb40000 + 512 * i, 0, 7⟩
/-- `DEV` of `DRV_MCAST_MEM`. -/
def DRV_MCAST_MEM_DEV (i j : Nat) : Fld := ⟨0xb40100 + 512 * i + 4 * j, 0, 12⟩
/-- `STATE` of `DRV_MEMBER`. -/
def DRV_MEMBER_STATE (i j : Nat) : Fld := ⟨0xb60000 + 1024 * i + 4 * j, 0, 32⟩
/-- `OLD_DEV` of `DRV_REDIR_CFG`. -/
def DRV_REDIR_CFG_OLD_DEV (i : Nat) : Fld := ⟨0xb70000 + 16 * i, 0, 12⟩
/-- `VALID` of `DRV_REDIR_CFG`. -/
def DRV_REDIR_CFG_VALID (i : Nat) : Fld := ⟨0xb70000 + 16 * i, 31, 1⟩
/-- `REG_BASE` of `DRV_REDIR_SRC`. -/
def DRV_REDIR_SRC_REG_BASE (i : Nat) : Fld := ⟨0xb70004 + 16 * i, 0, 12⟩
/-- `COUNT` of `DRV_REDIR_SRC`. -/
def DRV_REDIR_SRC_COUNT (i : Nat) : Fld := ⟨0xb70004 + 16 * i, 16, 13⟩
/-- `NEW_DEV` of `DRV_REDIR_DST`. -/
def DRV_REDIR_DST_NEW_DEV (i : Nat) : Fld := ⟨0xb70008 + 16 * i, 0, 12⟩
/-- `NEW_BASE` of `DRV_REDIR_DST`. -/
def DRV_REDIR_DST_NEW_BASE (i : Nat) : Fld := ⟨0xb70008 + 16 * i, 16, 12⟩
/-- `UNANSWERED` of `DRV_DEST_STATUS`, one of the 4,096 devices. -/
def DRV_DEST_STATUS_UNANSWERED (i : Nat) : Fld := ⟨0xb80000 + 8 * (i % 4096), 0, 13⟩
/-- `SUSPECT` of `DRV_DEST_STATUS`, one of the 4,096 devices. -/
def DRV_DEST_STATUS_SUSPECT (i : Nat) : Fld := ⟨0xb80000 + 8 * (i % 4096), 13, 1⟩
/-- `MEMBER` of `DRV_DEST_STATUS`, one of the 4,096 devices. -/
def DRV_DEST_STATUS_MEMBER (i : Nat) : Fld := ⟨0xb80000 + 8 * (i % 4096), 14, 2⟩
/-- `NEXT` of `DRV_DEST_SEQ`, one of the 4,096 devices. -/
def DRV_DEST_SEQ_NEXT (i : Nat) : Fld := ⟨0xb80004 + 8 * (i % 4096), 0, 32⟩
/-- `SLICE` of `SLC_LOG_CTRL`. -/
def SLC_LOG_CTRL_SLICE (i : Nat) : Fld := ⟨0xc00100 + 16 * i, 0, 6⟩
/-- `EN` of `SLC_LOG_CTRL`. -/
def SLC_LOG_CTRL_EN (i : Nat) : Fld := ⟨0xc00100 + 16 * i, 8, 1⟩
/-- `SWAP` of `SLC_LOG_CTRL`. -/
def SLC_LOG_CTRL_SWAP (i : Nat) : Fld := ⟨0xc00100 + 16 * i, 9, 1⟩
/-- `SWAP_BUSY` of `SLC_LOG_CTRL`. -/
def SLC_LOG_CTRL_SWAP_BUSY (i : Nat) : Fld := ⟨0xc00100 + 16 * i, 10, 1⟩
/-- `ACTIVE` of `SLC_LOG_CTRL`. -/
def SLC_LOG_CTRL_ACTIVE (i : Nat) : Fld := ⟨0xc00100 + 16 * i, 11, 1⟩
/-- `OVF` of `SLC_LOG_CTRL`. -/
def SLC_LOG_CTRL_OVF (i : Nat) : Fld := ⟨0xc00100 + 16 * i, 12, 1⟩
/-- `HBASE` of `SLC_LOG_HBASE`. -/
def SLC_LOG_HBASE_HBASE (i : Nat) : Fld := ⟨0xc00104 + 16 * i, 0, 24⟩
/-- `CREATE` of `SLC_CTRL`. -/
def SLC_CTRL_CREATE (i : Nat) : Fld := ⟨0xc01000 + 128 * i, 0, 1⟩
/-- `DESTROY` of `SLC_CTRL`. -/
def SLC_CTRL_DESTROY (i : Nat) : Fld := ⟨0xc01000 + 128 * i, 1, 1⟩
/-- `EXPORT` of `SLC_CTRL`. -/
def SLC_CTRL_EXPORT (i : Nat) : Fld := ⟨0xc01000 + 128 * i, 2, 1⟩
/-- `IMPORT` of `SLC_CTRL`. -/
def SLC_CTRL_IMPORT (i : Nat) : Fld := ⟨0xc01000 + 128 * i, 3, 1⟩
/-- `STATE` of `SLC_STATE`. -/
def SLC_STATE_STATE (i : Nat) : Fld := ⟨0xc01004 + 128 * i, 0, 3⟩
/-- `CREATE_BUSY` of `SLC_STATE`. -/
def SLC_STATE_CREATE_BUSY (i : Nat) : Fld := ⟨0xc01004 + 128 * i, 3, 1⟩
/-- `CAUSE` of `SLC_STATE`. -/
def SLC_STATE_CAUSE (i : Nat) : Fld := ⟨0xc01004 + 128 * i, 4, 4⟩
/-- `XFER_ERR` of `SLC_STATE`. -/
def SLC_STATE_XFER_ERR (i : Nat) : Fld := ⟨0xc01004 + 128 * i, 8, 2⟩
/-- `XFER_BUSY` of `SLC_STATE`. -/
def SLC_STATE_XFER_BUSY (i : Nat) : Fld := ⟨0xc01004 + 128 * i, 10, 1⟩
/-- `PASID` of `SLC_PASID`. -/
def SLC_PASID_PASID (i : Nat) : Fld := ⟨0xc01008 + 128 * i, 0, 20⟩
/-- `VALID` of `SLC_PASID`. -/
def SLC_PASID_VALID (i : Nat) : Fld := ⟨0xc01008 + 128 * i, 31, 1⟩
/-- `GROUPS` of `SLC_GROUPS_LO`. -/
def SLC_GROUPS_LO_GROUPS (i : Nat) : Fld := ⟨0xc0100c + 128 * i, 0, 32⟩
/-- `GROUPS` of `SLC_GROUPS_HI`. -/
def SLC_GROUPS_HI_GROUPS (i : Nat) : Fld := ⟨0xc01010 + 128 * i, 0, 32⟩
/-- `VALUE` of `SLC_STRM_BASE`. -/
def SLC_STRM_BASE_VALUE (i : Nat) : Fld := ⟨0xc01014 + 128 * i, 0, 21⟩
/-- `VALUE` of `SLC_STRM_COUNT`. -/
def SLC_STRM_COUNT_VALUE (i : Nat) : Fld := ⟨0xc01018 + 128 * i, 0, 21⟩
/-- `BASE` of `SLC_DRV`. -/
def SLC_DRV_BASE (i : Nat) : Fld := ⟨0xc0101c + 128 * i, 0, 12⟩
/-- `COUNT` of `SLC_DRV`. -/
def SLC_DRV_COUNT (i : Nat) : Fld := ⟨0xc0101c + 128 * i, 16, 13⟩
/-- `BASE` of `SLC_KEYS`. -/
def SLC_KEYS_BASE (i : Nat) : Fld := ⟨0xc01020 + 128 * i, 0, 12⟩
/-- `COUNT` of `SLC_KEYS`. -/
def SLC_KEYS_COUNT (i : Nat) : Fld := ⟨0xc01020 + 128 * i, 16, 13⟩
/-- `BASE` of `SLC_MCAST`. -/
def SLC_MCAST_BASE (i : Nat) : Fld := ⟨0xc01024 + 128 * i, 0, 12⟩
/-- `COUNT` of `SLC_MCAST`. -/
def SLC_MCAST_COUNT (i : Nat) : Fld := ⟨0xc01024 + 128 * i, 16, 13⟩
/-- `BASE` of `SLC_ETHTX`. -/
def SLC_ETHTX_BASE (i : Nat) : Fld := ⟨0xc01028 + 128 * i, 0, 10⟩
/-- `COUNT` of `SLC_ETHTX`. -/
def SLC_ETHTX_COUNT (i : Nat) : Fld := ⟨0xc01028 + 128 * i, 16, 9⟩
/-- `BASE` of `SLC_ETHRX`. -/
def SLC_ETHRX_BASE (i : Nat) : Fld := ⟨0xc0102c + 128 * i, 0, 10⟩
/-- `COUNT` of `SLC_ETHRX`. -/
def SLC_ETHRX_COUNT (i : Nat) : Fld := ⟨0xc0102c + 128 * i, 16, 9⟩
/-- `WEIGHT` of `SLC_WEIGHT`. -/
def SLC_WEIGHT_WEIGHT (i : Nat) : Fld := ⟨0xc01030 + 128 * i, 0, 8⟩
/-- `MBX_LOG2` of `SLC_WEIGHT`. -/
def SLC_WEIGHT_MBX_LOG2 (i : Nat) : Fld := ⟨0xc01030 + 128 * i, 8, 4⟩
/-- `INDEX` of `SLC_MBX_REQ_PROD`. -/
def SLC_MBX_REQ_PROD_INDEX (i : Nat) : Fld := ⟨0xc01034 + 128 * i, 0, 32⟩
/-- `INDEX` of `SLC_MBX_REQ_CONS`. -/
def SLC_MBX_REQ_CONS_INDEX (i : Nat) : Fld := ⟨0xc01038 + 128 * i, 0, 32⟩
/-- `INDEX` of `SLC_MBX_RSP_PROD`. -/
def SLC_MBX_RSP_PROD_INDEX (i : Nat) : Fld := ⟨0xc0103c + 128 * i, 0, 32⟩
/-- `INDEX` of `SLC_MBX_RSP_CONS`. -/
def SLC_MBX_RSP_CONS_INDEX (i : Nat) : Fld := ⟨0xc01040 + 128 * i, 0, 32⟩
/-- `MBX_REQ` of `SLC_EVENT`. -/
def SLC_EVENT_MBX_REQ (i : Nat) : Fld := ⟨0xc01044 + 128 * i, 0, 1⟩
/-- `DB_REF` of `SLC_EVENT`. -/
def SLC_EVENT_DB_REF (i : Nat) : Fld := ⟨0xc01044 + 128 * i, 1, 1⟩
/-- `XFER_DONE` of `SLC_EVENT`. -/
def SLC_EVENT_XFER_DONE (i : Nat) : Fld := ⟨0xc01044 + 128 * i, 2, 1⟩
/-- `FREED` of `SLC_EVENT`. -/
def SLC_EVENT_FREED (i : Nat) : Fld := ⟨0xc01044 + 128 * i, 3, 1⟩
/-- `ADDR` of `SLC_XFER_LO`. -/
def SLC_XFER_LO_ADDR (i : Nat) : Fld := ⟨0xc01050 + 128 * i, 0, 32⟩
/-- `ADDR` of `SLC_XFER_HI`. -/
def SLC_XFER_HI_ADDR (i : Nat) : Fld := ⟨0xc01054 + 128 * i, 0, 32⟩
/-- `CE_GAP_MS` of `INT_CFG`. -/
def INT_CFG_CE_GAP_MS : Fld := ⟨0xd00010, 0, 16⟩
/-- `DET` of `INT_EVENT`. -/
def INT_EVENT_DET : Fld := ⟨0xd00014, 0, 1⟩
/-- `QUAR` of `INT_EVENT`. -/
def INT_EVENT_QUAR : Fld := ⟨0xd00014, 1, 1⟩
/-- `DERATE` of `INT_EVENT`. -/
def INT_EVENT_DERATE : Fld := ⟨0xd00014, 2, 1⟩
/-- `REC_LOST` of `INT_EVENT`. -/
def INT_EVENT_REC_LOST : Fld := ⟨0xd00014, 3, 1⟩
/-- `SKIP` of `INT_EVENT`. -/
def INT_EVENT_SKIP : Fld := ⟨0xd00014, 4, 1⟩
/-- `DET` of `INT_INJECT`. -/
def INT_INJECT_DET : Fld := ⟨0xd00018, 0, 8⟩
/-- `INST` of `INT_INJECT`. -/
def INT_INJECT_INST : Fld := ⟨0xd00018, 8, 16⟩
/-- `ARM` of `INT_INJECT`. -/
def INT_INJECT_ARM : Fld := ⟨0xd00018, 31, 1⟩
/-- `POOL` of `INT_POOL_LO`. -/
def INT_POOL_LO_POOL : Fld := ⟨0xd00020, 0, 32⟩
/-- `POOL` of `INT_POOL_HI`. -/
def INT_POOL_HI_POOL : Fld := ⟨0xd00024, 0, 32⟩
/-- `QUAR` of `INT_QUAR_LO`. -/
def INT_QUAR_LO_QUAR : Fld := ⟨0xd00028, 0, 32⟩
/-- `QUAR` of `INT_QUAR_HI`. -/
def INT_QUAR_HI_QUAR : Fld := ⟨0xd0002c, 0, 32⟩
/-- `EN` of `INT_DERATE_CFG`. -/
def INT_DERATE_CFG_EN : Fld := ⟨0xd00030, 0, 1⟩
/-- `DERATE_N` of `INT_DERATE_CFG`. -/
def INT_DERATE_CFG_DERATE_N : Fld := ⟨0xd00030, 8, 8⟩
/-- `WINDOW_H` of `INT_DERATE_CFG`. -/
def INT_DERATE_CFG_WINDOW_H : Fld := ⟨0xd00030, 16, 8⟩
/-- `MIN_MARGIN` of `INT_MARGIN_CFG`. -/
def INT_MARGIN_CFG_MIN_MARGIN : Fld := ⟨0xd00034, 0, 10⟩
/-- `DROOP_MV` of `INT_MARGIN_CFG`. -/
def INT_MARGIN_CFG_DROOP_MV : Fld := ⟨0xd00034, 16, 8⟩
/-- `EYE_MV` of `INT_LINK_CFG`. -/
def INT_LINK_CFG_EYE_MV : Fld := ⟨0xd00038, 0, 8⟩
/-- `OPT_MIN` of `INT_LINK_CFG`. -/
def INT_LINK_CFG_OPT_MIN : Fld := ⟨0xd00038, 16, 16⟩
/-- `MARGIN` of `INT_DIE`. -/
def INT_DIE_MARGIN (i : Nat) : Fld := ⟨0xd00040 + 4 * i, 0, 10⟩
/-- `DROOP` of `INT_DIE`. -/
def INT_DIE_DROOP (i : Nat) : Fld := ⟨0xd00040 + 4 * i, 16, 8⟩
/-- `STEPS` of `INT_DIE`. -/
def INT_DIE_STEPS (i : Nat) : Fld := ⟨0xd00040 + 4 * i, 24, 4⟩
/-- `DERATE_CLR` of `INT_DIE`. -/
def INT_DIE_DERATE_CLR (i : Nat) : Fld := ⟨0xd00040 + 4 * i, 31, 1⟩
/-- `STRICT` of `INT_SLC_CFG`. -/
def INT_SLC_CFG_STRICT (i : Nat) : Fld := ⟨0xd01000 + 16 * i, 0, 1⟩
/-- `STATE` of `HOL_LC`. -/
def HOL_LC_STATE : Fld := ⟨0xe00010, 0, 3⟩
/-- `CMD_DONE` of `HOL_EVENT`. -/
def HOL_EVENT_CMD_DONE : Fld := ⟨0xe00014, 0, 1⟩
/-- `TAMPER` of `HOL_EVENT`. -/
def HOL_EVENT_TAMPER : Fld := ⟨0xe00014, 1, 1⟩
/-- `WIPED` of `HOL_EVENT`. -/
def HOL_EVENT_WIPED : Fld := ⟨0xe00014, 2, 1⟩
/-- `WDOG` of `HOL_EVENT`. -/
def HOL_EVENT_WDOG : Fld := ⟨0xe00014, 3, 1⟩
/-- `THERM_WARN` of `HOL_EVENT`. -/
def HOL_EVENT_THERM_WARN : Fld := ⟨0xe00014, 4, 1⟩
/-- `RETAIN_FULL` of `HOL_EVENT`. -/
def HOL_EVENT_RETAIN_FULL : Fld := ⟨0xe00014, 5, 1⟩
/-- `WORD` of `HOL_CMD`. -/
def HOL_CMD_WORD (i : Nat) : Fld := ⟨0xe00100 + 4 * i, 0, 32⟩
/-- `GO` of `HOL_CMD_CTRL`. -/
def HOL_CMD_CTRL_GO : Fld := ⟨0xe00140, 0, 1⟩
/-- `BUSY` of `HOL_CMD_CTRL`. -/
def HOL_CMD_CTRL_BUSY : Fld := ⟨0xe00140, 1, 1⟩
/-- `WORD` of `HOL_RSP`. -/
def HOL_RSP_WORD (i : Nat) : Fld := ⟨0xe00180 + 4 * i, 0, 32⟩
/-- `SEAL` of `HOL_SEAL_GROUPS_LO`. -/
def HOL_SEAL_GROUPS_LO_SEAL : Fld := ⟨0xe00200, 0, 32⟩
/-- `SEAL` of `HOL_SEAL_GROUPS_HI`. -/
def HOL_SEAL_GROUPS_HI_SEAL : Fld := ⟨0xe00204, 0, 32⟩
/-- `EN_IN0` of `HOL_TAMPER`. -/
def HOL_TAMPER_EN_IN0 : Fld := ⟨0xe00210, 0, 1⟩
/-- `EN_IN1` of `HOL_TAMPER`. -/
def HOL_TAMPER_EN_IN1 : Fld := ⟨0xe00210, 1, 1⟩
/-- `IDLE_HI` of `HOL_TAMPER`. -/
def HOL_TAMPER_IDLE_HI : Fld := ⟨0xe00210, 2, 1⟩
/-- `TEST` of `HOL_TAMPER`. -/
def HOL_TAMPER_TEST : Fld := ⟨0xe00210, 3, 1⟩
/-- `SRC` of `HOL_TAMPER`. -/
def HOL_TAMPER_SRC : Fld := ⟨0xe00210, 4, 5⟩
/-- `WIPING` of `HOL_TAMPER`. -/
def HOL_TAMPER_WIPING : Fld := ⟨0xe00210, 9, 1⟩
/-- `PERIOD` of `HOL_SENS_CFG`. -/
def HOL_SENS_CFG_PERIOD : Fld := ⟨0xe00300, 0, 10⟩
/-- `TEMP` of `HOL_SENS`. -/
def HOL_SENS_TEMP (i : Nat) : Fld := ⟨0xe00400 + 4 * i, 0, 16⟩
/-- `WARN` of `HOL_SENS`. -/
def HOL_SENS_WARN (i : Nat) : Fld := ⟨0xe00400 + 4 * i, 16, 12⟩
/-- `OVER` of `HOL_SENS`. -/
def HOL_SENS_OVER (i : Nat) : Fld := ⟨0xe00400 + 4 * i, 31, 1⟩
/-- `NODE` of `SAL_CFG`. -/
def SAL_CFG_NODE : Fld := ⟨0xf00010, 0, 6⟩
/-- `EN` of `SAL_CFG`. -/
def SAL_CFG_EN : Fld := ⟨0xf00010, 8, 1⟩
/-- `BEACON_EN` of `SAL_CFG`. -/
def SAL_CFG_BEACON_EN : Fld := ⟨0xf00010, 9, 1⟩
/-- `WARDEN_EPOCH` of `SAL_CFG`. -/
def SAL_CFG_WARDEN_EPOCH : Fld := ⟨0xf00010, 10, 1⟩
/-- `PREF_B` of `SAL_CFG`. -/
def SAL_CFG_PREF_B : Fld := ⟨0xf00010, 11, 1⟩
/-- `MGMT_NODE` of `SAL_CFG`. -/
def SAL_CFG_MGMT_NODE : Fld := ⟨0xf00010, 12, 6⟩
/-- `PEER_LOST` of `SAL_EVENT`. -/
def SAL_EVENT_PEER_LOST : Fld := ⟨0xf00014, 0, 1⟩
/-- `PEER_STATE` of `SAL_EVENT`. -/
def SAL_EVENT_PEER_STATE : Fld := ⟨0xf00014, 1, 1⟩
/-- `BEACON_LOST` of `SAL_EVENT`. -/
def SAL_EVENT_BEACON_LOST : Fld := ⟨0xf00014, 2, 1⟩
/-- `LINE_FAULT` of `SAL_EVENT`. -/
def SAL_EVENT_LINE_FAULT : Fld := ⟨0xf00014, 3, 1⟩
/-- `RX_MSG` of `SAL_EVENT`. -/
def SAL_EVENT_RX_MSG : Fld := ⟨0xf00014, 4, 1⟩
/-- `TX_DONE` of `SAL_EVENT`. -/
def SAL_EVENT_TX_DONE : Fld := ⟨0xf00014, 5, 1⟩
/-- `CMD_REFUSED` of `SAL_EVENT`. -/
def SAL_EVENT_CMD_REFUSED : Fld := ⟨0xf00014, 6, 1⟩
/-- `RETRY` of `SAL_TIMING`. -/
def SAL_TIMING_RETRY : Fld := ⟨0xf00018, 0, 8⟩
/-- `RETRIES` of `SAL_TIMING`. -/
def SAL_TIMING_RETRIES : Fld := ⟨0xf00018, 8, 3⟩
/-- `MARGIN_DB` of `SAL_LOADING`. -/
def SAL_LOADING_MARGIN_DB : Fld := ⟨0xf0001c, 0, 4⟩
/-- `MAXB` of `SAL_LOADING`. -/
def SAL_LOADING_MAXB : Fld := ⟨0xf0001c, 4, 4⟩
/-- `PROBE_S` of `SAL_LOADING`. -/
def SAL_LOADING_PROBE_S : Fld := ⟨0xf0001c, 8, 8⟩
/-- `NODES` of `SAL_CMD_NODES_LO`. -/
def SAL_CMD_NODES_LO_NODES : Fld := ⟨0xf00020, 0, 32⟩
/-- `NODES` of `SAL_CMD_NODES_HI`. -/
def SAL_CMD_NODES_HI_NODES : Fld := ⟨0xf00024, 0, 32⟩
/-- `ATTN` of `SAL_HB_CTRL`. -/
def SAL_HB_CTRL_ATTN : Fld := ⟨0xf00028, 0, 1⟩
/-- `POINT` of `SAL_INJECT`. -/
def SAL_INJECT_POINT : Fld := ⟨0xf00030, 0, 4⟩
/-- `BUS` of `SAL_INJECT`. -/
def SAL_INJECT_BUS : Fld := ⟨0xf00030, 4, 1⟩
/-- `ARM` of `SAL_INJECT`. -/
def SAL_INJECT_ARM : Fld := ⟨0xf00030, 31, 1⟩
/-- `GAIN` of `SAL_BUS_CTRL`. -/
def SAL_BUS_CTRL_GAIN (i : Nat) : Fld := ⟨0xf00100 + 64 * i, 0, 3⟩
/-- `TX_EN` of `SAL_BUS_CTRL`. -/
def SAL_BUS_CTRL_TX_EN (i : Nat) : Fld := ⟨0xf00100 + 64 * i, 3, 1⟩
/-- `LINE` of `SAL_BUS_STATUS`. -/
def SAL_BUS_STATUS_LINE (i : Nat) : Fld := ⟨0xf00104 + 64 * i, 0, 3⟩
/-- `INVERT` of `SAL_BUS_STATUS`. -/
def SAL_BUS_STATUS_INVERT (i : Nat) : Fld := ⟨0xf00104 + 64 * i, 3, 1⟩
/-- `TX_OFF` of `SAL_BUS_STATUS`. -/
def SAL_BUS_STATUS_TX_OFF (i : Nat) : Fld := ⟨0xf00104 + 64 * i, 4, 1⟩
/-- `BEACON_OK` of `SAL_BUS_STATUS`. -/
def SAL_BUS_STATUS_BEACON_OK (i : Nat) : Fld := ⟨0xf00104 + 64 * i, 5, 1⟩
/-- `BEACONING` of `SAL_BUS_STATUS`. -/
def SAL_BUS_STATUS_BEACONING (i : Nat) : Fld := ⟨0xf00104 + 64 * i, 6, 1⟩
/-- `BEACON_NODE` of `SAL_BUS_STATUS`. -/
def SAL_BUS_STATUS_BEACON_NODE (i : Nat) : Fld := ⟨0xf00104 + 64 * i, 7, 6⟩
/-- `CLIP` of `SAL_BUS_STATUS`. -/
def SAL_BUS_STATUS_CLIP (i : Nat) : Fld := ⟨0xf00104 + 64 * i, 13, 1⟩
/-- `AFC` of `SAL_BUS_RX`. -/
def SAL_BUS_RX_AFC (i : Nat) : Fld := ⟨0xf00108 + 64 * i, 0, 16⟩
/-- `LEVEL` of `SAL_BUS_RX`. -/
def SAL_BUS_RX_LEVEL (i : Nat) : Fld := ⟨0xf00108 + 64 * i, 16, 8⟩
/-- `RES` of `SAL_BUS_LINE`. -/
def SAL_BUS_LINE_RES (i : Nat) : Fld := ⟨0xf0010c + 64 * i, 0, 16⟩
/-- `VP` of `SAL_BUS_LINE`. -/
def SAL_BUS_LINE_VP (i : Nat) : Fld := ⟨0xf0010c + 64 * i, 16, 8⟩
/-- `VN` of `SAL_BUS_LINE`. -/
def SAL_BUS_LINE_VN (i : Nat) : Fld := ⟨0xf0010c + 64 * i, 24, 8⟩
/-- `VIEW_A` of `SAL_PEER`. -/
def SAL_PEER_VIEW_A (i : Nat) : Fld := ⟨0xf00400 + 4 * i, 0, 2⟩
/-- `VIEW_B` of `SAL_PEER`. -/
def SAL_PEER_VIEW_B (i : Nat) : Fld := ⟨0xf00400 + 4 * i, 2, 2⟩
/-- `ATTN_A` of `SAL_PEER`. -/
def SAL_PEER_ATTN_A (i : Nat) : Fld := ⟨0xf00400 + 4 * i, 4, 1⟩
/-- `ATTN_B` of `SAL_PEER`. -/
def SAL_PEER_ATTN_B (i : Nat) : Fld := ⟨0xf00400 + 4 * i, 5, 1⟩
/-- `STATE` of `SAL_PEER`. -/
def SAL_PEER_STATE (i : Nat) : Fld := ⟨0xf00400 + 4 * i, 6, 2⟩
/-- `LVER_A` of `SAL_PEER`. -/
def SAL_PEER_LVER_A (i : Nat) : Fld := ⟨0xf00400 + 4 * i, 8, 8⟩
/-- `LVER_B` of `SAL_PEER`. -/
def SAL_PEER_LVER_B (i : Nat) : Fld := ⟨0xf00400 + 4 * i, 16, 8⟩
/-- `DST` of `SAL_TX_CTRL`. -/
def SAL_TX_CTRL_DST : Fld := ⟨0xf00800, 0, 6⟩
/-- `BCAST` of `SAL_TX_CTRL`. -/
def SAL_TX_CTRL_BCAST : Fld := ⟨0xf00800, 6, 1⟩
/-- `LEN` of `SAL_TX_CTRL`. -/
def SAL_TX_CTRL_LEN : Fld := ⟨0xf00800, 8, 11⟩
/-- `GO` of `SAL_TX_CTRL`. -/
def SAL_TX_CTRL_GO : Fld := ⟨0xf00800, 19, 1⟩
/-- `BUSY` of `SAL_TX_CTRL`. -/
def SAL_TX_CTRL_BUSY : Fld := ⟨0xf00800, 20, 1⟩
/-- `RESULT` of `SAL_TX_CTRL`. -/
def SAL_TX_CTRL_RESULT : Fld := ⟨0xf00800, 21, 2⟩
/-- `VALID` of `SAL_RX_STATUS`. -/
def SAL_RX_STATUS_VALID : Fld := ⟨0xf00808, 0, 1⟩
/-- `SRC` of `SAL_RX_STATUS`. -/
def SAL_RX_STATUS_SRC : Fld := ⟨0xf00808, 1, 6⟩
/-- `BUS` of `SAL_RX_STATUS`. -/
def SAL_RX_STATUS_BUS : Fld := ⟨0xf00808, 7, 1⟩
/-- `MTYPE` of `SAL_RX_STATUS`. -/
def SAL_RX_STATUS_MTYPE : Fld := ⟨0xf00808, 8, 4⟩
/-- `LEN` of `SAL_RX_STATUS`. -/
def SAL_RX_STATUS_LEN : Fld := ⟨0xf00808, 12, 11⟩
/-- `COUNT` of `SAL_RX_STATUS`. -/
def SAL_RX_STATUS_COUNT : Fld := ⟨0xf00808, 23, 4⟩
/-- `POP` of `SAL_RX_STATUS`. -/
def SAL_RX_STATUS_POP : Fld := ⟨0xf00808, 27, 1⟩
/-- `OVF` of `SAL_RX_STATUS`. -/
def SAL_RX_STATUS_OVF : Fld := ⟨0xf00808, 28, 1⟩
/-- `WORD` of `SAL_TXBUF`. -/
def SAL_TXBUF_WORD (i : Nat) : Fld := ⟨0xf01000 + 4 * i, 0, 32⟩
/-- `WORD` of `SAL_RXBUF`. -/
def SAL_RXBUF_WORD (i : Nat) : Fld := ⟨0xf02000 + 4 * i, 0, 32⟩
/-- `UP` of `PCI_LINK_STATUS`. -/
def PCI_LINK_STATUS_UP : Fld := ⟨0x1000010, 0, 1⟩
/-- `SPEED` of `PCI_LINK_STATUS`. -/
def PCI_LINK_STATUS_SPEED : Fld := ⟨0x1000010, 1, 3⟩
/-- `WIDTH` of `PCI_LINK_STATUS`. -/
def PCI_LINK_STATUS_WIDTH : Fld := ⟨0x1000010, 4, 5⟩
/-- `FLIT` of `PCI_LINK_STATUS`. -/
def PCI_LINK_STATUS_FLIT : Fld := ⟨0x1000010, 9, 1⟩
/-- `BME` of `PCI_LINK_STATUS`. -/
def PCI_LINK_STATUS_BME : Fld := ⟨0x1000010, 10, 1⟩
/-- `LINK_DOWN` of `PCI_EVENT`. -/
def PCI_EVENT_LINK_DOWN : Fld := ⟨0x1000014, 0, 1⟩
/-- `DMA_BLOCKED` of `PCI_EVENT`. -/
def PCI_EVENT_DMA_BLOCKED : Fld := ⟨0x1000014, 1, 1⟩
/-- `INT_LOST` of `PCI_EVENT`. -/
def PCI_EVENT_INT_LOST : Fld := ⟨0x1000014, 2, 1⟩
/-- `BOOT_EVT` of `PCI_EVENT`. -/
def PCI_EVENT_BOOT_EVT : Fld := ⟨0x1000014, 3, 1⟩
/-- `SRC` of `PCI_CPX_BOOT`. -/
def PCI_CPX_BOOT_SRC : Fld := ⟨0x1000100, 0, 1⟩
/-- `GO` of `PCI_CPX_BOOT`. -/
def PCI_CPX_BOOT_GO : Fld := ⟨0x1000100, 1, 1⟩
/-- `STAGE` of `PCI_CPX_BOOT`. -/
def PCI_CPX_BOOT_STAGE : Fld := ⟨0x1000100, 2, 3⟩
/-- `ERR` of `PCI_CPX_BOOT`. -/
def PCI_CPX_BOOT_ERR : Fld := ⟨0x1000100, 5, 3⟩
/-- `ADDR` of `PCI_CPX_BOOT_ADDR_LO`. -/
def PCI_CPX_BOOT_ADDR_LO_ADDR : Fld := ⟨0x1000104, 0, 32⟩
/-- `ADDR` of `PCI_CPX_BOOT_ADDR_HI`. -/
def PCI_CPX_BOOT_ADDR_HI_ADDR : Fld := ⟨0x1000108, 0, 32⟩
/-- `RUN` of `PCI_CORE_CFG`. -/
def PCI_CORE_CFG_RUN (i : Nat) : Fld := ⟨0x1000200 + 4 * i, 0, 1⟩
/-- `ROLE` of `PCI_CORE_CFG`. -/
def PCI_CORE_CFG_ROLE (i : Nat) : Fld := ⟨0x1000200 + 4 * i, 1, 1⟩
/-- `SLICE` of `PCI_CORE_CFG`. -/
def PCI_CORE_CFG_SLICE (i : Nat) : Fld := ⟨0x1000200 + 4 * i, 2, 6⟩
/-- `VEC` of `PCI_INT_ROUTE`. -/
def PCI_INT_ROUTE_VEC (i : Nat) : Fld := ⟨0x1010000 + 4 * i, 0, 11⟩
/-- `CORE` of `PCI_INT_ROUTE`. -/
def PCI_INT_ROUTE_CORE (i : Nat) : Fld := ⟨0x1010000 + 4 * i, 11, 5⟩
/-- `DEST` of `PCI_INT_ROUTE`. -/
def PCI_INT_ROUTE_DEST (i : Nat) : Fld := ⟨0x1010000 + 4 * i, 16, 1⟩
/-- `EN` of `PCI_INT_ROUTE`. -/
def PCI_INT_ROUTE_EN (i : Nat) : Fld := ⟨0x1010000 + 4 * i, 31, 1⟩
/-- `MAIN` of `PWR_STATE`. -/
def PWR_STATE_MAIN : Fld := ⟨0x1100010, 0, 3⟩
/-- `HUB_RUN` of `PWR_STATE`. -/
def PWR_STATE_HUB_RUN : Fld := ⟨0x1100010, 3, 1⟩
/-- `OFF_CAUSE` of `PWR_STATE`. -/
def PWR_STATE_OFF_CAUSE : Fld := ⟨0x1100010, 4, 4⟩
/-- `RESET_CAUSE` of `PWR_STATE`. -/
def PWR_STATE_RESET_CAUSE : Fld := ⟨0x1100010, 8, 4⟩
/-- `PART_RESET` of `PWR_CTRL`. -/
def PWR_CTRL_PART_RESET : Fld := ⟨0x1100014, 0, 1⟩
/-- `OFF` of `PWR_CTRL`. -/
def PWR_CTRL_OFF : Fld := ⟨0x1100014, 1, 1⟩
/-- `AUTO_ON` of `PWR_CTRL`. -/
def PWR_CTRL_AUTO_ON : Fld := ⟨0x1100014, 2, 1⟩
/-- `STEP_DONE` of `PWR_EVENT`. -/
def PWR_EVENT_STEP_DONE : Fld := ⟨0x1100018, 0, 1⟩
/-- `PLL_LOSS` of `PWR_EVENT`. -/
def PWR_EVENT_PLL_LOSS : Fld := ⟨0x1100018, 1, 1⟩
/-- `STEP` of `PWR_CPX`. -/
def PWR_CPX_STEP : Fld := ⟨0x1100020, 0, 3⟩
/-- `CUR` of `PWR_CPX`. -/
def PWR_CPX_CUR : Fld := ⟨0x1100020, 4, 3⟩
/-- `PEND` of `PWR_CPX`. -/
def PWR_CPX_PEND : Fld := ⟨0x1100020, 7, 1⟩
/-- `CAP` of `PWR_TCLK`. -/
def PWR_TCLK_CAP (i : Nat) : Fld := ⟨0x1100030 + 4 * i, 0, 3⟩
/-- `STEP` of `PWR_TCLK`. -/
def PWR_TCLK_STEP (i : Nat) : Fld := ⟨0x1100030 + 4 * i, 4, 3⟩
/-- `DERATE` of `PWR_TCLK`. -/
def PWR_TCLK_DERATE (i : Nat) : Fld := ⟨0x1100030 + 4 * i, 8, 3⟩
/-- `PEND` of `PWR_TCLK`. -/
def PWR_TCLK_PEND (i : Nat) : Fld := ⟨0x1100030 + 4 * i, 11, 1⟩
/-- `ON` of `PWR_DOM_ETQ`. -/
def PWR_DOM_ETQ_ON : Fld := ⟨0x1100040, 0, 12⟩
/-- `ON` of `PWR_DOM_DRP`. -/
def PWR_DOM_DRP_ON : Fld := ⟨0x1100044, 0, 12⟩
/-- `ON` of `PWR_DOM_TG_LO`. -/
def PWR_DOM_TG_LO_ON : Fld := ⟨0x1100050, 0, 32⟩
/-- `ON` of `PWR_DOM_TG_HI`. -/
def PWR_DOM_TG_HI_ON : Fld := ⟨0x1100054, 0, 32⟩
/-- `ON` of `PWR_DOM_CL`. -/
def PWR_DOM_CL_ON (i : Nat) : Fld := ⟨0x1100060 + 4 * i, 0, 32⟩
/-- `TG_OFF_US` of `PWR_TG_CFG`. -/
def PWR_TG_CFG_TG_OFF_US : Fld := ⟨0x1100070, 0, 16⟩
/-- `MV` of `PWR_RAIL`. -/
def PWR_RAIL_MV (i : Nat) : Fld := ⟨0x1100100 + 4 * i, 0, 16⟩
/-- `IOUT` of `PWR_RAIL`. -/
def PWR_RAIL_IOUT (i : Nat) : Fld := ⟨0x1100100 + 4 * i, 16, 15⟩
/-- `VALID` of `PWR_RAIL`. -/
def PWR_RAIL_VALID (i : Nat) : Fld := ⟨0x1100100 + 4 * i, 31, 1⟩
/-- `OWNER` of `TIL_STATE`. -/
def TIL_STATE_OWNER (i : Nat) : Fld := ⟨0x10000010 + 4096 * i, 0, 6⟩
/-- `MODE` of `TIL_STATE`. -/
def TIL_STATE_MODE (i : Nat) : Fld := ⟨0x10000010 + 4096 * i, 6, 3⟩
/-- `LEND` of `TIL_STATE`. -/
def TIL_STATE_LEND (i : Nat) : Fld := ⟨0x10000010 + 4096 * i, 9, 1⟩
/-- `DEGRADED` of `TIL_STATE`. -/
def TIL_STATE_DEGRADED (i : Nat) : Fld := ⟨0x10000010 + 4096 * i, 10, 1⟩
/-- `CTX` of `TIL_MOVER_CTX`. -/
def TIL_MOVER_CTX_CTX (i : Nat) : Fld := ⟨0x10000014 + 4096 * i, 0, 32⟩
/-- `IN_USE` of `TIL_SCB_STATUS`. -/
def TIL_SCB_STATUS_IN_USE (i : Nat) : Fld := ⟨0x10000018 + 4096 * i, 0, 7⟩
/-- `HIGH_WATER` of `TIL_SCB_STATUS`. -/
def TIL_SCB_STATUS_HIGH_WATER (i : Nat) : Fld := ⟨0x10000018 + 4096 * i, 8, 7⟩
/-- `HW_CLR` of `TIL_SCB_STATUS`. -/
def TIL_SCB_STATUS_HW_CLR (i : Nat) : Fld := ⟨0x10000018 + 4096 * i, 15, 1⟩
/-- `IN_ERROR` of `TIL_SCB_STATUS`. -/
def TIL_SCB_STATUS_IN_ERROR (i : Nat) : Fld := ⟨0x10000018 + 4096 * i, 16, 7⟩
/-- `INT_WRAP` of `TIL_ARITH_STATUS`. -/
def TIL_ARITH_STATUS_INT_WRAP (i : Nat) : Fld := ⟨0x10000020 + 4096 * i, 0, 1⟩
/-- `CVT_SAT` of `TIL_ARITH_STATUS`. -/
def TIL_ARITH_STATUS_CVT_SAT (i : Nat) : Fld := ⟨0x10000020 + 4096 * i, 1, 1⟩
/-- `CVT_NAN` of `TIL_ARITH_STATUS`. -/
def TIL_ARITH_STATUS_CVT_NAN (i : Nat) : Fld := ⟨0x10000020 + 4096 * i, 2, 1⟩
/-- `FMT_BAD` of `TIL_ARITH_STATUS`. -/
def TIL_ARITH_STATUS_FMT_BAD (i : Nat) : Fld := ⟨0x10000020 + 4096 * i, 3, 1⟩
/-- `CHK_RANGE` of `TIL_ARITH_STATUS`. -/
def TIL_ARITH_STATUS_CHK_RANGE (i : Nat) : Fld := ⟨0x10000020 + 4096 * i, 4, 1⟩
/-- `MISMATCH` of `TIL_CHK_STATUS`. -/
def TIL_CHK_STATUS_MISMATCH (i : Nat) : Fld := ⟨0x10000024 + 4096 * i, 0, 1⟩
/-- `ROW` of `TIL_CHK_STATUS`. -/
def TIL_CHK_STATUS_ROW (i : Nat) : Fld := ⟨0x10000024 + 4096 * i, 8, 6⟩
/-- `BG_EN` of `TIL_BIST_CTRL`. -/
def TIL_BIST_CTRL_BG_EN (i : Nat) : Fld := ⟨0x10000050 + 4096 * i, 0, 1⟩
/-- `RESTART` of `TIL_BIST_CTRL`. -/
def TIL_BIST_CTRL_RESTART (i : Nat) : Fld := ⟨0x10000050 + 4096 * i, 1, 1⟩
/-- `CHUNK` of `TIL_BIST_STATUS`. -/
def TIL_BIST_STATUS_CHUNK (i : Nat) : Fld := ⟨0x10000054 + 4096 * i, 0, 8⟩
/-- `PASS_DONE` of `TIL_BIST_STATUS`. -/
def TIL_BIST_STATUS_PASS_DONE (i : Nat) : Fld := ⟨0x10000054 + 4096 * i, 8, 1⟩
/-- `ROW_FAIL` of `TIL_BIST_STATUS`. -/
def TIL_BIST_STATUS_ROW_FAIL (i : Nat) : Fld := ⟨0x10000054 + 4096 * i, 9, 1⟩
/-- `SPARES_FREE` of `TIL_BIST_STATUS`. -/
def TIL_BIST_STATUS_SPARES_FREE (i : Nat) : Fld := ⟨0x10000054 + 4096 * i, 16, 5⟩
/-- `ROW` of `TIL_REPAIR_MAP`. -/
def TIL_REPAIR_MAP_ROW (i j : Nat) : Fld := ⟨0x10000060 + 4096 * i + 4 * j, 0, 12⟩
/-- `VALID` of `TIL_REPAIR_MAP`. -/
def TIL_REPAIR_MAP_VALID (i j : Nat) : Fld := ⟨0x10000060 + 4096 * i + 4 * j, 31, 1⟩
/-- `POINT` of `TIL_INJECT`. -/
def TIL_INJECT_POINT (i : Nat) : Fld := ⟨0x100000a0 + 4096 * i, 0, 4⟩
/-- `BIT` of `TIL_INJECT`. -/
def TIL_INJECT_BIT (i : Nat) : Fld := ⟨0x100000a0 + 4096 * i, 8, 8⟩
/-- `ARM` of `TIL_INJECT`. -/
def TIL_INJECT_ARM (i : Nat) : Fld := ⟨0x100000a0 + 4096 * i, 31, 1⟩
/-- `STATE` of `BBA_CL_STATUS`. -/
def BBA_CL_STATUS_STATE (i : Nat) : Fld := ⟨0x20001000 + 16384 * i, 0, 2⟩
/-- `SLICE` of `BBA_CL_STATUS`. -/
def BBA_CL_STATUS_SLICE (i : Nat) : Fld := ⟨0x20001000 + 16384 * i, 2, 6⟩
/-- `PC` of `BBA_CL_STATUS`. -/
def BBA_CL_STATUS_PC (i : Nat) : Fld := ⟨0x20001000 + 16384 * i, 8, 12⟩
/-- `FAULT_CLR` of `BBA_CL_STATUS`. -/
def BBA_CL_STATUS_FAULT_CLR (i : Nat) : Fld := ⟨0x20001000 + 16384 * i, 20, 1⟩
/-- `SAT` of `BBA_CL_FLAGS`. -/
def BBA_CL_FLAGS_SAT (i : Nat) : Fld := ⟨0x20001004 + 16384 * i, 0, 1⟩
/-- `AOV` of `BBA_CL_FLAGS`. -/
def BBA_CL_FLAGS_AOV (i : Nat) : Fld := ⟨0x20001004 + 16384 * i, 1, 1⟩
/-- `BANK_UE` of `BBA_CL_FLAGS`. -/
def BBA_CL_FLAGS_BANK_UE (i : Nat) : Fld := ⟨0x20001004 + 16384 * i, 2, 1⟩
/-- `RES_ERR` of `BBA_CL_FLAGS`. -/
def BBA_CL_FLAGS_RES_ERR (i : Nat) : Fld := ⟨0x20001004 + 16384 * i, 3, 1⟩
/-- `OWN_REF` of `BBA_CL_FLAGS`. -/
def BBA_CL_FLAGS_OWN_REF (i : Nat) : Fld := ⟨0x20001004 + 16384 * i, 4, 1⟩
/-- `IMEM_UE` of `BBA_CL_FLAGS`. -/
def BBA_CL_FLAGS_IMEM_UE (i : Nat) : Fld := ⟨0x20001004 + 16384 * i, 5, 1⟩
/-- `BG_EN` of `BBA_BIST_CTRL`. -/
def BBA_BIST_CTRL_BG_EN (i : Nat) : Fld := ⟨0x20001030 + 16384 * i, 0, 1⟩
/-- `RESTART` of `BBA_BIST_CTRL`. -/
def BBA_BIST_CTRL_RESTART (i : Nat) : Fld := ⟨0x20001030 + 16384 * i, 1, 1⟩
/-- `LANE` of `BBA_BIST_STATUS`. -/
def BBA_BIST_STATUS_LANE (i : Nat) : Fld := ⟨0x20001034 + 16384 * i, 0, 6⟩
/-- `CHUNK` of `BBA_BIST_STATUS`. -/
def BBA_BIST_STATUS_CHUNK (i : Nat) : Fld := ⟨0x20001034 + 16384 * i, 6, 3⟩
/-- `PASS_DONE` of `BBA_BIST_STATUS`. -/
def BBA_BIST_STATUS_PASS_DONE (i : Nat) : Fld := ⟨0x20001034 + 16384 * i, 9, 1⟩
/-- `ROW_FAIL` of `BBA_BIST_STATUS`. -/
def BBA_BIST_STATUS_ROW_FAIL (i : Nat) : Fld := ⟨0x20001034 + 16384 * i, 10, 1⟩
/-- `POINT` of `BBA_INJECT`. -/
def BBA_INJECT_POINT (i : Nat) : Fld := ⟨0x20001040 + 16384 * i, 0, 4⟩
/-- `LANE` of `BBA_INJECT`. -/
def BBA_INJECT_LANE (i : Nat) : Fld := ⟨0x20001040 + 16384 * i, 4, 6⟩
/-- `BIT` of `BBA_INJECT`. -/
def BBA_INJECT_BIT (i : Nat) : Fld := ⟨0x20001040 + 16384 * i, 10, 8⟩
/-- `ARM` of `BBA_INJECT`. -/
def BBA_INJECT_ARM (i : Nat) : Fld := ⟨0x20001040 + 16384 * i, 31, 1⟩
/-- `FLAGS` of `BBA_EVENT_LO`. -/
def BBA_EVENT_LO_FLAGS (i : Nat) : Fld := ⟨0x20001050 + 16384 * i, 0, 32⟩
/-- `FLAGS` of `BBA_EVENT_HI`. -/
def BBA_EVENT_HI_FLAGS (i : Nat) : Fld := ⟨0x20001054 + 16384 * i, 0, 32⟩
/-- `EV` of `BBA_EV_SET`. -/
def BBA_EV_SET_EV (i : Nat) : Fld := ⟨0x20001058 + 16384 * i, 0, 6⟩
/-- `REF_TASK` of `BBA_START_STATUS`. -/
def BBA_START_STATUS_REF_TASK (i : Nat) : Fld := ⟨0x20001060 + 16384 * i, 0, 10⟩
/-- `START_OVF` of `BBA_START_STATUS`. -/
def BBA_START_STATUS_START_OVF (i : Nat) : Fld := ⟨0x20001060 + 16384 * i, 16, 1⟩
/-- `START_REF` of `BBA_START_STATUS`. -/
def BBA_START_STATUS_START_REF (i : Nat) : Fld := ⟨0x20001060 + 16384 * i, 17, 1⟩
/-- `EV_MERGE` of `BBA_START_STATUS`. -/
def BBA_START_STATUS_EV_MERGE (i : Nat) : Fld := ⟨0x20001060 + 16384 * i, 18, 1⟩
/-- `WAKE_UNPLANNED` of `BBA_START_STATUS`. -/
def BBA_START_STATUS_WAKE_UNPLANNED (i : Nat) : Fld := ⟨0x20001060 + 16384 * i, 19, 1⟩
/-- `SAT` of `BBA_LANE_FLAGS`. -/
def BBA_LANE_FLAGS_SAT (i j : Nat) : Fld := ⟨0x20001100 + 16384 * i + 4 * j, 0, 1⟩
/-- `AOV` of `BBA_LANE_FLAGS`. -/
def BBA_LANE_FLAGS_AOV (i j : Nat) : Fld := ⟨0x20001100 + 16384 * i + 4 * j, 1, 4⟩
/-- `FEV_VALID` of `BBA_LANE_FLAGS`. -/
def BBA_LANE_FLAGS_FEV_VALID (i j : Nat) : Fld := ⟨0x20001100 + 16384 * i + 4 * j, 5, 1⟩
/-- `FEV_ACC` of `BBA_LANE_FLAGS`. -/
def BBA_LANE_FLAGS_FEV_ACC (i j : Nat) : Fld := ⟨0x20001100 + 16384 * i + 4 * j, 6, 2⟩
/-- `BANK_UE` of `BBA_LANE_FLAGS`. -/
def BBA_LANE_FLAGS_BANK_UE (i j : Nat) : Fld := ⟨0x20001100 + 16384 * i + 4 * j, 8, 1⟩
/-- `RES_ERR` of `BBA_LANE_FLAGS`. -/
def BBA_LANE_FLAGS_RES_ERR (i j : Nat) : Fld := ⟨0x20001100 + 16384 * i + 4 * j, 9, 1⟩
/-- `FEV_ITER` of `BBA_LANE_FLAGS`. -/
def BBA_LANE_FLAGS_FEV_ITER (i j : Nat) : Fld := ⟨0x20001100 + 16384 * i + 4 * j, 16, 16⟩
/-- `OWNER` of `BBA_BANK_OWN`. -/
def BBA_BANK_OWN_OWNER (i j : Nat) : Fld := ⟨0x20001200 + 16384 * i + 4 * j, 0, 6⟩
/-- `OWNED` of `BBA_BANK_OWN`. -/
def BBA_BANK_OWN_OWNED (i j : Nat) : Fld := ⟨0x20001200 + 16384 * i + 4 * j, 6, 1⟩
/-- `NEW` of `BBA_BANK_OWN`. -/
def BBA_BANK_OWN_NEW (i j : Nat) : Fld := ⟨0x20001200 + 16384 * i + 4 * j, 8, 6⟩
/-- `PEND` of `BBA_BANK_OWN`. -/
def BBA_BANK_OWN_PEND (i j : Nat) : Fld := ⟨0x20001200 + 16384 * i + 4 * j, 14, 1⟩
/-- `CLAIM` of `BBA_BANK_OWN`. -/
def BBA_BANK_OWN_CLAIM (i j : Nat) : Fld := ⟨0x20001200 + 16384 * i + 4 * j, 15, 1⟩
/-- `RELEASE` of `BBA_BANK_OWN`. -/
def BBA_BANK_OWN_RELEASE (i j : Nat) : Fld := ⟨0x20001200 + 16384 * i + 4 * j, 16, 1⟩
/-- `SEAL` of `BBA_BANK_OWN`. -/
def BBA_BANK_OWN_SEAL (i j : Nat) : Fld := ⟨0x20001200 + 16384 * i + 4 * j, 17, 1⟩
/-- `WIPING` of `BBA_BANK_OWN`. -/
def BBA_BANK_OWN_WIPING (i j : Nat) : Fld := ⟨0x20001200 + 16384 * i + 4 * j, 18, 1⟩
/-- `DEGRADED` of `BBA_BANK_OWN`. -/
def BBA_BANK_OWN_DEGRADED (i j : Nat) : Fld := ⟨0x20001200 + 16384 * i + 4 * j, 19, 1⟩
/-- `ACT` of `BBA_POST`. -/
def BBA_POST_ACT (i j : Nat) : Fld := ⟨0x20001400 + 16384 * i + 4 * j, 0, 3⟩
/-- `ARG` of `BBA_POST`. -/
def BBA_POST_ARG (i j : Nat) : Fld := ⟨0x20001400 + 16384 * i + 4 * j, 3, 16⟩
/-- `ROW` of `BBA_REPAIR`. -/
def BBA_REPAIR_ROW (i j : Nat) : Fld := ⟨0x20002000 + 16384 * i + 4 * j, 0, 10⟩
/-- `VALID` of `BBA_REPAIR`. -/
def BBA_REPAIR_VALID (i j : Nat) : Fld := ⟨0x20002000 + 16384 * i + 4 * j, 31, 1⟩

/-! ### 48-bit event counters (R15), by the key of the low word -/

/-- The counter `TIL_SPAD_CE_LO`, `TIL_SPAD_CE_HI`. -/
def TIL_SPAD_CE (i : Nat) : Nat := 0x10000040 + 4096 * i
/-- The counter `TIL_SPAD_UE_LO`, `TIL_SPAD_UE_HI`. -/
def TIL_SPAD_UE (i : Nat) : Nat := 0x10000048 + 4096 * i
/-- The counter `DSP_SLC_COMMITS_LO`, `DSP_SLC_COMMITS_HI`. -/
def DSP_SLC_COMMITS (i : Nat) : Nat := 0x201020 + 64 * i
/-- The counter `DSP_SLC_RERUNS_LO`, `DSP_SLC_RERUNS_HI`. -/
def DSP_SLC_RERUNS (i : Nat) : Nat := 0x201028 + 64 * i
/-- The counter `DSP_CYC_CUTS_LO`, `DSP_CYC_CUTS_HI`. -/
def DSP_CYC_CUTS : Nat := 0x200030
/-- The counter `DSP_CYC_OVERRUNS_LO`, `DSP_CYC_OVERRUNS_HI`. -/
def DSP_CYC_OVERRUNS : Nat := 0x200038
/-- The counter `DSP_SLC_CUTS_LO`, `DSP_SLC_CUTS_HI`. -/
def DSP_SLC_CUTS (i : Nat) : Nat := 0x201034 + 64 * i
/-- The counter `MEM_HBM_CE_LO`, `MEM_HBM_CE_HI`. -/
def MEM_HBM_CE (i : Nat) : Nat := 0x300908 + 32 * i
/-- The counter `MEM_HBM_UE_LO`, `MEM_HBM_UE_HI`. -/
def MEM_HBM_UE (i : Nat) : Nat := 0x300910 + 32 * i
/-- The counter `MEM_HBM_POISON_LO`, `MEM_HBM_POISON_HI`. -/
def MEM_HBM_POISON (i : Nat) : Nat := 0x300918 + 32 * i
/-- The counter `MEM_MCB_CE_LO`, `MEM_MCB_CE_HI`. -/
def MEM_MCB_CE (i : Nat) : Nat := 0x302004 + 64 * i
/-- The counter `MEM_MCB_UE_LO`, `MEM_MCB_UE_HI`. -/
def MEM_MCB_UE (i : Nat) : Nat := 0x30200c + 64 * i
/-- The counter `MEM_MCB_POISON_LO`, `MEM_MCB_POISON_HI`. -/
def MEM_MCB_POISON (i : Nat) : Nat := 0x302014 + 64 * i
/-- The counter `MEM_MCB_LINK_CE_LO`, `MEM_MCB_LINK_CE_HI`. -/
def MEM_MCB_LINK_CE (i : Nat) : Nat := 0x30201c + 64 * i
/-- The counter `STM_SLC_TOKENS_LO`, `STM_SLC_TOKENS_HI`. -/
def STM_SLC_TOKENS (i : Nat) : Nat := 0x401018 + 64 * i
/-- The counter `DEC_SLC_ITEMS_LO`, `DEC_SLC_ITEMS_HI`. -/
def DEC_SLC_ITEMS (i : Nat) : Nat := 0x501000 + 8 * i
/-- The counter `BBA_CL_CE_LO`, `BBA_CL_CE_HI`. -/
def BBA_CL_CE (i : Nat) : Nat := 0x20001020 + 16384 * i
/-- The counter `BBA_CL_UE_LO`, `BBA_CL_UE_HI`. -/
def BBA_CL_UE (i : Nat) : Nat := 0x20001028 + 16384 * i
/-- The counter `BBH_EXP_SAT_LO`, `BBH_EXP_SAT_HI`. -/
def BBH_EXP_SAT : Nat := 0x700100
/-- The counter `BBH_FH_EARLY_LO`, `BBH_FH_EARLY_HI`. -/
def BBH_FH_EARLY : Nat := 0x700108
/-- The counter `BBH_FH_LATE_LO`, `BBH_FH_LATE_HI`. -/
def BBH_FH_LATE : Nat := 0x700110
/-- The counter `BBH_FH_MISSING_LO`, `BBH_FH_MISSING_HI`. -/
def BBH_FH_MISSING : Nat := 0x700118
/-- The counter `BBH_FH_DUP_LO`, `BBH_FH_DUP_HI`. -/
def BBH_FH_DUP : Nat := 0x700120
/-- The counter `BBH_FH_DROP_LO`, `BBH_FH_DROP_HI`. -/
def BBH_FH_DROP : Nat := 0x700128
/-- The counter `BBH_FH_SEQ_GAP_LO`, `BBH_FH_SEQ_GAP_HI`. -/
def BBH_FH_SEQ_GAP : Nat := 0x700130
/-- The counter `BBH_TX_LATE_LO`, `BBH_TX_LATE_HI`. -/
def BBH_TX_LATE : Nat := 0x700138
/-- The counter `SLC_UNBOUND_LO`, `SLC_UNBOUND_HI`. -/
def SLC_UNBOUND : Nat := 0xc00010
/-- The counter `SLC_REFUSE_LO`, `SLC_REFUSE_HI`. -/
def SLC_REFUSE (i : Nat) : Nat := 0xc01048 + 128 * i
/-- The counter `DRV_REFUSE_LO`, `DRV_REFUSE_HI`. -/
def DRV_REFUSE : Nat := 0xb00020
/-- The counter `DRV_BUSY_LO`, `DRV_BUSY_HI`. -/
def DRV_BUSY : Nat := 0xb00028
/-- The counter `DRV_TTL_LO`, `DRV_TTL_HI`. -/
def DRV_TTL : Nat := 0xb00030
/-- The counter `DRV_PORT_RETRY_LO`, `DRV_PORT_RETRY_HI`. -/
def DRV_PORT_RETRY (i : Nat) : Nat := 0xb01014 + 64 * i
/-- The counter `DRV_PORT_FECUE_LO`, `DRV_PORT_FECUE_HI`. -/
def DRV_PORT_FECUE (i : Nat) : Nat := 0xb0101c + 64 * i
/-- The counter `DRV_RETX_LO`, `DRV_RETX_HI`. -/
def DRV_RETX : Nat := 0xb00220
/-- The counter `DRV_DUP_LO`, `DRV_DUP_HI`. -/
def DRV_DUP : Nat := 0xb00228
/-- The counter `DRV_STALE_LO`, `DRV_STALE_HI`. -/
def DRV_STALE : Nat := 0xb00230
/-- The counter `DRV_VOID_LO`, `DRV_VOID_HI`. -/
def DRV_VOID : Nat := 0xb00238
/-- The counter `DRV_DEFER_DROP_LO`, `DRV_DEFER_DROP_HI`. -/
def DRV_DEFER_DROP : Nat := 0xb00240
/-- The counter `ETH_TX_FRAMES_LO`, `ETH_TX_FRAMES_HI`. -/
def ETH_TX_FRAMES (i : Nat) : Nat := 0x801080 + 256 * i
/-- The counter `ETH_TX_OCTETS_LO`, `ETH_TX_OCTETS_HI`. -/
def ETH_TX_OCTETS (i : Nat) : Nat := 0x801088 + 256 * i
/-- The counter `ETH_RX_FRAMES_LO`, `ETH_RX_FRAMES_HI`. -/
def ETH_RX_FRAMES (i : Nat) : Nat := 0x801090 + 256 * i
/-- The counter `ETH_RX_OCTETS_LO`, `ETH_RX_OCTETS_HI`. -/
def ETH_RX_OCTETS (i : Nat) : Nat := 0x801098 + 256 * i
/-- The counter `ETH_RX_FCS_LO`, `ETH_RX_FCS_HI`. -/
def ETH_RX_FCS (i : Nat) : Nat := 0x8010a0 + 256 * i
/-- The counter `ETH_RX_LEN_LO`, `ETH_RX_LEN_HI`. -/
def ETH_RX_LEN (i : Nat) : Nat := 0x8010a8 + 256 * i
/-- The counter `ETH_RX_FILTER_LO`, `ETH_RX_FILTER_HI`. -/
def ETH_RX_FILTER (i : Nat) : Nat := 0x8010b0 + 256 * i
/-- The counter `ETH_RX_NOMATCH_LO`, `ETH_RX_NOMATCH_HI`. -/
def ETH_RX_NOMATCH (i : Nat) : Nat := 0x8010b8 + 256 * i
/-- The counter `ETH_FEC_CE_LO`, `ETH_FEC_CE_HI`. -/
def ETH_FEC_CE (i : Nat) : Nat := 0x8010c0 + 256 * i
/-- The counter `ETH_FEC_UE_LO`, `ETH_FEC_UE_HI`. -/
def ETH_FEC_UE (i : Nat) : Nat := 0x8010c8 + 256 * i
/-- The counter `TSH_TXQ_LATE_LO`, `TSH_TXQ_LATE_HI`. -/
def TSH_TXQ_LATE (i : Nat) : Nat := 0x910020 + 64 * i
/-- The counter `TSH_RXQ_POL_DROP_LO`, `TSH_RXQ_POL_DROP_HI`. -/
def TSH_RXQ_POL_DROP (i : Nat) : Nat := 0x920020 + 64 * i
/-- The counter `TSH_RXQ_NOBUF_LO`, `TSH_RXQ_NOBUF_HI`. -/
def TSH_RXQ_NOBUF (i : Nat) : Nat := 0x920028 + 64 * i
/-- The counter `TSH_RXQ_OVERSIZE_LO`, `TSH_RXQ_OVERSIZE_HI`. -/
def TSH_RXQ_OVERSIZE (i : Nat) : Nat := 0x920030 + 64 * i
/-- The counter `HOL_WDOG_LO`, `HOL_WDOG_HI`. -/
def HOL_WDOG : Nat := 0xe00020
/-- The counter `SAL_RX_OK_LO`, `SAL_RX_OK_HI`. -/
def SAL_RX_OK (i : Nat) : Nat := 0xf00200 + 128 * i
/-- The counter `SAL_RX_FALSE_LO`, `SAL_RX_FALSE_HI`. -/
def SAL_RX_FALSE (i : Nat) : Nat := 0xf00208 + 128 * i
/-- The counter `SAL_RX_CRC_LO`, `SAL_RX_CRC_HI`. -/
def SAL_RX_CRC (i : Nat) : Nat := 0xf00210 + 128 * i
/-- The counter `SAL_RX_CAPTURE_LO`, `SAL_RX_CAPTURE_HI`. -/
def SAL_RX_CAPTURE (i : Nat) : Nat := 0xf00218 + 128 * i
/-- The counter `SAL_RX_BADLVER_LO`, `SAL_RX_BADLVER_HI`. -/
def SAL_RX_BADLVER (i : Nat) : Nat := 0xf00220 + 128 * i
/-- The counter `SAL_TX_FRAMES_LO`, `SAL_TX_FRAMES_HI`. -/
def SAL_TX_FRAMES (i : Nat) : Nat := 0xf00228 + 128 * i
/-- The counter `SAL_TX_RETRY_LO`, `SAL_TX_RETRY_HI`. -/
def SAL_TX_RETRY (i : Nat) : Nat := 0xf00230 + 128 * i
/-- The counter `SAL_HB_MISS_LO`, `SAL_HB_MISS_HI`. -/
def SAL_HB_MISS (i : Nat) : Nat := 0xf00238 + 128 * i
/-- The counter `INT_REPLAYS_LO`, `INT_REPLAYS_HI`. -/
def INT_REPLAYS : Nat := 0xd00100
/-- The counter `INT_MISMATCH_LO`, `INT_MISMATCH_HI`. -/
def INT_MISMATCH : Nat := 0xd00108
/-- The counter `INT_SKIPS_LO`, `INT_SKIPS_HI`. -/
def INT_SKIPS : Nat := 0xd00110
/-- The counter `INT_REC_LOST_LO`, `INT_REC_LOST_HI`. -/
def INT_REC_LOST : Nat := 0xd00118
/-- The counter `INT_DET_CNT_LO`, `INT_DET_CNT_HI`. -/
def INT_DET_CNT (i : Nat) : Nat := 0xd04000 + 8 * i

end Sys2Proof.Machine
end

