-- ==== Sys2Proof/Machine/RegTable.lean ====
section
/-! DEFINITION. The register tables as data: access codes and reset values of every field (R10, R12), by
aperture (R36), and the 48-bit counters. Reset values given as "Per fuses", "Set by the warden" or by another rule
are the values of log entries 8 to 10. -/

namespace Sys2Proof.Machine

/-- Registers of the `PLN_` aperture, part 0. -/
def regsPln0 : List RegDef := [
  /- PLN_TILE_WINDOW -/ ⟨0x100, [], [⟨0, 10, .rw, 0⟩, ⟨16, 1, .ro, 1⟩, ⟨17, 1, .ro, 0⟩]⟩,
  /- PLN_GROUP_PRESENT_LO -/ ⟨0x110, [], [⟨0, 32, .ro, 4294967295⟩]⟩,
  /- PLN_GROUP_PRESENT_HI -/ ⟨0x114, [], [⟨0, 32, .ro, 4294967295⟩]⟩,
  /- PLN_RADIO_GROUPS_LO -/ ⟨0x118, [], [⟨0, 32, .rwl, 0⟩]⟩,
  /- PLN_RADIO_GROUPS_HI -/ ⟨0x11c, [], [⟨0, 32, .rwl, 0⟩]⟩,
  /- PLN_LOAD_ADDR_LO -/ ⟨0x200, [], [⟨0, 32, .rw, 0⟩]⟩,
  /- PLN_LOAD_ADDR_HI -/ ⟨0x204, [], [⟨0, 32, .rw, 0⟩]⟩,
  /- PLN_LOAD_SRC -/ ⟨0x208, [], [⟨0, 2, .rw, 0⟩, ⟨8, 6, .rw, 0⟩]⟩,
  /- PLN_LOAD_LEN -/ ⟨0x20c, [], [⟨0, 32, .rw, 0⟩]⟩,
  /- PLN_LOAD_PLACE -/ ⟨0x210, [], [⟨0, 3, .rw, 0⟩, ⟨4, 3, .rw, 0⟩]⟩,
  /- PLN_LOAD_CTRL -/ ⟨0x214, [], [⟨0, 1, .w1s, 0⟩, ⟨1, 1, .w1s, 0⟩, ⟨2, 1, .rw, 0⟩, ⟨3, 1, .w1s, 0⟩, ⟨4, 1, .w1s, 0⟩]⟩,
  /- PLN_LOAD_STATUS -/ ⟨0x218, [], [⟨0, 3, .ro, 0⟩, ⟨3, 1, .w1c, 0⟩, ⟨4, 1, .w1c, 0⟩, ⟨5, 1, .w1c, 0⟩, ⟨8, 8, .ro, 0⟩, ⟨16, 10, .ro, 0⟩]⟩]
/-- Registers of the `PLN_` aperture, part 1. -/
def regsPln1 : List RegDef := [
  /- PLN_LOAD_DETAIL -/ ⟨0x21c, [], [⟨0, 32, .ro, 0⟩]⟩,
  /- PLN_IMG_POLICY -/ ⟨0x220, [], [⟨0, 1, .rw, 0⟩, ⟨8, 8, .ro, 0⟩]⟩,
  /- PLN_SLICE_IMG -/ ⟨0x300, [(64, 4)], [⟨0, 2, .ro, 0⟩, ⟨8, 8, .ro, 0⟩]⟩,
  /- PLN_SLICE_IMGID -/ ⟨0x400, [(64, 4)], [⟨0, 32, .ro, 0⟩]⟩]
/-- Registers of the `TIL_` aperture, part 0. -/
def regsTil0 : List RegDef := [
  /- TIL_STATE -/ ⟨0x10000010, [(1024, 4096)], [⟨0, 6, .ro, 0⟩, ⟨6, 3, .ro, 0⟩, ⟨9, 1, .ro, 0⟩, ⟨10, 1, .ro, 0⟩]⟩,
  /- TIL_MOVER_CTX -/ ⟨0x10000014, [(1024, 4096)], [⟨0, 32, .ro, 0⟩]⟩,
  /- TIL_SCB_STATUS -/ ⟨0x10000018, [(1024, 4096)], [⟨0, 7, .ro, 0⟩, ⟨8, 7, .ro, 0⟩, ⟨15, 1, .w1s, 0⟩, ⟨16, 7, .ro, 0⟩]⟩,
  /- TIL_ARITH_STATUS -/ ⟨0x10000020, [(1024, 4096)], [⟨0, 1, .w1c, 0⟩, ⟨1, 1, .w1c, 0⟩, ⟨2, 1, .w1c, 0⟩, ⟨3, 1, .w1c, 0⟩, ⟨4, 1, .w1c, 0⟩]⟩,
  /- TIL_CHK_STATUS -/ ⟨0x10000024, [(1024, 4096)], [⟨0, 1, .w1c, 0⟩, ⟨8, 6, .ro, 0⟩]⟩,
  /- TIL_BIST_CTRL -/ ⟨0x10000050, [(1024, 4096)], [⟨0, 1, .rw, 1⟩, ⟨1, 1, .w1s, 0⟩]⟩,
  /- TIL_BIST_STATUS -/ ⟨0x10000054, [(1024, 4096)], [⟨0, 8, .ro, 0⟩, ⟨8, 1, .w1c, 0⟩, ⟨9, 1, .w1c, 0⟩, ⟨16, 5, .ro, 16⟩]⟩,
  /- TIL_REPAIR_MAP -/ ⟨0x10000060, [(1024, 4096), (16, 4)], [⟨0, 12, .rw, 0⟩, ⟨31, 1, .rw, 0⟩]⟩,
  /- TIL_INJECT -/ ⟨0x100000a0, [(1024, 4096)], [⟨0, 4, .rw, 0⟩, ⟨8, 8, .rw, 0⟩, ⟨31, 1, .w1s, 0⟩]⟩]
/-- Registers of the `DSP_` aperture, part 0. -/
def regsDsp0 : List RegDef := [
  /- DSP_STEP_TIMEOUT -/ ⟨0x200010, [], [⟨0, 20, .rw, 5000⟩]⟩,
  /- DSP_SAMPLE_CFG -/ ⟨0x200014, [], [⟨0, 3, .rw, 6⟩]⟩,
  /- DSP_CYC_CTRL -/ ⟨0x200020, [], [⟨0, 1, .rw, 0⟩, ⟨1, 1, .w1s, 0⟩, ⟨2, 1, .ro, 0⟩, ⟨3, 1, .ro, 0⟩, ⟨4, 3, .ro, 0⟩, ⟨8, 11, .ro, 0⟩]⟩,
  /- DSP_CYC_GUARD -/ ⟨0x200024, [], [⟨0, 13, .rwl, 1000⟩, ⟨16, 12, .rwl, 975⟩]⟩,
  /- DSP_CYC_STATUS -/ ⟨0x200028, [], [⟨0, 11, .ro, 0⟩, ⟨16, 10, .ro, 0⟩]⟩,
  /- DSP_CYC_EVENT -/ ⟨0x20002c, [], [⟨0, 1, .w1c, 0⟩, ⟨1, 1, .w1c, 0⟩, ⟨2, 1, .w1c, 0⟩, ⟨3, 1, .w1c, 0⟩]⟩,
  /- DSP_SLC_CTRL -/ ⟨0x201000, [(64, 64)], [⟨0, 1, .rw, 0⟩, ⟨1, 1, .rw, 0⟩, ⟨2, 1, .rwl, 0⟩, ⟨3, 1, .w1s, 0⟩, ⟨8, 8, .rwl, 0⟩]⟩,
  /- DSP_SLC_CREDIT -/ ⟨0x201004, [(64, 64)], [⟨0, 16, .rw, 0⟩]⟩,
  /- DSP_SLC_STATE -/ ⟨0x201008, [(64, 64)], [⟨0, 3, .ro, 0⟩, ⟨4, 4, .ro, 0⟩, ⟨8, 2, .ro, 0⟩]⟩,
  /- DSP_SLC_EVENT -/ ⟨0x20100c, [(64, 64)], [⟨0, 1, .w1c, 0⟩, ⟨1, 1, .w1c, 0⟩, ⟨2, 1, .w1c, 0⟩, ⟨3, 1, .w1c, 0⟩, ⟨4, 1, .w1c, 0⟩, ⟨5, 1, .w1c, 0⟩]⟩,
  /- DSP_SLC_STEP_LO -/ ⟨0x201010, [(64, 64)], [⟨0, 32, .ro, 0⟩]⟩,
  /- DSP_SLC_STEP_HI -/ ⟨0x201014, [(64, 64)], [⟨0, 32, .ro, 0⟩]⟩]
/-- Registers of the `DSP_` aperture, part 1. -/
def regsDsp1 : List RegDef := [
  /- DSP_SLC_STAGE -/ ⟨0x201018, [(64, 64)], [⟨0, 23, .ro, 0⟩]⟩,
  /- DSP_SLC_SAVE -/ ⟨0x201030, [(64, 64)], [⟨0, 1, .w1s, 0⟩, ⟨1, 1, .w1s, 0⟩, ⟨2, 1, .rw, 0⟩, ⟨3, 1, .ro, 0⟩, ⟨8, 3, .rw, 0⟩, ⟨16, 7, .ro, 0⟩]⟩,
  /- DSP_GRP_STATE -/ ⟨0x202000, [(64, 4)], [⟨0, 3, .ro, 0⟩, ⟨3, 6, .ro, 0⟩, ⟨9, 6, .ro, 0⟩, ⟨15, 12, .ro, 0⟩, ⟨27, 1, .ro, 0⟩, ⟨28, 1, .ro, 0⟩]⟩,
  /- DSP_GRP_GUARD -/ ⟨0x202100, [(64, 4)], [⟨0, 19, .ro, 0⟩, ⟨20, 1, .ro, 0⟩, ⟨21, 1, .ro, 0⟩]⟩,
  /- DSP_CYC_WIN -/ ⟨0x280000, [(2, 65536), (2048, 32), (8, 4)], [⟨0, 32, .rw, 0⟩]⟩]
/-- Registers of the `MEM_` aperture, part 0. -/
def regsMem0 : List RegDef := [
  /- MEM_SCRUB_CFG -/ ⟨0x300010, [], [⟨0, 8, .rw, 24⟩, ⟨8, 1, .rw, 1⟩, ⟨9, 1, .rw, 1⟩]⟩,
  /- MEM_EVENT -/ ⟨0x300014, [], [⟨0, 1, .w1c, 0⟩, ⟨1, 1, .w1c, 0⟩, ⟨2, 1, .w1c, 0⟩, ⟨3, 1, .w1c, 0⟩, ⟨4, 1, .w1c, 0⟩, ⟨5, 1, .w1c, 0⟩, ⟨6, 1, .w1c, 0⟩]⟩,
  /- MEM_ERR_ADDR_LO -/ ⟨0x300018, [], [⟨0, 32, .ro, 0⟩]⟩,
  /- MEM_ERR_ADDR_HI -/ ⟨0x30001c, [], [⟨0, 8, .ro, 0⟩, ⟨8, 1, .ro, 0⟩, ⟨9, 6, .ro, 0⟩, ⟨15, 1, .w1c, 0⟩]⟩,
  /- MEM_INIT -/ ⟨0x300020, [], [⟨0, 1, .ro, 0⟩, ⟨1, 1, .ro, 0⟩]⟩,
  /- MEM_PM_DESC -/ ⟨0x300800, [(8, 4)], [⟨0, 32, .rw, 0⟩]⟩,
  /- MEM_PM_CTRL -/ ⟨0x300820, [], [⟨0, 1, .w1s, 0⟩]⟩,
  /- MEM_PM_STATUS -/ ⟨0x300824, [], [⟨0, 8, .ro, 0⟩, ⟨8, 3, .ro, 0⟩, ⟨11, 1, .w1c, 0⟩, ⟨16, 9, .ro, 0⟩]⟩,
  /- MEM_HBM_STATUS -/ ⟨0x300900, [(8, 32)], [⟨0, 8, .ro, 0⟩, ⟨8, 2, .ro, 0⟩, ⟨16, 16, .ro, 0⟩]⟩,
  /- MEM_INJECT -/ ⟨0x300c20, [], [⟨0, 4, .rw, 0⟩, ⟨4, 5, .rw, 0⟩, ⟨31, 1, .w1s, 0⟩]⟩,
  /- MEM_TC0_PEAK -/ ⟨0x300c40, [(4, 4)], [⟨0, 16, .ro, 0⟩, ⟨31, 1, .w1s, 0⟩]⟩,
  /- MEM_SLC_A -/ ⟨0x301000, [(64, 32)], [⟨0, 13, .rwl, 0⟩, ⟨16, 13, .rwl, 0⟩]⟩]
/-- Registers of the `MEM_` aperture, part 1. -/
def regsMem1 : List RegDef := [
  /- MEM_SLC_B -/ ⟨0x301004, [(64, 32)], [⟨0, 13, .rwl, 0⟩, ⟨16, 13, .rwl, 0⟩]⟩,
  /- MEM_SLC_IMG -/ ⟨0x301008, [(64, 32)], [⟨0, 13, .rwl, 0⟩, ⟨16, 13, .rwl, 0⟩]⟩,
  /- MEM_SLC_SAVE -/ ⟨0x30100c, [(64, 32)], [⟨0, 13, .rwl, 0⟩, ⟨16, 13, .rwl, 0⟩]⟩,
  /- MEM_SLC_STAGE -/ ⟨0x301010, [(64, 32)], [⟨0, 13, .rwl, 0⟩, ⟨16, 4, .rwl, 0⟩]⟩,
  /- MEM_SLC_STGLN -/ ⟨0x301014, [(64, 32)], [⟨0, 23, .rwl, 0⟩]⟩,
  /- MEM_MCB_STATUS -/ ⟨0x302000, [(16, 64)], [⟨0, 3, .ro, 0⟩, ⟨3, 2, .ro, 0⟩, ⟨8, 4, .ro, 0⟩]⟩,
  /- MEM_XT -/ ⟨0x310000, [(4224, 4)], [⟨0, 12, .rwl, 0⟩, ⟨12, 1, .rwl, 0⟩, ⟨13, 1, .rwl, 0⟩, ⟨31, 1, .rwl, 0⟩]⟩]
/-- Registers of the `STM_` aperture, part 0. -/
def regsStm0 : List RegDef := [
  /- STM_SLC_PROF_LO -/ ⟨0x401000, [(64, 64)], [⟨0, 32, .rw, 0⟩]⟩,
  /- STM_SLC_PROF_HI -/ ⟨0x401004, [(64, 64)], [⟨0, 8, .rw, 0⟩]⟩,
  /- STM_SLC_CTRL -/ ⟨0x401008, [(64, 64)], [⟨0, 1, .rw, 0⟩]⟩,
  /- STM_SLC_EVENT -/ ⟨0x40100c, [(64, 64)], [⟨0, 1, .w1c, 0⟩, ⟨1, 1, .w1c, 0⟩, ⟨2, 1, .w1c, 0⟩, ⟨3, 1, .w1c, 0⟩, ⟨4, 1, .w1c, 0⟩]⟩,
  /- STM_SLC_FREE_A -/ ⟨0x401010, [(64, 64)], [⟨0, 25, .ro, 0⟩]⟩,
  /- STM_SLC_FREE_B -/ ⟨0x401014, [(64, 64)], [⟨0, 25, .ro, 0⟩]⟩]
/-- Registers of the `DEC_` aperture, part 0. -/
def regsDec0 : List RegDef := [
  /- DEC_UNIT_STATUS -/ ⟨0x500010, [(4, 4)], [⟨0, 1, .ro, 0⟩, ⟨1, 6, .ro, 0⟩, ⟨8, 16, .ro, 0⟩]⟩]
/-- Registers of the `BBA_` aperture, part 0. -/
def regsBba0 : List RegDef := [
  /- BBA_CL_WINDOW -/ ⟨0x600100, [], [⟨0, 7, .rw, 0⟩, ⟨16, 1, .ro, 0⟩]⟩,
  /- BBA_FRAME_CFG -/ ⟨0x600110, [], [⟨0, 24, .rwl, 0⟩]⟩,
  /- BBA_WAKE_CFG -/ ⟨0x600114, [], [⟨0, 6, .rw, 20⟩, ⟨8, 7, .rw, 40⟩]⟩,
  /- BBA_NOTIFY_LO -/ ⟨0x600118, [], [⟨0, 32, .rw, 0⟩]⟩,
  /- BBA_NOTIFY_HI -/ ⟨0x60011c, [], [⟨0, 8, .rw, 0⟩, ⟨8, 4, .rw, 8⟩]⟩,
  /- BBA_TASK_START -/ ⟨0x600120, [], [⟨0, 10, .wo, 0⟩]⟩,
  /- BBA_PROG_ADDR_LO -/ ⟨0x600200, [], [⟨0, 32, .rw, 0⟩]⟩,
  /- BBA_PROG_ADDR_HI -/ ⟨0x600204, [], [⟨0, 32, .rw, 0⟩]⟩,
  /- BBA_PROG_SRC -/ ⟨0x600208, [], [⟨0, 2, .rw, 0⟩, ⟨8, 6, .rw, 0⟩]⟩,
  /- BBA_PROG_DST -/ ⟨0x60020c, [], [⟨0, 7, .rw, 0⟩, ⟨8, 8, .rw, 1⟩, ⟨16, 12, .rw, 0⟩]⟩,
  /- BBA_PROG_CTRL -/ ⟨0x600210, [], [⟨0, 1, .w1s, 0⟩]⟩,
  /- BBA_PROG_STATUS -/ ⟨0x600214, [], [⟨0, 1, .ro, 0⟩, ⟨1, 1, .w1c, 0⟩, ⟨4, 4, .ro, 0⟩, ⟨8, 12, .ro, 0⟩]⟩]
/-- Registers of the `BBA_` aperture, part 1. -/
def regsBba1 : List RegDef := [
  /- BBA_TASK_CFG -/ ⟨0x640000, [(1024, 16)], [⟨0, 12, .rw, 0⟩, ⟨12, 7, .rw, 0⟩, ⟨19, 6, .rw, 0⟩, ⟨31, 1, .rw, 0⟩]⟩,
  /- BBA_TASK_MASK_LO -/ ⟨0x640004, [(1024, 16)], [⟨0, 32, .rw, 0⟩]⟩,
  /- BBA_TASK_MASK_HI -/ ⟨0x640008, [(1024, 16)], [⟨0, 32, .rw, 0⟩]⟩,
  /- BBA_NRX -/ ⟨0x650000, [(256, 4)], [⟨0, 10, .rw, 0⟩, ⟨10, 10, .rw, 0⟩, ⟨20, 1, .ro, 0⟩, ⟨21, 3, .ro, 0⟩]⟩,
  /- BBA_CL_STATUS -/ ⟨0x20001000, [(128, 16384)], [⟨0, 2, .ro, 0⟩, ⟨2, 6, .ro, 0⟩, ⟨8, 12, .ro, 0⟩, ⟨20, 1, .w1s, 0⟩]⟩,
  /- BBA_CL_FLAGS -/ ⟨0x20001004, [(128, 16384)], [⟨0, 1, .w1c, 0⟩, ⟨1, 1, .w1c, 0⟩, ⟨2, 1, .w1c, 0⟩, ⟨3, 1, .w1c, 0⟩, ⟨4, 1, .w1c, 0⟩, ⟨5, 1, .w1c, 0⟩]⟩,
  /- BBA_BIST_CTRL -/ ⟨0x20001030, [(128, 16384)], [⟨0, 1, .rw, 1⟩, ⟨1, 1, .w1s, 0⟩]⟩,
  /- BBA_BIST_STATUS -/ ⟨0x20001034, [(128, 16384)], [⟨0, 6, .ro, 0⟩, ⟨6, 3, .ro, 0⟩, ⟨9, 1, .w1c, 0⟩, ⟨10, 1, .w1c, 0⟩]⟩,
  /- BBA_INJECT -/ ⟨0x20001040, [(128, 16384)], [⟨0, 4, .rw, 0⟩, ⟨4, 6, .rw, 0⟩, ⟨10, 8, .rw, 0⟩, ⟨31, 1, .w1s, 0⟩]⟩,
  /- BBA_EVENT_LO -/ ⟨0x20001050, [(128, 16384)], [⟨0, 32, .ro, 0⟩]⟩,
  /- BBA_EVENT_HI -/ ⟨0x20001054, [(128, 16384)], [⟨0, 32, .ro, 0⟩]⟩,
  /- BBA_EV_SET -/ ⟨0x20001058, [(128, 16384)], [⟨0, 6, .wo, 0⟩]⟩]
/-- Registers of the `BBA_` aperture, part 2. -/
def regsBba2 : List RegDef := [
  /- BBA_START_STATUS -/ ⟨0x20001060, [(128, 16384)], [⟨0, 10, .ro, 0⟩, ⟨16, 1, .w1c, 0⟩, ⟨17, 1, .w1c, 0⟩, ⟨18, 1, .w1c, 0⟩, ⟨19, 1, .w1c, 0⟩]⟩,
  /- BBA_LANE_FLAGS -/ ⟨0x20001100, [(128, 16384), (64, 4)], [⟨0, 1, .w1c, 0⟩, ⟨1, 4, .w1c, 0⟩, ⟨5, 1, .w1c, 0⟩, ⟨6, 2, .ro, 0⟩, ⟨8, 1, .w1c, 0⟩, ⟨9, 1, .w1c, 0⟩, ⟨16, 16, .ro, 0⟩]⟩,
  /- BBA_BANK_OWN -/ ⟨0x20001200, [(128, 16384), (64, 4)], [⟨0, 6, .ro, 0⟩, ⟨6, 1, .ro, 0⟩, ⟨8, 6, .rw, 0⟩, ⟨14, 1, .ro, 0⟩, ⟨15, 1, .w1s, 0⟩, ⟨16, 1, .w1s, 0⟩, ⟨17, 1, .w1s, 0⟩, ⟨18, 1, .ro, 0⟩, ⟨19, 1, .ro, 0⟩]⟩,
  /- BBA_POST -/ ⟨0x20001400, [(128, 16384), (64, 4)], [⟨0, 3, .rw, 0⟩, ⟨3, 16, .rw, 0⟩]⟩,
  /- BBA_REPAIR -/ ⟨0x20002000, [(128, 16384), (512, 4)], [⟨0, 10, .rw, 0⟩, ⟨31, 1, .rw, 0⟩]⟩]
/-- Registers of the `BBH_` aperture, part 0. -/
def regsBbh0 : List RegDef := [
  /- BBH_EVENT -/ ⟨0x700010, [], [⟨0, 1, .w1c, 0⟩, ⟨1, 1, .w1c, 0⟩, ⟨2, 1, .w1c, 0⟩, ⟨3, 1, .w1c, 0⟩]⟩,
  /- BBH_FH_EAXC_MASK -/ ⟨0x700020, [], [⟨0, 16, .rwl, 4095⟩]⟩,
  /- BBH_Q_CFG -/ ⟨0x701000, [(64, 32)], [⟨0, 3, .rw, 0⟩, ⟨3, 2, .rw, 3⟩, ⟨5, 1, .rw, 0⟩, ⟨6, 1, .rw, 0⟩, ⟨7, 6, .rw, 0⟩, ⟨16, 4, .rw, 4⟩, ⟨31, 1, .ro, 0⟩]⟩,
  /- BBH_Q_RING_LO -/ ⟨0x701004, [(64, 32)], [⟨0, 32, .rw, 0⟩]⟩,
  /- BBH_Q_RING_HI -/ ⟨0x701008, [(64, 32)], [⟨0, 8, .rw, 0⟩]⟩,
  /- BBH_Q_CMPL_LO -/ ⟨0x70100c, [(64, 32)], [⟨0, 32, .rw, 0⟩]⟩,
  /- BBH_Q_CMPL_HI -/ ⟨0x701010, [(64, 32)], [⟨0, 8, .rw, 0⟩]⟩,
  /- BBH_Q_STATUS -/ ⟨0x701014, [(64, 32)], [⟨0, 12, .ro, 0⟩, ⟨16, 12, .ro, 0⟩]⟩,
  /- BBH_CAR_CFG -/ ⟨0x704000, [(256, 4)], [⟨0, 1, .rw, 0⟩, ⟨1, 1, .rw, 0⟩, ⟨2, 9, .rw, 0⟩, ⟨11, 7, .rw, 0⟩, ⟨18, 7, .rw, 0⟩, ⟨25, 7, .rw, 0⟩]⟩,
  /- BBH_FH_MAP_CFG -/ ⟨0x710000, [(4096, 16)], [⟨0, 16, .rw, 0⟩, ⟨16, 8, .rw, 0⟩, ⟨24, 5, .rw, 0⟩, ⟨29, 1, .rw, 0⟩, ⟨31, 1, .rw, 0⟩]⟩,
  /- BBH_FH_MAP_DST_LO -/ ⟨0x710004, [(4096, 16)], [⟨0, 32, .rw, 0⟩]⟩,
  /- BBH_FH_MAP_DST_HI -/ ⟨0x710008, [(4096, 16)], [⟨0, 32, .rw, 0⟩]⟩]
/-- Registers of the `BBH_` aperture, part 1. -/
def regsBbh1 : List RegDef := [
  /- BBH_FH_MAP_STR -/ ⟨0x71000c, [(4096, 16)], [⟨0, 20, .rw, 0⟩, ⟨21, 3, .rw, 0⟩, ⟨24, 1, .rw, 0⟩, ⟨25, 6, .rw, 0⟩]⟩]
/-- Registers of the `ETH_` aperture, part 0. -/
def regsEth0 : List RegDef := [
  /- ETH_EVENT -/ ⟨0x800010, [], [⟨0, 1, .w1c, 0⟩, ⟨1, 1, .w1c, 0⟩, ⟨2, 1, .w1c, 0⟩, ⟨3, 1, .w1c, 0⟩]⟩,
  /- ETH_QUAD_CFG -/ ⟨0x800100, [(8, 4)], [⟨0, 2, .rw, 0⟩]⟩,
  /- ETH_PORT_CTRL -/ ⟨0x801000, [(32, 256)], [⟨0, 1, .rw, 0⟩, ⟨1, 1, .rw, 0⟩, ⟨2, 1, .rw, 0⟩, ⟨3, 1, .rw, 0⟩, ⟨16, 14, .rw, 9216⟩]⟩,
  /- ETH_PORT_STATUS -/ ⟨0x801004, [(32, 256)], [⟨0, 2, .ro, 0⟩, ⟨2, 1, .ro, 0⟩]⟩,
  /- ETH_PORT_FH -/ ⟨0x801008, [(32, 256)], [⟨0, 10, .rw, 0⟩]⟩,
  /- ETH_PORT_MAC_LO -/ ⟨0x801010, [(32, 256), (8, 8)], [⟨0, 32, .rw, 0⟩]⟩,
  /- ETH_PORT_MAC_HI -/ ⟨0x801014, [(32, 256), (8, 8)], [⟨0, 16, .rw, 0⟩, ⟨31, 1, .rw, 0⟩]⟩,
  /- ETH_VLAN_MAP -/ ⟨0x840000, [(32, 8192), (2048, 4)], [⟨0, 10, .rw, 0⟩, ⟨15, 1, .rw, 0⟩, ⟨16, 10, .rw, 0⟩, ⟨31, 1, .rw, 0⟩]⟩]
/-- Registers of the `TSH_` aperture, part 0. -/
def regsTsh0 : List RegDef := [
  /- TSH_PORT_CFG -/ ⟨0x901000, [(32, 16)], [⟨0, 8, .rw, 20⟩, ⟨8, 8, .rw, 2⟩]⟩,
  /- TSH_TXQ_CFG -/ ⟨0x910000, [(1024, 64)], [⟨0, 1, .rw, 0⟩, ⟨1, 2, .rw, 0⟩, ⟨3, 4, .rw, 6⟩, ⟨7, 5, .rw, 0⟩, ⟨12, 3, .rw, 0⟩, ⟨15, 1, .ro, 0⟩]⟩,
  /- TSH_TXQ_RING_LO -/ ⟨0x910004, [(1024, 64)], [⟨0, 32, .rw, 0⟩]⟩,
  /- TSH_TXQ_RING_HI -/ ⟨0x910008, [(1024, 64)], [⟨0, 32, .rw, 0⟩]⟩,
  /- TSH_TXQ_DRR -/ ⟨0x91000c, [(1024, 64)], [⟨0, 20, .rw, 9236⟩]⟩,
  /- TSH_TXQ_SHAPE -/ ⟨0x910010, [(1024, 64)], [⟨0, 16, .rw, 0⟩]⟩,
  /- TSH_TXQ_BURST -/ ⟨0x910014, [(1024, 64)], [⟨0, 24, .rw, 65536⟩]⟩,
  /- TSH_TXQ_STATUS -/ ⟨0x910018, [(1024, 64)], [⟨0, 32, .ro, 0⟩]⟩,
  /- TSH_TXQ_TOKENS -/ ⟨0x91001c, [(1024, 64)], [⟨0, 32, .ro, 0⟩]⟩,
  /- TSH_RXQ_CFG -/ ⟨0x920000, [(1024, 64)], [⟨0, 1, .rw, 0⟩, ⟨1, 2, .rw, 0⟩, ⟨3, 4, .rw, 6⟩, ⟨7, 6, .rw, 8⟩, ⟨13, 1, .rw, 0⟩, ⟨14, 1, .ro, 0⟩]⟩,
  /- TSH_RXQ_RING_LO -/ ⟨0x920004, [(1024, 64)], [⟨0, 32, .rw, 0⟩]⟩,
  /- TSH_RXQ_RING_HI -/ ⟨0x920008, [(1024, 64)], [⟨0, 32, .rw, 0⟩]⟩]
/-- Registers of the `TSH_` aperture, part 1. -/
def regsTsh1 : List RegDef := [
  /- TSH_RXQ_POLICE -/ ⟨0x92000c, [(1024, 64)], [⟨0, 16, .rw, 0⟩]⟩,
  /- TSH_RXQ_PBURST -/ ⟨0x920010, [(1024, 64)], [⟨0, 24, .rw, 65536⟩]⟩,
  /- TSH_RXQ_STATUS -/ ⟨0x920014, [(1024, 64)], [⟨0, 32, .ro, 0⟩]⟩,
  /- TSH_RXQ_TOKENS -/ ⟨0x920018, [(1024, 64)], [⟨0, 32, .ro, 0⟩]⟩,
  /- TSH_TPL_W0 -/ ⟨0x930000, [(128, 16)], [⟨0, 32, .rw, 0⟩]⟩,
  /- TSH_TPL_W1 -/ ⟨0x930004, [(128, 16)], [⟨0, 16, .rw, 0⟩, ⟨16, 16, .rw, 0⟩]⟩,
  /- TSH_TPL_W2 -/ ⟨0x930008, [(128, 16)], [⟨0, 32, .rw, 0⟩]⟩,
  /- TSH_TPL_W3 -/ ⟨0x93000c, [(128, 16)], [⟨0, 16, .rw, 0⟩, ⟨16, 1, .rw, 0⟩]⟩]
/-- Registers of the `TIM_` aperture, part 0. -/
def regsTim0 : List RegDef := [
  /- TIM_CTRL -/ ⟨0xa00010, [], [⟨0, 1, .w1s, 0⟩, ⟨1, 1, .w1s, 0⟩, ⟨2, 1, .ro, 0⟩]⟩,
  /- TIM_EVENT -/ ⟨0xa00014, [], [⟨0, 1, .w1c, 0⟩, ⟨1, 1, .w1c, 0⟩, ⟨2, 1, .w1c, 0⟩, ⟨3, 1, .w1c, 0⟩, ⟨4, 1, .w1c, 0⟩, ⟨5, 1, .w1c, 0⟩, ⟨6, 1, .w1c, 0⟩, ⟨7, 1, .w1c, 0⟩, ⟨8, 1, .w1c, 0⟩]⟩,
  /- TIM_TIME -/ ⟨0xa00020, [(3, 4)], [⟨0, 32, .ro, 0⟩]⟩,
  /- TIM_RAW -/ ⟨0xa00030, [(3, 4)], [⟨0, 32, .ro, 0⟩]⟩,
  /- TIM_RATE -/ ⟨0xa00040, [], [⟨0, 32, .rw, 0⟩]⟩,
  /- TIM_STEP_LIMIT -/ ⟨0xa00044, [], [⟨0, 31, .rw, 1000⟩]⟩,
  /- TIM_STEP_CNT -/ ⟨0xa00048, [], [⟨0, 16, .ro, 0⟩]⟩,
  /- TIM_STEP -/ ⟨0xa00050, [(3, 4)], [⟨0, 32, .rw, 0⟩]⟩,
  /- TIM_PLL -/ ⟨0xa00060, [], [⟨0, 1, .rw, 0⟩, ⟨1, 2, .rw, 0⟩, ⟨3, 1, .rw, 1⟩, ⟨4, 1, .ro, 0⟩, ⟨5, 1, .ro, 0⟩, ⟨6, 1, .ro, 0⟩, ⟨7, 1, .ro, 0⟩]⟩,
  /- TIM_CORR_TX -/ ⟨0xa00080, [(3, 8)], [⟨0, 20, .rw, 0⟩]⟩,
  /- TIM_CORR_RX -/ ⟨0xa00084, [(3, 8)], [⟨0, 20, .rw, 0⟩]⟩,
  /- TIM_SYNCE -/ ⟨0xa000a0, [(2, 4)], [⟨0, 1, .rw, 0⟩, ⟨1, 5, .rw, 0⟩, ⟨6, 1, .rw, 0⟩, ⟨7, 1, .ro, 0⟩]⟩]
/-- Registers of the `TIM_` aperture, part 1. -/
def regsTim1 : List RegDef := [
  /- TIM_PULSE_CTRL -/ ⟨0xa01000, [(8, 64)], [⟨0, 1, .rw, 0⟩, ⟨1, 1, .rw, 0⟩, ⟨2, 1, .rw, 0⟩, ⟨3, 1, .ro, 0⟩, ⟨4, 1, .w1c, 0⟩, ⟨5, 1, .w1c, 0⟩, ⟨6, 1, .ro, 0⟩, ⟨7, 1, .w1c, 0⟩]⟩,
  /- TIM_PULSE_START_LO -/ ⟨0xa01004, [(8, 64)], [⟨0, 32, .rw, 0⟩]⟩,
  /- TIM_PULSE_START_HI -/ ⟨0xa01008, [(8, 64)], [⟨0, 32, .rw, 0⟩]⟩,
  /- TIM_PULSE_PERIOD -/ ⟨0xa0100c, [(8, 64)], [⟨0, 32, .rw, 1000000000⟩]⟩,
  /- TIM_PULSE_WIDTH -/ ⟨0xa01010, [(8, 64)], [⟨0, 24, .rw, 1000⟩]⟩,
  /- TIM_CAP_CFG -/ ⟨0xa02000, [(8, 64)], [⟨0, 1, .rw, 0⟩, ⟨1, 2, .rw, 1⟩, ⟨3, 1, .w1c, 0⟩, ⟨4, 5, .ro, 0⟩, ⟨16, 8, .rw, 4⟩]⟩,
  /- TIM_CAP_0 -/ ⟨0xa02004, [(8, 64)], [⟨0, 1, .ro, 0⟩, ⟨1, 1, .ro, 0⟩, ⟨8, 8, .ro, 0⟩]⟩,
  /- TIM_CAP_1 -/ ⟨0xa02008, [(8, 64)], [⟨0, 32, .ro, 0⟩]⟩,
  /- TIM_CAP_2 -/ ⟨0xa0200c, [(8, 64)], [⟨0, 32, .ro, 0⟩]⟩,
  /- TIM_CAP_3 -/ ⟨0xa02010, [(8, 64)], [⟨0, 32, .ro, 0⟩]⟩]
/-- Registers of the `DRV_` aperture, part 0. -/
def regsDrv0 : List RegDef := [
  /- DRV_SELF -/ ⟨0xb00010, [], [⟨0, 12, .rw, 0⟩]⟩,
  /- DRV_EVENT -/ ⟨0xb00014, [], [⟨0, 1, .w1c, 0⟩, ⟨1, 1, .w1c, 0⟩, ⟨2, 1, .w1c, 0⟩, ⟨3, 1, .w1c, 0⟩, ⟨4, 1, .w1c, 0⟩, ⟨5, 1, .w1c, 0⟩]⟩,
  /- DRV_REFUSE_REC -/ ⟨0xb00018, [], [⟨0, 12, .ro, 0⟩, ⟨12, 12, .ro, 0⟩, ⟨24, 4, .ro, 0⟩, ⟨31, 1, .w1c, 0⟩]⟩,
  /- DRV_INJECT -/ ⟨0xb00040, [], [⟨0, 4, .rw, 0⟩, ⟨4, 4, .rw, 0⟩, ⟨31, 1, .w1s, 0⟩]⟩,
  /- DRV_EPOCH -/ ⟨0xb00200, [], [⟨0, 16, .ro, 0⟩, ⟨16, 1, .ro, 0⟩, ⟨17, 1, .ro, 0⟩, ⟨18, 1, .ro, 0⟩]⟩,
  /- DRV_EPOCH_NEXT -/ ⟨0xb00204, [], [⟨0, 16, .rw, 0⟩, ⟨16, 1, .rw, 0⟩, ⟨17, 1, .w1s, 0⟩]⟩,
  /- DRV_XPORT_CFG -/ ⟨0xb00210, [], [⟨0, 10, .rw, 200⟩]⟩,
  /- DRV_XPORT_EVENT -/ ⟨0xb00214, [], [⟨0, 1, .w1c, 0⟩, ⟨1, 1, .w1c, 0⟩, ⟨2, 1, .w1c, 0⟩, ⟨3, 1, .w1c, 0⟩, ⟨4, 1, .w1c, 0⟩]⟩,
  /- DRV_XPORT_PROBE -/ ⟨0xb00218, [], [⟨0, 12, .wo, 0⟩]⟩,
  /- DRV_PORT_CTRL -/ ⟨0xb01000, [(12, 64)], [⟨0, 1, .rw, 0⟩, ⟨1, 1, .rw, 1⟩, ⟨2, 1, .w1s, 0⟩]⟩,
  /- DRV_PORT_STATUS -/ ⟨0xb01004, [(12, 64)], [⟨0, 3, .ro, 0⟩, ⟨3, 4, .ro, 0⟩, ⟨8, 12, .ro, 0⟩, ⟨20, 4, .ro, 0⟩, ⟨24, 1, .w1c, 0⟩, ⟨25, 1, .w1c, 0⟩]⟩,
  /- DRV_PORT_PEER -/ ⟨0xb01008, [(12, 64)], [⟨0, 12, .rw, 0⟩, ⟨12, 4, .rw, 0⟩, ⟨16, 1, .rw, 0⟩]⟩]
/-- Registers of the `DRV_` aperture, part 1. -/
def regsDrv1 : List RegDef := [
  /- DRV_PORT_EYE -/ ⟨0xb0100c, [(12, 64)], [⟨0, 8, .ro, 0⟩, ⟨8, 8, .ro, 0⟩, ⟨16, 3, .ro, 0⟩, ⟨31, 1, .ro, 0⟩]⟩,
  /- DRV_PORT_OPT -/ ⟨0xb01010, [(12, 64)], [⟨0, 16, .ro, 0⟩, ⟨16, 3, .ro, 0⟩, ⟨30, 1, .ro, 0⟩, ⟨31, 1, .ro, 0⟩]⟩,
  /- DRV_ROUTE -/ ⟨0xb10000, [(4096, 4)], [⟨0, 12, .rw, 0⟩]⟩,
  /- DRV_REGION_CFG -/ ⟨0xb20000, [(4096, 16)], [⟨0, 2, .rw, 0⟩, ⟨2, 5, .rw, 0⟩, ⟨7, 1, .rw, 0⟩, ⟨8, 1, .rw, 0⟩, ⟨9, 6, .rw, 0⟩, ⟨16, 6, .rw, 0⟩, ⟨31, 1, .rw, 0⟩]⟩,
  /- DRV_REGION_BASE_LO -/ ⟨0xb20004, [(4096, 16)], [⟨0, 32, .rw, 0⟩]⟩,
  /- DRV_REGION_BASE_HI -/ ⟨0xb20008, [(4096, 16)], [⟨0, 8, .rw, 0⟩, ⟨8, 24, .rw, 0⟩]⟩,
  /- DRV_REGION_KEY -/ ⟨0xb2000c, [(4096, 16)], [⟨0, 32, .rw, 0⟩]⟩,
  /- DRV_KEYLIST -/ ⟨0xb30000, [(4096, 4)], [⟨0, 32, .rw, 0⟩]⟩,
  /- DRV_MCAST_CFG -/ ⟨0xb40000, [(256, 512)], [⟨0, 7, .rw, 0⟩]⟩,
  /- DRV_MCAST_MEM -/ ⟨0xb40100, [(256, 512), (64, 4)], [⟨0, 12, .rw, 0⟩]⟩,
  /- DRV_MEMBER -/ ⟨0xb60000, [(2, 1024), (256, 4)], [⟨0, 32, .rw, 0⟩]⟩,
  /- DRV_REDIR_CFG -/ ⟨0xb70000, [(64, 16)], [⟨0, 12, .rw, 0⟩, ⟨31, 1, .rw, 0⟩]⟩]
/-- Registers of the `DRV_` aperture, part 2. -/
def regsDrv2 : List RegDef := [
  /- DRV_REDIR_SRC -/ ⟨0xb70004, [(64, 16)], [⟨0, 12, .rw, 0⟩, ⟨16, 13, .rw, 0⟩]⟩,
  /- DRV_REDIR_DST -/ ⟨0xb70008, [(64, 16)], [⟨0, 12, .rw, 0⟩, ⟨16, 12, .rw, 0⟩]⟩,
  /- DRV_DEST_STATUS -/ ⟨0xb80000, [(4096, 8)], [⟨0, 13, .ro, 0⟩, ⟨13, 1, .ro, 0⟩, ⟨14, 2, .ro, 0⟩]⟩,
  /- DRV_DEST_SEQ -/ ⟨0xb80004, [(4096, 8)], [⟨0, 32, .ro, 0⟩]⟩]
/-- Registers of the `SLC_` aperture, part 0. -/
def regsSlc0 : List RegDef := [
  /- SLC_LOG_CTRL -/ ⟨0xc00100, [(4, 16)], [⟨0, 6, .rw, 0⟩, ⟨8, 1, .rw, 0⟩, ⟨9, 1, .w1s, 0⟩, ⟨10, 1, .ro, 0⟩, ⟨11, 1, .ro, 0⟩, ⟨12, 1, .w1c, 0⟩]⟩,
  /- SLC_LOG_HBASE -/ ⟨0xc00104, [(4, 16)], [⟨0, 24, .rw, 0⟩]⟩,
  /- SLC_CTRL -/ ⟨0xc01000, [(64, 128)], [⟨0, 1, .w1s, 0⟩, ⟨1, 1, .w1s, 0⟩, ⟨2, 1, .w1s, 0⟩, ⟨3, 1, .w1s, 0⟩]⟩,
  /- SLC_STATE -/ ⟨0xc01004, [(64, 128)], [⟨0, 3, .ro, 0⟩, ⟨3, 1, .ro, 0⟩, ⟨4, 4, .ro, 0⟩, ⟨8, 2, .ro, 0⟩, ⟨10, 1, .ro, 0⟩]⟩,
  /- SLC_PASID -/ ⟨0xc01008, [(64, 128)], [⟨0, 20, .rwl, 0⟩, ⟨31, 1, .rwl, 0⟩]⟩,
  /- SLC_GROUPS_LO -/ ⟨0xc0100c, [(64, 128)], [⟨0, 32, .rwl, 0⟩]⟩,
  /- SLC_GROUPS_HI -/ ⟨0xc01010, [(64, 128)], [⟨0, 32, .rwl, 0⟩]⟩,
  /- SLC_STRM_BASE -/ ⟨0xc01014, [(64, 128)], [⟨0, 21, .rwl, 0⟩]⟩,
  /- SLC_STRM_COUNT -/ ⟨0xc01018, [(64, 128)], [⟨0, 21, .rwl, 0⟩]⟩,
  /- SLC_DRV -/ ⟨0xc0101c, [(64, 128)], [⟨0, 12, .rwl, 0⟩, ⟨16, 13, .rwl, 0⟩]⟩,
  /- SLC_KEYS -/ ⟨0xc01020, [(64, 128)], [⟨0, 12, .rwl, 0⟩, ⟨16, 13, .rwl, 0⟩]⟩,
  /- SLC_MCAST -/ ⟨0xc01024, [(64, 128)], [⟨0, 12, .rwl, 0⟩, ⟨16, 13, .rwl, 0⟩]⟩]
/-- Registers of the `SLC_` aperture, part 1. -/
def regsSlc1 : List RegDef := [
  /- SLC_ETHTX -/ ⟨0xc01028, [(64, 128)], [⟨0, 10, .rwl, 0⟩, ⟨16, 9, .rwl, 0⟩]⟩,
  /- SLC_ETHRX -/ ⟨0xc0102c, [(64, 128)], [⟨0, 10, .rwl, 0⟩, ⟨16, 9, .rwl, 0⟩]⟩,
  /- SLC_WEIGHT -/ ⟨0xc01030, [(64, 128)], [⟨0, 8, .rwl, 1⟩, ⟨8, 4, .rwl, 6⟩]⟩,
  /- SLC_MBX_REQ_PROD -/ ⟨0xc01034, [(64, 128)], [⟨0, 32, .ro, 0⟩]⟩,
  /- SLC_MBX_REQ_CONS -/ ⟨0xc01038, [(64, 128)], [⟨0, 32, .rw, 0⟩]⟩,
  /- SLC_MBX_RSP_PROD -/ ⟨0xc0103c, [(64, 128)], [⟨0, 32, .rw, 0⟩]⟩,
  /- SLC_MBX_RSP_CONS -/ ⟨0xc01040, [(64, 128)], [⟨0, 32, .ro, 0⟩]⟩,
  /- SLC_EVENT -/ ⟨0xc01044, [(64, 128)], [⟨0, 1, .w1c, 0⟩, ⟨1, 1, .w1c, 0⟩, ⟨2, 1, .w1c, 0⟩, ⟨3, 1, .w1c, 0⟩]⟩,
  /- SLC_XFER_LO -/ ⟨0xc01050, [(64, 128)], [⟨0, 32, .rw, 0⟩]⟩,
  /- SLC_XFER_HI -/ ⟨0xc01054, [(64, 128)], [⟨0, 7, .rw, 0⟩]⟩]
/-- Registers of the `INT_` aperture, part 0. -/
def regsInt0 : List RegDef := [
  /- INT_CFG -/ ⟨0xd00010, [], [⟨0, 16, .rw, 1000⟩]⟩,
  /- INT_EVENT -/ ⟨0xd00014, [], [⟨0, 1, .w1c, 0⟩, ⟨1, 1, .w1c, 0⟩, ⟨2, 1, .w1c, 0⟩, ⟨3, 1, .w1c, 0⟩, ⟨4, 1, .w1c, 0⟩]⟩,
  /- INT_INJECT -/ ⟨0xd00018, [], [⟨0, 8, .rw, 0⟩, ⟨8, 16, .rw, 0⟩, ⟨31, 1, .w1s, 0⟩]⟩,
  /- INT_POOL_LO -/ ⟨0xd00020, [], [⟨0, 32, .rw, 0⟩]⟩,
  /- INT_POOL_HI -/ ⟨0xd00024, [], [⟨0, 32, .rw, 0⟩]⟩,
  /- INT_QUAR_LO -/ ⟨0xd00028, [], [⟨0, 32, .w1c, 0⟩]⟩,
  /- INT_QUAR_HI -/ ⟨0xd0002c, [], [⟨0, 32, .w1c, 0⟩]⟩,
  /- INT_DERATE_CFG -/ ⟨0xd00030, [], [⟨0, 1, .rw, 1⟩, ⟨8, 8, .rw, 3⟩, ⟨16, 8, .rw, 24⟩]⟩,
  /- INT_MARGIN_CFG -/ ⟨0xd00034, [], [⟨0, 10, .rw, 40⟩, ⟨16, 8, .rw, 60⟩]⟩,
  /- INT_LINK_CFG -/ ⟨0xd00038, [], [⟨0, 8, .rw, 20⟩, ⟨16, 16, .rw, 65436⟩]⟩,
  /- INT_DIE -/ ⟨0xd00040, [(5, 4)], [⟨0, 10, .ro, 1023⟩, ⟨16, 8, .ro, 0⟩, ⟨24, 4, .ro, 0⟩, ⟨31, 1, .w1s, 0⟩]⟩,
  /- INT_SLC_CFG -/ ⟨0xd01000, [(64, 16)], [⟨0, 1, .rw, 0⟩]⟩]
/-- Registers of the `HOL_` aperture, part 0. -/
def regsHol0 : List RegDef := [
  /- HOL_LC -/ ⟨0xe00010, [], [⟨0, 3, .ro, 0⟩]⟩,
  /- HOL_EVENT -/ ⟨0xe00014, [], [⟨0, 1, .w1c, 0⟩, ⟨1, 1, .w1c, 0⟩, ⟨2, 1, .w1c, 0⟩, ⟨3, 1, .w1c, 0⟩, ⟨4, 1, .w1c, 0⟩, ⟨5, 1, .w1c, 0⟩]⟩,
  /- HOL_CMD -/ ⟨0xe00100, [(16, 4)], [⟨0, 32, .rw, 0⟩]⟩,
  /- HOL_CMD_CTRL -/ ⟨0xe00140, [], [⟨0, 1, .w1s, 0⟩, ⟨1, 1, .ro, 0⟩]⟩,
  /- HOL_RSP -/ ⟨0xe00180, [(16, 4)], [⟨0, 32, .ro, 0⟩]⟩,
  /- HOL_SEAL_GROUPS_LO -/ ⟨0xe00200, [], [⟨0, 32, .w1s, 0⟩]⟩,
  /- HOL_SEAL_GROUPS_HI -/ ⟨0xe00204, [], [⟨0, 32, .w1s, 0⟩]⟩,
  /- HOL_TAMPER -/ ⟨0xe00210, [], [⟨0, 1, .rw, 0⟩, ⟨1, 1, .rw, 0⟩, ⟨2, 1, .rw, 0⟩, ⟨3, 1, .w1s, 0⟩, ⟨4, 5, .w1c, 0⟩, ⟨9, 1, .ro, 0⟩]⟩,
  /- HOL_SENS_CFG -/ ⟨0xe00300, [], [⟨0, 10, .rw, 32⟩]⟩,
  /- HOL_SENS -/ ⟨0xe00400, [(25, 4)], [⟨0, 16, .ro, 0⟩, ⟨16, 12, .rw, 380⟩, ⟨31, 1, .w1c, 0⟩]⟩]
/-- Registers of the `SAL_` aperture, part 0. -/
def regsSal0 : List RegDef := [
  /- SAL_CFG -/ ⟨0xf00010, [], [⟨0, 6, .rw, 0⟩, ⟨8, 1, .rw, 0⟩, ⟨9, 1, .rw, 0⟩, ⟨10, 1, .rw, 0⟩, ⟨11, 1, .rw, 0⟩, ⟨12, 6, .rw, 0⟩]⟩,
  /- SAL_EVENT -/ ⟨0xf00014, [], [⟨0, 1, .w1c, 0⟩, ⟨1, 1, .w1c, 0⟩, ⟨2, 1, .w1c, 0⟩, ⟨3, 1, .w1c, 0⟩, ⟨4, 1, .w1c, 0⟩, ⟨5, 1, .w1c, 0⟩, ⟨6, 1, .w1c, 0⟩]⟩,
  /- SAL_TIMING -/ ⟨0xf00018, [], [⟨0, 8, .rw, 30⟩, ⟨8, 3, .rw, 4⟩]⟩,
  /- SAL_LOADING -/ ⟨0xf0001c, [], [⟨0, 4, .rw, 6⟩, ⟨4, 4, .rw, 8⟩, ⟨8, 8, .rw, 10⟩]⟩,
  /- SAL_CMD_NODES_LO -/ ⟨0xf00020, [], [⟨0, 32, .rw, 0⟩]⟩,
  /- SAL_CMD_NODES_HI -/ ⟨0xf00024, [], [⟨0, 32, .rw, 0⟩]⟩,
  /- SAL_HB_CTRL -/ ⟨0xf00028, [], [⟨0, 1, .rw, 0⟩]⟩,
  /- SAL_INJECT -/ ⟨0xf00030, [], [⟨0, 4, .rw, 0⟩, ⟨4, 1, .rw, 0⟩, ⟨31, 1, .w1s, 0⟩]⟩,
  /- SAL_BUS_CTRL -/ ⟨0xf00100, [(2, 64)], [⟨0, 3, .rw, 3⟩, ⟨3, 1, .rw, 1⟩]⟩,
  /- SAL_BUS_STATUS -/ ⟨0xf00104, [(2, 64)], [⟨0, 3, .ro, 7⟩, ⟨3, 1, .ro, 0⟩, ⟨4, 1, .ro, 0⟩, ⟨5, 1, .ro, 0⟩, ⟨6, 1, .ro, 0⟩, ⟨7, 6, .ro, 0⟩, ⟨13, 1, .w1c, 0⟩]⟩,
  /- SAL_BUS_RX -/ ⟨0xf00108, [(2, 64)], [⟨0, 16, .ro, 0⟩, ⟨16, 8, .ro, 0⟩]⟩,
  /- SAL_BUS_LINE -/ ⟨0xf0010c, [(2, 64)], [⟨0, 16, .ro, 0⟩, ⟨16, 8, .ro, 0⟩, ⟨24, 8, .ro, 0⟩]⟩]
/-- Registers of the `SAL_` aperture, part 1. -/
def regsSal1 : List RegDef := [
  /- SAL_PEER -/ ⟨0xf00400, [(64, 4)], [⟨0, 2, .ro, 0⟩, ⟨2, 2, .ro, 0⟩, ⟨4, 1, .ro, 0⟩, ⟨5, 1, .ro, 0⟩, ⟨6, 2, .ro, 0⟩, ⟨8, 8, .ro, 0⟩, ⟨16, 8, .ro, 0⟩]⟩,
  /- SAL_TX_CTRL -/ ⟨0xf00800, [], [⟨0, 6, .rw, 0⟩, ⟨6, 1, .rw, 0⟩, ⟨8, 11, .rw, 0⟩, ⟨19, 1, .w1s, 0⟩, ⟨20, 1, .ro, 0⟩, ⟨21, 2, .ro, 0⟩]⟩,
  /- SAL_RX_STATUS -/ ⟨0xf00808, [], [⟨0, 1, .ro, 0⟩, ⟨1, 6, .ro, 0⟩, ⟨7, 1, .ro, 0⟩, ⟨8, 4, .ro, 0⟩, ⟨12, 11, .ro, 0⟩, ⟨23, 4, .ro, 0⟩, ⟨27, 1, .w1s, 0⟩, ⟨28, 1, .w1c, 0⟩]⟩,
  /- SAL_TXBUF -/ ⟨0xf01000, [(382, 4)], [⟨0, 32, .rw, 0⟩]⟩,
  /- SAL_RXBUF -/ ⟨0xf02000, [(382, 4)], [⟨0, 32, .ro, 0⟩]⟩]
/-- Registers of the `PCI_` aperture, part 0. -/
def regsPci0 : List RegDef := [
  /- PCI_LINK_STATUS -/ ⟨0x1000010, [], [⟨0, 1, .ro, 0⟩, ⟨1, 3, .ro, 0⟩, ⟨4, 5, .ro, 0⟩, ⟨9, 1, .ro, 0⟩, ⟨10, 1, .ro, 0⟩]⟩,
  /- PCI_EVENT -/ ⟨0x1000014, [], [⟨0, 1, .w1c, 0⟩, ⟨1, 1, .w1c, 0⟩, ⟨2, 1, .w1c, 0⟩, ⟨3, 1, .w1c, 0⟩]⟩,
  /- PCI_CPX_BOOT -/ ⟨0x1000100, [], [⟨0, 1, .rw, 0⟩, ⟨1, 1, .w1s, 0⟩, ⟨2, 3, .ro, 0⟩, ⟨5, 3, .ro, 0⟩]⟩,
  /- PCI_CPX_BOOT_ADDR_LO -/ ⟨0x1000104, [], [⟨0, 32, .rw, 0⟩]⟩,
  /- PCI_CPX_BOOT_ADDR_HI -/ ⟨0x1000108, [], [⟨0, 7, .rw, 0⟩]⟩,
  /- PCI_CORE_CFG -/ ⟨0x1000200, [(32, 4)], [⟨0, 1, .rw, 0⟩, ⟨1, 1, .rw, 0⟩, ⟨2, 6, .rw, 0⟩]⟩,
  /- PCI_INT_ROUTE -/ ⟨0x1010000, [(1088, 4)], [⟨0, 11, .rw, 0⟩, ⟨11, 5, .rw, 0⟩, ⟨16, 1, .rw, 0⟩, ⟨31, 1, .rw, 0⟩]⟩]
/-- Registers of the `PWR_` aperture, part 0. -/
def regsPwr0 : List RegDef := [
  /- PWR_STATE -/ ⟨0x1100010, [], [⟨0, 3, .ro, 0⟩, ⟨3, 1, .ro, 0⟩, ⟨4, 4, .ro, 0⟩, ⟨8, 4, .ro, 0⟩]⟩,
  /- PWR_CTRL -/ ⟨0x1100014, [], [⟨0, 1, .w1s, 0⟩, ⟨1, 1, .w1s, 0⟩, ⟨2, 1, .rw, 0⟩]⟩,
  /- PWR_EVENT -/ ⟨0x1100018, [], [⟨0, 1, .w1c, 0⟩, ⟨1, 1, .w1c, 0⟩]⟩,
  /- PWR_CPX -/ ⟨0x1100020, [], [⟨0, 3, .rw, 0⟩, ⟨4, 3, .ro, 0⟩, ⟨7, 1, .ro, 0⟩]⟩,
  /- PWR_TCLK -/ ⟨0x1100030, [(4, 4)], [⟨0, 3, .rw, 0⟩, ⟨4, 3, .ro, 0⟩, ⟨8, 3, .ro, 0⟩, ⟨11, 1, .ro, 0⟩]⟩,
  /- PWR_DOM_ETQ -/ ⟨0x1100040, [], [⟨0, 8, .rw, 0⟩]⟩,
  /- PWR_DOM_DRP -/ ⟨0x1100044, [], [⟨0, 12, .rw, 0⟩]⟩,
  /- PWR_DOM_TG_LO -/ ⟨0x1100050, [], [⟨0, 32, .ro, 0⟩]⟩,
  /- PWR_DOM_TG_HI -/ ⟨0x1100054, [], [⟨0, 32, .ro, 0⟩]⟩,
  /- PWR_DOM_CL -/ ⟨0x1100060, [(4, 4)], [⟨0, 32, .ro, 0⟩]⟩,
  /- PWR_TG_CFG -/ ⟨0x1100070, [], [⟨0, 16, .rw, 100⟩]⟩,
  /- PWR_RAIL -/ ⟨0x1100100, [(16, 4)], [⟨0, 16, .ro, 0⟩, ⟨16, 15, .ro, 0⟩, ⟨31, 1, .ro, 0⟩]⟩]
/-- Every register of the part but `xxx_BLOCK_ID`, `xxx_BLOCK_STATUS` (R37) and the counters. -/
def regTable : List RegDef :=
  regsPln0 ++ regsPln1 ++ regsTil0 ++ regsDsp0 ++ regsDsp1 ++ regsMem0 ++ regsMem1 ++ regsStm0 ++ regsDec0 ++ regsBba0 ++ regsBba1 ++ regsBba2 ++ regsBbh0 ++ regsBbh1 ++ regsEth0 ++ regsTsh0 ++ regsTsh1 ++ regsTim0 ++ regsTim1 ++ regsDrv0 ++ regsDrv1 ++ regsDrv2 ++ regsSlc0 ++ regsSlc1 ++ regsInt0 ++ regsHol0 ++ regsSal0 ++ regsSal1 ++ regsPci0 ++ regsPwr0
/-- Every 48-bit counter: key of the low word of the first, and array dimensions (R15). -/
def counterTable : List (Nat × List (Nat × Nat)) := [
  /- TIL_SPAD_CE -/ (0x10000040, [(1024, 4096)]),
  /- TIL_SPAD_UE -/ (0x10000048, [(1024, 4096)]),
  /- DSP_SLC_COMMITS -/ (0x201020, [(64, 64)]),
  /- DSP_SLC_RERUNS -/ (0x201028, [(64, 64)]),
  /- DSP_CYC_CUTS -/ (0x200030, []),
  /- DSP_CYC_OVERRUNS -/ (0x200038, []),
  /- DSP_SLC_CUTS -/ (0x201034, [(64, 64)]),
  /- MEM_HBM_CE -/ (0x300908, [(8, 32)]),
  /- MEM_HBM_UE -/ (0x300910, [(8, 32)]),
  /- MEM_HBM_POISON -/ (0x300918, [(8, 32)]),
  /- MEM_MCB_CE -/ (0x302004, [(16, 64)]),
  /- MEM_MCB_UE -/ (0x30200c, [(16, 64)]),
  /- MEM_MCB_POISON -/ (0x302014, [(16, 64)]),
  /- MEM_MCB_LINK_CE -/ (0x30201c, [(16, 64)]),
  /- STM_SLC_TOKENS -/ (0x401018, [(64, 64)]),
  /- DEC_SLC_ITEMS -/ (0x501000, [(64, 8)]),
  /- BBA_CL_CE -/ (0x20001020, [(128, 16384)]),
  /- BBA_CL_UE -/ (0x20001028, [(128, 16384)]),
  /- BBH_EXP_SAT -/ (0x700100, []),
  /- BBH_FH_EARLY -/ (0x700108, []),
  /- BBH_FH_LATE -/ (0x700110, []),
  /- BBH_FH_MISSING -/ (0x700118, []),
  /- BBH_FH_DUP -/ (0x700120, []),
  /- BBH_FH_DROP -/ (0x700128, []),
  /- BBH_FH_SEQ_GAP -/ (0x700130, []),
  /- BBH_TX_LATE -/ (0x700138, []),
  /- ETH_TX_FRAMES -/ (0x801080, [(32, 256)]),
  /- ETH_TX_OCTETS -/ (0x801088, [(32, 256)]),
  /- ETH_RX_FRAMES -/ (0x801090, [(32, 256)]),
  /- ETH_RX_OCTETS -/ (0x801098, [(32, 256)]),
  /- ETH_RX_FCS -/ (0x8010a0, [(32, 256)]),
  /- ETH_RX_LEN -/ (0x8010a8, [(32, 256)]),
  /- ETH_RX_FILTER -/ (0x8010b0, [(32, 256)]),
  /- ETH_RX_NOMATCH -/ (0x8010b8, [(32, 256)]),
  /- ETH_FEC_CE -/ (0x8010c0, [(32, 256)]),
  /- ETH_FEC_UE -/ (0x8010c8, [(32, 256)]),
  /- TSH_TXQ_LATE -/ (0x910020, [(1024, 64)]),
  /- TSH_RXQ_POL_DROP -/ (0x920020, [(1024, 64)]),
  /- TSH_RXQ_NOBUF -/ (0x920028, [(1024, 64)]),
  /- TSH_RXQ_OVERSIZE -/ (0x920030, [(1024, 64)]),
  /- DRV_REFUSE -/ (0xb00020, []),
  /- DRV_BUSY -/ (0xb00028, []),
  /- DRV_TTL -/ (0xb00030, []),
  /- DRV_PORT_RETRY -/ (0xb01014, [(12, 64)]),
  /- DRV_PORT_FECUE -/ (0xb0101c, [(12, 64)]),
  /- DRV_RETX -/ (0xb00220, []),
  /- DRV_DUP -/ (0xb00228, []),
  /- DRV_STALE -/ (0xb00230, []),
  /- DRV_VOID -/ (0xb00238, []),
  /- DRV_DEFER_DROP -/ (0xb00240, []),
  /- SLC_UNBOUND -/ (0xc00010, []),
  /- SLC_REFUSE -/ (0xc01048, [(64, 128)]),
  /- INT_REPLAYS -/ (0xd00100, []),
  /- INT_MISMATCH -/ (0xd00108, []),
  /- INT_SKIPS -/ (0xd00110, []),
  /- INT_REC_LOST -/ (0xd00118, []),
  /- INT_DET_CNT -/ (0xd04000, [(256, 8)]),
  /- HOL_WDOG -/ (0xe00020, []),
  /- SAL_RX_OK -/ (0xf00200, [(2, 128)]),
  /- SAL_RX_FALSE -/ (0xf00208, [(2, 128)]),
  /- SAL_RX_CRC -/ (0xf00210, [(2, 128)]),
  /- SAL_RX_CAPTURE -/ (0xf00218, [(2, 128)]),
  /- SAL_RX_BADLVER -/ (0xf00220, [(2, 128)]),
  /- SAL_TX_FRAMES -/ (0xf00228, [(2, 128)]),
  /- SAL_TX_RETRY -/ (0xf00230, [(2, 128)]),
  /- SAL_HB_MISS -/ (0xf00238, [(2, 128)])]

/-- The values of more than 32 bits that are no counters (R9): key of the low word of the first, array dimensions and
number of words. -/
def wideTable : List (Nat × List (Nat × Nat) × Nat) := [
  /- PLN_GROUP_PRESENT -/ (0x110, [], 2),
  /- PLN_RADIO_GROUPS -/ (0x118, [], 2),
  /- PLN_LOAD_ADDR -/ (0x200, [], 2),
  /- DSP_SLC_STEP -/ (0x201010, [(64, 64)], 2),
  /- MEM_ERR_ADDR -/ (0x300018, [], 2),
  /- STM_SLC_PROF -/ (0x401000, [(64, 64)], 2),
  /- BBA_NOTIFY -/ (0x600118, [], 2),
  /- BBA_PROG_ADDR -/ (0x600200, [], 2),
  /- BBA_TASK_MASK -/ (0x640004, [(1024, 16)], 2),
  /- BBA_EVENT -/ (0x20001050, [(128, 16384)], 2),
  /- BBH_Q_RING -/ (0x701004, [(64, 32)], 2),
  /- BBH_Q_CMPL -/ (0x70100c, [(64, 32)], 2),
  /- BBH_FH_MAP_DST -/ (0x710004, [(4096, 16)], 2),
  /- ETH_PORT_MAC -/ (0x801010, [(32, 256), (8, 8)], 2),
  /- TSH_TXQ_RING -/ (0x910004, [(1024, 64)], 2),
  /- TSH_RXQ_RING -/ (0x920004, [(1024, 64)], 2),
  /- TIM_PULSE_START -/ (0xa01004, [(8, 64)], 2),
  /- DRV_REGION_BASE -/ (0xb20004, [(4096, 16)], 2),
  /- SLC_GROUPS -/ (0xc0100c, [(64, 128)], 2),
  /- SLC_XFER -/ (0xc01050, [(64, 128)], 2),
  /- INT_POOL -/ (0xd00020, [], 2),
  /- INT_QUAR -/ (0xd00028, [], 2),
  /- HOL_SEAL_GROUPS -/ (0xe00200, [], 2),
  /- SAL_CMD_NODES -/ (0xf00020, [], 2),
  /- PCI_CPX_BOOT_ADDR -/ (0x1000104, [], 2),
  /- PWR_DOM_TG -/ (0x1100050, [], 2),
  /- TIM_TIME -/ (0xa00020, [], 3),
  /- TIM_RAW -/ (0xa00030, [], 3),
  /- TIM_STEP -/ (0xa00050, [], 3),
  /- TIM_CAP -/ (0xa02004, [(8, 64)], 4)]

/-- Whether `rem`, an offset from an array's first register, names one of its elements. -/
def inDims : List (Nat × Nat) → Nat → Bool
  | [], rem => decide (rem = 0)
  | (c, s) :: t, rem => decide (rem / s < c) && inDims t (rem % s)

/-- The definition of the register with a key. -/
def regFind (key : Nat) : List RegDef → Option RegDef
  | [] => none
  | d :: t => if d.base ≤ key ∧ inDims d.dims (key - d.base) then some d else regFind key t

/-- Whether a key is the low word of a counter. -/
def isCounter (key : Nat) : Bool :=
  counterTable.any (fun c => decide (c.1 ≤ key) && inDims c.2 (key - c.1))

/-- The words of the value whose low word has a key; `none` where the key is not such a word. -/
def wideAt (key : Nat) : Option Nat :=
  if isCounter key then some 2
  else (wideTable.find? (fun c => decide (c.1 ≤ key) && inDims c.2.1 (key - c.1))).map (fun c => c.2.2)

/-- The low word's key and the word number of an upper word of a value (R9). -/
def upperAt (key : Nat) : Option (Nat × Nat) :=
  [1, 2, 3].findSome? (fun i =>
    match wideAt (key - 4 * i) with
    | some n => if 4 * i ≤ key ∧ i < n then some (key - 4 * i, i) else none
    | none => none)

/-- The registers whose reset value is not zero. -/
def resetTable : List (Nat × List (Nat × Nat) × Nat) := [
  /- PLN_TILE_WINDOW -/ (0x100, [], 0x10000),
  /- PLN_GROUP_PRESENT_LO -/ (0x110, [], 0xffffffff),
  /- PLN_GROUP_PRESENT_HI -/ (0x114, [], 0xffffffff),
  /- DSP_STEP_TIMEOUT -/ (0x200010, [], 0x1388),
  /- DSP_SAMPLE_CFG -/ (0x200014, [], 0x6),
  /- DSP_CYC_GUARD -/ (0x200024, [], 0x3cf03e8),
  /- MEM_SCRUB_CFG -/ (0x300010, [], 0x318),
  /- BBA_WAKE_CFG -/ (0x600114, [], 0x2814),
  /- BBA_NOTIFY_HI -/ (0x60011c, [], 0x800),
  /- BBA_PROG_DST -/ (0x60020c, [], 0x100),
  /- BBH_FH_EAXC_MASK -/ (0x700020, [], 0xfff),
  /- BBH_Q_CFG -/ (0x701000, [(64, 32)], 0x40018),
  /- ETH_PORT_CTRL -/ (0x801000, [(32, 256)], 0x24000000),
  /- TSH_PORT_CFG -/ (0x901000, [(32, 16)], 0x214),
  /- TSH_TXQ_CFG -/ (0x910000, [(1024, 64)], 0x30),
  /- TSH_TXQ_DRR -/ (0x91000c, [(1024, 64)], 0x2414),
  /- TSH_TXQ_BURST -/ (0x910014, [(1024, 64)], 0x10000),
  /- TSH_RXQ_CFG -/ (0x920000, [(1024, 64)], 0x430),
  /- TSH_RXQ_PBURST -/ (0x920010, [(1024, 64)], 0x10000),
  /- TIM_STEP_LIMIT -/ (0xa00044, [], 0x3e8),
  /- TIM_PLL -/ (0xa00060, [], 0x8),
  (0xa00080, [], 3920),
  (0xa00084, [], 9120),
  (0xa00088, [], 3120),
  (0xa0008c, [], 7600),
  (0xa00090, [], 2640),
  (0xa00094, [], 6160),
  /- TIM_PULSE_PERIOD -/ (0xa0100c, [(8, 64)], 0x3b9aca00),
  /- TIM_PULSE_WIDTH -/ (0xa01010, [(8, 64)], 0x3e8),
  /- TIM_CAP_CFG -/ (0xa02000, [(8, 64)], 0x40002),
  /- DRV_XPORT_CFG -/ (0xb00210, [], 0xc8),
  /- DRV_PORT_CTRL -/ (0xb01000, [(12, 64)], 0x2),
  /- SLC_WEIGHT -/ (0xc01030, [(64, 128)], 0x601),
  /- INT_CFG -/ (0xd00010, [], 0x3e8),
  /- INT_DERATE_CFG -/ (0xd00030, [], 0x180301),
  /- INT_MARGIN_CFG -/ (0xd00034, [], 0x3c0028),
  /- INT_LINK_CFG -/ (0xd00038, [], 0xff9c0014),
  /- INT_DIE -/ (0xd00040, [(5, 4)], 0x3ff),
  /- HOL_SENS_CFG -/ (0xe00300, [], 0x20),
  /- HOL_SENS -/ (0xe00400, [(25, 4)], 0x17c0000),
  /- SAL_TIMING -/ (0xf00018, [], 0x41e),
  /- SAL_LOADING -/ (0xf0001c, [], 0xa86),
  /- SAL_BUS_CTRL -/ (0xf00100, [(2, 64)], 0xb),
  /- SAL_BUS_STATUS -/ (0xf00104, [(2, 64)], 0x7),
  /- PWR_TG_CFG -/ (0x1100070, [], 0x64),
  /- TIL_BIST_CTRL -/ (0x10000050, [(1024, 4096)], 0x1),
  /- TIL_BIST_STATUS -/ (0x10000054, [(1024, 4096)], 0x100000),
  /- BBA_BIST_CTRL -/ (0x20001030, [(128, 16384)], 0x1)]

/-- The reset value of the register with a key, looked up in `resetTable`. -/
def resetIn (key : Nat) : List (Nat × List (Nat × Nat) × Nat) → Nat
  | [] => 0
  | (b, d, v) :: t => if b ≤ key ∧ inDims d (key - b) then v else resetIn key t

/-- The reset value of a register: zero but for those of `resetTable`; transmit queues 128 to 1,023 start at
level 1. -/
def resetOf (key : Nat) : Word :=
  if 0x912000 ≤ key ∧ key < 0x920000 ∧ inDims [(1024, 64)] (key - 0x910000) then 0x00001030
  else BitVec.ofNat 32 (resetIn key resetTable)

end Sys2Proof.Machine
end

