-- ==== Sys2Proof/Machine/StateTile.lean ====
section
/-! DEFINITION. The state of a tensor tile (R74): matrix engine, accumulators, checksum state, vector unit,
scratchpad, mover, scoreboard, stores and the run of its schedule. -/

namespace Sys2Proof.Machine

/-! ### Tensor tiles -/

/-- A weight register: the bytes loaded, the scale codes, the format field of its generator (R124) and the rows
loaded so far (R77, R78, R564). -/
structure WReg where
  bytes   : SMap Byte
  scales  : SMap Byte
  fmt     : BitVec 7
  rows    : Nat
  nextRow : Nat
  deriving DecidableEq, Repr

/-- A mover request that has issued and awaits its reply (R94): which unit of its operation, the unit's offset and
length, the remote address of the unit, the fabric destination and sequence number it went out under, the data sent,
and the reply that came back with its cause of error (R163; 0 none). -/
structure MvReq where
  idx   : Nat
  off   : Nat
  len   : Nat
  addr  : Nat
  seq   : Option (Nat × Nat)
  data  : List MByte
  reply : Option (List MByte × Nat)
  deriving DecidableEq, Repr

/-- A mover operation (R93, R126) with the slice, step and logical tile that issued it, its scoreboard entry, the
next request to issue, those outstanding, the cause of its error (R163; 0 none), whether a staged write waits for a line
(R167), and, once its first packet is formed, the key and the fabric addresses of its range (R361, R405). A `dead` one
belongs to a step that was discarded (R339). `born` counts the operations that the tile issued before it (R93, `FENCE`). -/
structure MvOp where
  desc   : MoverRec
  slice  : Nat
  step   : Nat
  ltile  : Nat
  pos    : Nat
  seg    : Nat
  entry  : Nat
  next   : Nat
  out    : List MvReq
  cause  : Nat
  waiting : Bool
  bkey   : Option Nat
  bdst   : List Nat
  dead   : Bool
  born   : Nat
  deriving DecidableEq, Repr

/-- The states of a scoreboard entry (R96). -/
inductive ScbState where
  | free | issued | done | error
  deriving DecidableEq, Repr

/-- A scoreboard entry with the fields of R96. -/
structure ScbEntry where
  st    : ScbState
  kind  : Nat
  ctx   : Nat
  laddr : Nat
  len   : Nat
  pos   : Nat
  cause : Nat
  deriving DecidableEq, Repr

/-- A tile's schedule and table stores for one image: the TILE_FUNC record, the directory and bundles, the ADDR
records, the ROUTING record (R117, R122, R123, R128), and the identity its generator draws use (R67). -/
structure TileStore where
  valid  : Bool
  radio  : Bool
  ltile  : Nat
  region : Nat
  ctx    : Nat
  scb    : Nat
  dir    : List Nat
  bundles : List (BitVec 128)
  addr   : List (BitVec 256)
  routing : BitVec 64
  srMax  : Nat
  deriving DecidableEq, Repr

/-- A tile's context (R98): accumulators, both weight registers, staging and checksum state. -/
structure TileCtx where
  acc     : SMap Word
  accInt  : SMap Bool
  chkS    : SMap Word
  chkM    : SMap Word
  groups  : SMap Nat
  wAct    : WReg
  wShd    : WReg
  staging : SMap Byte
  deriving DecidableEq, Repr

/-- The run of a tile's schedule: whether a body runs, the next bundle, the `IDLE` cycles left, loop counters with
begin bundles and completed iterations (R125, R130), whether the bundle is entered by a taken branch, the bundles
issued in the step (R511), the stochastic conversions drawn in it, and the index of the one that a drain in progress
uses (R67, R129). -/
structure TileRun where
  running  : Bool
  radio    : Bool
  pc       : Nat
  idle     : Nat
  lc       : SMap Nat
  lbegin   : SMap Nat
  liter    : SMap Nat
  branched : Bool
  issued   : Nat
  conv     : Nat
  drain    : Option Nat
  ended    : Bool
  deriving DecidableEq, Repr

/-- A tensor tile (R74). The scratchpad's spare row i is row 3,072 + i (R101). `keptInt` says which accumulator rows held
INT32 values at the last save, which a restore re-bases by (R100). `vlost` is the model's own field: 0, or one more than the number
of the free value that vector and mask registers hold which the segment has not written (R87; DESIGN CHOICE, log entry 99); `born` the operations that its mover has been given. -/
structure Tile where
  cx      : TileCtx
  saved   : Option (TileCtx × TileRun)
  run     : TileRun
  vregs   : SMap Word
  masks   : SMap (BitVec 64)
  spad    : Memory
  store   : TileStore
  rstore  : TileStore
  ctxs    : SMap (Option MvOp)
  lastCtx : Nat
  mvq     : List MvOp
  scb     : SMap ScbEntry
  ej      : List (Nat × List CWord)
  testBuf : Memory
  chunkQ  : List Nat
  keptInt : SMap Bool
  vlost   : Nat
  born    : Nat
  deriving DecidableEq, Repr

/-! ### Reset values -/

/-- A cleared weight register (R564). -/
def WReg.empty : WReg := ⟨[], [], 0, 0, 0⟩
/-- No image in a tile's store. -/
def TileStore.empty : TileStore := ⟨false, false, 0, 0, 0, 0, [], [], [], 0, 0⟩
/-- A cleared context (R98). -/
def TileCtx.empty : TileCtx := ⟨[], [], [], [], [], WReg.empty, WReg.empty, []⟩
/-- A schedule that does not run. -/
def TileRun.reset : TileRun := ⟨false, false, 0, 0, [], [], [], false, 0, 0, none, false⟩
/-- A FREE scoreboard entry (R96). -/
def ScbEntry.empty : ScbEntry := ⟨.free, 0, 0, 0, 0, 0, 0⟩
/-- A tile after reset (R539): everything clear. -/
def Tile.reset : Tile :=
  ⟨TileCtx.empty, none, TileRun.reset, [], [], memEmpty, TileStore.empty, TileStore.empty, [], 15, [], [], [],
    memEmpty, [], [], 0, 0⟩

end Sys2Proof.Machine
end

