-- ==== Sys2Proof/Machine/StateDispatch.lean ====
section
/-! DEFINITION. The state of plan images, of the dispatcher, and of integrity: images and their records, slices and
their uncommitted steps, groups, staging, journals, replays, records and corners. -/

namespace Sys2Proof.Machine

/-! ### Plan images -/

/-- A SEGMENT record (R133). -/
structure SegRec where
  slot    : Nat
  last    : Bool
  len     : Nat
  dirBase : Nat
  nVar    : Nat
  resume  : Nat
  deriving DecidableEq, Repr

/-- A SELECTOR record (R134). -/
structure SelRec where
  src       : Nat
  mode      : Nat
  lanes     : Nat
  firstSlot : Nat
  next      : Bool
  resSeg    : Nat
  srcTile   : Nat
  srcArg    : Nat
  shift     : Nat
  bits      : Nat
  cmp       : Nat
  vtOff     : Nat
  vtLen     : Nat
  deriving DecidableEq, Repr

/-- A ROUTE record (R119). -/
structure RouteRec where
  src    : Nat
  dst    : Nat
  nhops  : Nat
  period : Nat
  offset : Nat
  width  : Nat
  id     : Nat
  seam0  : Nat
  seam1  : Nat
  hops   : Nat
  deriving DecidableEq, Repr

/-- An INIT record (R128): position, scratchpad byte address and data. -/
structure InitRec where
  lgroup : Nat
  pos    : Nat
  addr   : Nat
  data   : List Byte
  deriving DecidableEq, Repr

/-- The group sections of one logical group: the stores of its 16 tiles, routes, and INIT data. -/
structure GroupSec where
  lgroup : Nat
  sx     : Nat
  sy     : Nat
  stores : List TileStore
  routes : List RouteRec
  init   : List InitRec
  deriving DecidableEq, Repr

/-- A checked plan image: header fields, records, and the placement it has. -/
structure Image where
  radio    : Bool
  partl    : Bool
  imageId  : Nat
  seed     : Nat
  gen      : Nat
  maxSeg   : Nat
  nSlots   : Nat
  ox       : Nat
  oy       : Nat
  ndir     : Nat
  segs     : List SegRec
  sels     : List SelRec
  vt       : List Nat
  groups   : List GroupSec
  deriving DecidableEq, Repr

/-- The plan loader (R141): the bytes fetched, the loading slice, the origin, and whether it waits for the warden's
answer on a signature. -/
structure Loader where
  bytes   : List Byte
  slice   : Nat
  ox      : Nat
  oy      : Nat
  waitSig : Bool
  quar    : List Nat
  deriving DecidableEq, Repr

/-! ### Steps, slices and groups -/

/-- A staged line of 256 bytes (R165): tier, slice-relative offset of its first byte, its chunks (0 to 15) and the
logical group that wrote each (R512). -/
structure StLine where
  tierB  : Bool
  off    : Nat
  chunks : SMap (Option CWord)
  writer : SMap Nat
  deriving DecidableEq, Repr

/-- A deferred effect (R164, R169). -/
inductive DeferEff where
  /-- A fabric operation's line to a non-member. -/
  | fab (d : MoverRec) (idx : Nat) (data : List CWord)
  /-- A stream-table entry. -/
  | stream (sid : Nat) (entry : List Byte)
  /-- An entry of the slice's output queue (R239). -/
  | outq (entry : List Byte)
  deriving DecidableEq, Repr

/-- A deferred effect with its kind's place in the order of R169 and its order within the kind. -/
structure Deferred where
  kind  : Nat
  ltile : Nat
  pos   : Nat
  eff   : DeferEff
  deriving DecidableEq, Repr

/-- An uncommitted step (R155, R169): its number, what has ended, the variants of its slots (variant + 1; 0 is
unresolved) and of the next step's, selectors resolved, decode operations left, staged lines and deferred effects,
the groups sampled, suspect and judged, the operations that ended in ERROR (logical tile, schedule position and cause;
R163), the commit-group members that are ready, the lines applied to each gated region
(R376), the next rank of each ordered line (R375, by region × 2^33 + line), the fabric lines that reached the logit
range of each decode operand (R228), and the source words of selectors read at the end of `RES_SEG` (R158). -/
structure StepRt where
  num       : Nat
  ended     : Bool
  var       : SMap Nat
  nextVar   : SMap Nat
  resolved  : List Nat
  decodeLeft : List Nat
  lines     : List StLine
  deferred  : List Deferred
  sampled   : List Nat
  suspect   : List Nat
  matched   : List Nat
  errs      : List (Nat × Nat × Nat)
  ready     : List Nat
  arrivals  : SMap Nat
  ranks     : SMap Nat
  readySent : Bool
  expect    : SMap Nat
  selRaw    : SMap (List Word)
  deriving DecidableEq, Repr

/-- A slice's run-time state in the dispatcher: its image; the states it returns to after PREEMPTED and STALLED; its
uncommitted steps, oldest first, and the next to release; lines committed and not drained; the variants that a committed
step's selectors gave the next one; steps to be run again, which their release does not charge (R170, R172); the step
that was run again because it could not be replayed (R519). `place` gives each logical group's physical group plus 1;
`digests` the count and sum of R516 by 64 × step + logical group; `early` what members of the commit group have staged
for steps not yet released (R373); `abortAt` the moment of an epoch abort (R401). -/
structure SliceRt where
  image     : Option Image
  resumeSt  : Nat
  stallSt   : Nat
  steps     : List StepRt
  nextRelease : Nat
  committed : List StLine
  heldVar   : SMap Nat
  rerun     : Nat
  retrySusp : Option Nat
  arith     : SMap (BitVec 48)
  place     : SMap Nat
  digests   : SMap (Nat × Nat)
  early     : List StepRt
  abortAt   : Option Nat
  deriving DecidableEq, Repr

/-- A physical group's run-time state: the step and segment it is at, the state it held before a loan or a save, the
moment it fell idle, a pending return, whether it runs a replay, the progress of slice 0's work on it, the neural stage
that runs on it (R299), whether its next segment runs the resume prologue first and whether that runs now (R347),
whether its tiles' contexts were dumped when it was lent (R340), and the slice it is saved for when a replay borrows it
(R344), the progress of that owner's work while it is away, whether a detector fired during the stage (R300), and whether a
restore of it is to be made (R347). -/
structure GroupRt where
  step    : Nat
  seg     : Nat
  running : Bool
  begun   : Bool
  before  : Nat
  idleAt  : Nat
  retPend : Bool
  replay  : Bool
  rstep   : Nat
  rseg    : Nat
  rrunning : Bool
  rbegun  : Bool
  stage   : Option Nat
  resume  : Bool
  prologue : Bool
  dumped  : Bool
  saveFor : Option Nat
  keptAt  : Option (Nat × Nat × Bool)
  det     : Bool
  restoring : Bool
  deriving DecidableEq, Repr

/-- The cyclic table beside its registers (R331 to R336): whether a bank has passed validation since slice 0 became
LIVE, whether the table is in force, whether the next frame start is too near for a pending bank, and the last window
started, and whether time has stepped back since (R351). -/
structure CycRt where
  valid   : Bool
  force   : Bool
  skip    : Bool
  lastWin : Option Nat
  again   : Bool
  deriving DecidableEq, Repr

/-! ### Integrity -/

/-- A record of 16 words (R474, R509): kind, identifier, instance and further words. -/
structure Rec where
  kind  : Nat
  det   : Nat
  inst  : Nat
  w4    : Nat
  w5    : Nat
  w6    : Nat
  w7    : Nat
  deriving DecidableEq, Repr

/-- A group's journal of a step (R511): what entered it, in order. -/
inductive JEntry where
  /-- A row of flits for a logical tile, by its route. -/
  | flit (ltile route : Nat) (data : List CWord)
  /-- An access to a logical tile from another group, with the tile's issue index. -/
  | access (ltile issue : Nat) (write : Bool) (addr len : Nat) (data : List MByte)
  /-- The reply of unit `idx` of the operation that a logical tile issued at `pos`. -/
  | reply (ltile pos idx : Nat) (data : List MByte) (cause : Nat)
  deriving DecidableEq, Repr

/-- A journal of logical group `lgroup` of slice `slice` for step `step`; `full` while no line of it was lost. -/
structure Journal where
  slice  : Nat
  step   : Nat
  lgroup : Nat
  full   : Bool
  lines  : List JEntry
  deriving DecidableEq, Repr

/-- A replay (R513 to R517): slice, step, logical group, original group, target, whether it is a tie-break, whether its
target is set up, its digest, the first replay's target and digest for a tie-break, the owner if the target was taken from
a slice, whether a detector on the target voided it (R515), and the overlay of its writes. -/
structure Replay where
  slice   : Nat
  step    : Nat
  lgroup  : Nat
  orig    : Nat
  target  : Nat
  tie     : Bool
  setup   : Bool
  digest  : Option (Nat × Nat)
  first   : Option (Nat × Nat × Nat)
  borrow  : Option Nat
  voided  : Bool
  overlay : List StLine
  deriving DecidableEq, Repr

/-- Firings of one corner (R522): die, temperature band, clock step, and the milliseconds at which they fell. -/
structure Corner where
  die   : Nat
  band  : Int
  step  : Nat
  times : List Nat
  deriving DecidableEq, Repr

/-- The integrity block beside its registers: the warden's record queue of 256 (R510), whether records were lost since
it last had room, the last record time of each class-C pair, journals, replays, what each pool group holds (slice,
logical group, generation), corners, last margin firing of each die, and the retired groups (R102). -/
structure Integ where
  queue    : List Rec
  lost     : Bool
  ceLast   : SMap Nat
  journals : List Journal
  replays  : List Replay
  holds    : SMap (Option (Nat × Nat × Nat))
  corners  : List Corner
  marginAt : SMap Nat
  retired  : BitVec 64
  flipDigest : BitVec 64
  derateOld : SMap Nat
  deriving DecidableEq, Repr

/-! ### Reset values -/

/-- No load in progress. -/
def Loader.idle : Loader := ⟨[], 0, 0, 0, false, []⟩
/-- A slice that runs nothing. -/
def SliceRt.reset : SliceRt :=
  ⟨none, 0, 0, [], 0, [], [], 0, none, [], [], [], [], none⟩
/-- A group that runs nothing. -/
def GroupRt.reset : GroupRt := ⟨0, 0, false, false, 0, 0, false, false, 0, 0, false, false, none, false, false, false, none, none, false, false⟩
/-- A step just released. -/
def StepRt.fresh (n : Nat) : StepRt := ⟨n, false, [], [], [], [], [], [], [], [], [], [], [], [], [], false, [], []⟩
/-- The cyclic table after reset. -/
def CycRt.reset : CycRt := ⟨false, false, false, none, false⟩
/-- The integrity block after reset. -/
def Integ.reset : Integ := ⟨[], false, [], [], [], [], [], [], 0, 0, []⟩

end Sys2Proof.Machine
end

