-- ==== Sys2Proof/Machine/StateMem.lean ====
section
/-! DEFINITION. The state of the memory tiers: the two tiers, failed channels, deferred refreshes, the page mover's
queue (R179 to R208). -/

namespace Sys2Proof.Machine

/-- A page-mover descriptor (R198): its eight words, whether the stream engine submitted it, its result once its lines are done (0 OK, 1 REFUSED, 2 DATA_ERR, 3 ABORTED), and whether its page is marked MOVING (R199). -/
structure PmDesc where
  words  : List Word
  stm    : Bool
  res    : Option Nat
  moving : Bool
  deriving DecidableEq, Repr

/-- The tiers by device address (R181), failed pseudo-channels of tier A (32 × stack + 2 × channel + pseudo-channel)
and channels of tier B (4 × controller + channel; R206), refreshes deferred by controller and bank (R192), the page
mover's queue, oldest first, the stream engine's descriptors that wait for room in it (R220), and the rows under post-package repair (R207). -/
structure MemSt where
  tierA   : Memory
  tierB   : Memory
  failA   : List Nat
  failB   : List Nat
  refresh : SMap Nat
  pm      : List PmDesc
  pmWait  : List PmDesc
  repaired : List Nat
  deriving DecidableEq, Repr

/-- The tiers after start-up: every word zero, nothing failed. -/
def MemSt.reset : MemSt := ⟨memEmpty, memEmpty, [], [], [], [], [], []⟩

end Sys2Proof.Machine
end

