-- ==== Sys2Proof/Machine/StateStream.lean ====
section
/-! DEFINITION. The state of the stream engine for one slice (R209 to R242): its profile, batch, free-page rings, output
queue, waiting commands, and the values fixed for each uncommitted step. -/

namespace Sys2Proof.Machine

/-- The values fixed for a batch slot at a step's release (R212): stream, word 0 of its entry, `LEN`, `AVAIL`, forced
nodes, tree indices of the present draft nodes and their number D at release, `BUDGET`, and the tokens of nodes (token + 1; 0 not posted). -/
structure SlotFix where
  slot   : Nat
  sid    : Nat
  word0  : Nat
  len    : Nat
  avail  : Nat
  forced : Nat
  draft  : List Nat
  drafts : Nat
  budget : Nat
  tokens : SMap Nat
  done   : Bool
  deriving DecidableEq, Repr

/-- What the engine keeps for an uncommitted step: the fixed values, the ring heads at release, the slice-relative offsets of
the page-table entries that it allocated (R218), and the results posted by 4,096 × operand + slot (R230). -/
structure StepFix where
  num     : Nat
  slots   : List SlotFix
  headA   : Nat
  headB   : Nat
  allocs  : List Nat
  results : SMap (List Word)
  deriving DecidableEq, Repr

/-- A stream command with what the engine read from host memory (R236). -/
structure StreamCmd where
  opc  : Nat
  sid  : Nat
  tag  : Word
  val  : Nat
  host : List Byte
  deriving DecidableEq, Repr

/-- The stream engine's state for a slice: the profile's bytes while enabled (R242), batch slots (stream + 1), indices
of the free rings, the output queue's producer index and cached consumer index, the consumer index of the command ring,
commands that wait (R237), and the uncommitted steps' values. -/
structure StreamRt where
  prof    : List Byte
  batch   : SMap Nat
  headA   : Nat
  tailA   : Nat
  headB   : Nat
  tailB   : Nat
  outProd : Nat
  outCons : Nat
  cmdProd : Nat
  cmdCons : Nat
  waiting : List StreamCmd
  fixes   : List StepFix
  deriving DecidableEq, Repr

/-- A slice's stream engine after reset. -/
def StreamRt.reset : StreamRt := ⟨[], [], 0, 0, 0, 0, 0, 0, 0, 0, [], []⟩

end Sys2Proof.Machine
end

