-- ==== Sys2Proof/Machine/StateDravsel.lean ====
section
/-! DEFINITION. The state of the Dravsel block beside its registers (R353 to R406): requests that await an answer,
duplicate windows, stores of requests that wait at this target, forwarding queues and redirect entries in force. -/

namespace Sys2Proof.Machine

/-- What a request was sent for: unit `idx` of the operation issued at `pos` that context `c` of tile `t` holds for a
slice, a deferred effect of a committed step, or a commit message. -/
inductive Origin where
  | unit (t c pos idx slice : Nat)
  | deferred (slice : Nat)
  | ctrl
  deriving DecidableEq, Repr

/-- A request that has no answer yet (R385, R391): the packet, the attempts made after the first, the port of the last
one, whether it is a void (R396), what it is for, whether it waits after NACK BUSY (R392), and whether its fourth attempt
has expired (R393). -/
structure Pend where
  pkt     : Packet
  attempt : Nat
  port    : Option Nat
  void    : Bool
  origin  : Origin
  busy    : Bool
  spent   : Bool
  deriving DecidableEq, Repr

/-- A duplicate window (R387): F, the sequence numbers applied, and those refused, kept for the numbers that F has
passed as long as a duplicate of them is replayed. -/
structure Win where
  f       : Nat
  applied : List Nat
  refused : List Nat
  deriving DecidableEq, Repr

/-- A redirect entry (R405). -/
structure Redir where
  oldDev  : Nat
  regBase : Nat
  count   : Nat
  newDev  : Nat
  newBase : Nat
  deriving DecidableEq, Repr

/-- A request past its check (R363, R364): the slice of its region, its step, and the region's kind, base, gate and awaited count as
the check found them. -/
structure Held where
  pkt    : Packet
  slice  : Nat
  step   : Nat
  kind   : Nat
  base   : Nat
  gate   : Bool
  arrive : Nat
  deriving DecidableEq, Repr

/-- A line of a deferred fabric operation that waits to be sent (R169): slice, the operation's logical tile and schedule
position, the key once its first packet is formed (R361), its record, unit and data. -/
structure DefLine where
  slice : Nat
  ofOp  : Nat × Nat
  key   : Option Nat
  desc  : MoverRec
  idx   : Nat
  data  : List CWord
  deriving DecidableEq, Repr

/-- A flit on a link (R354): its link sequence number and the packet that it carries, if it is not idle. -/
structure Flit where
  seq : Nat
  pkt : Option Packet
  deriving DecidableEq, Repr

/-- The sending side of a port's link (R354, R355): the next link sequence number, the replay buffer of the last 128 flits, newest
first, and the flow of REQ2 that was served last. -/
structure LinkRt where
  next   : Nat
  replay : List Flit
  flow   : Nat
  deriving DecidableEq, Repr

/-- A request that waits to be sent the first time (R385, R403): its packet and what it is for. -/
structure Waiting where
  pkt    : Packet
  origin : Origin
  deriving DecidableEq, Repr

/-- The Dravsel block beside its registers. `wins` has key 2 × source + 1 for flow 255 and 2 × source for the source's
data flow; `ctrlSeq` the counters of flow 255 by destination. -/
structure DrvRt where
  pend    : List Pend
  ctrlSeq : SMap Nat
  wins    : SMap Win
  loop    : List Packet
  hold    : List Held
  reorder : List Held
  gated   : List Held
  fwd     : List Packet
  redir   : List Redir
  defq    : List DefLine
  links   : SMap LinkRt
  waitq   : List Waiting
  deriving DecidableEq, Repr

/-- A window that has seen nothing. -/
def Win.fresh : Win := ⟨0, [], []⟩
/-- A link that has sent nothing. -/
def LinkRt.fresh : LinkRt := ⟨0, [], 255⟩
/-- The block after reset. -/
def DrvRt.reset : DrvRt := ⟨[], [], [], [], [], [], [], [], [], [], [], []⟩

end Sys2Proof.Machine
end

