-- ==== Sys2Proof/Machine/StateTime.lean ====
section
/-! DEFINITION. The state of the timing block beside its registers (R424 to R441). -/

namespace Sys2Proof.Machine

/-- A pulse output (R435): its next scheduled time in ns of T, if it has one, the elapsed time at which a pulse in
progress ends, and whether a one-shot was carried past its time (R437). -/
structure Pulse where
  next  : Option Nat
  endAt : Nat
  late  : Bool
  deriving DecidableEq, Repr

/-- An entry of a capture FIFO (R440): the edge's direction, bits 7:0 of `TIM_STEP_CNT`, and the 96-bit stamp. -/
structure CapEntry where
  rise  : Bool
  step  : Nat
  stamp : Nat
  deriving DecidableEq, Repr

/-- The timing block: the raw counter C, the offset O and the anchor A in units of 2^-32 ns, whether the time PLL has
locked, the pulse outputs, the capture FIFOs, oldest entry first, the sum of the steps accepted in this tick, which O takes at its end
(R428), and the elapsed time of the last edge recorded at each capture input (R439). -/
structure TimeRt where
  raw    : Nat
  off    : Nat
  anchor : Nat
  counts : Bool
  pulses : SMap Pulse
  caps   : SMap (List CapEntry)
  due    : Int
  edges  : SMap Nat
  deriving DecidableEq, Repr

/-- A pulse output that has nothing scheduled. -/
def Pulse.idle : Pulse := ⟨none, 0, false⟩
/-- The block after reset (R441). -/
def TimeRt.reset : TimeRt := ⟨0, 0, 0, false, [], [], 0, []⟩

end Sys2Proof.Machine
end

