-- ==== Sys2Proof/Machine/StateRadio.lean ====
section
/-! DEFINITION. The state of the radio array and its helpers (R243 to R304): clusters with their lanes, banks and
instruction memories, helper queues, fronthaul symbols, lane-program loads. -/

namespace Sys2Proof.Machine

/-! ### Lane bundles (R246 to R263) -/

/-- The C slot (R263). -/
inductive CtlOp where
  | nop
  | loop (one : Bool) (o : LaneLoopOp)
  | endl (lc : BitVec 2)
  | halt
  | wait (ev : BitVec 6)
  | post (ev : BitVec 6)
  | clrf
  deriving DecidableEq, Repr

/-- The L slot (R258). -/
inductive LsOp where
  | nop
  | ld (o : LaneMem)
  | st (o : LaneMem)
  | aadd (o : LaneMem)
  | aswp (o : LaneMem)
  | amod (o : LaneMem)
  | seti (m : Bool) (idx : BitVec 3) (imm : BitVec 16)
  | movr (vr : BitVec 6) (kind : BitVec 2) (idx : BitVec 3)
  | movv (vr : BitVec 6) (kind : BitVec 2) (idx : BitVec 3)
  deriving DecidableEq, Repr

/-- The operations of the A slot (R254). -/
inductive AluOp where
  | nop | add | sub | and | or | xor | shl | shra | shrl | movi | movh | max | min | maxi | mini | cadd | csub | shc
  | nrm | nrmc | exth | extc | extw | xch | mov | rdf
  deriving DecidableEq, Repr

/-- The operations of the M slot (R249). -/
inductive MulOp where
  | nop | mpy | mac | msu | cmpy | cmac | cmacj | aclr
  deriving DecidableEq, Repr

/-- A lane bundle. -/
structure LaneBundle where
  c    : CtlOp
  idle : Nat
  l    : LsOp
  aop  : AluOp
  a    : LaneAlu
  mop  : MulOp
  m    : LaneMul
  deriving DecidableEq, Repr

/-! ### Clusters -/

/-- A result on its way to a register (R246): the BCLK at whose end it is written, the slot it comes from (0 M, 1 A, 2 L;
R247), the lane, whether it is an accumulator or a data register (by physical number), and the value. -/
structure LanePend where
  due   : Nat
  slot  : Nat
  lane  : Nat
  isAcc : Bool
  reg   : Nat
  val   : Nat
  deriving DecidableEq, Repr

/-- An active loop (R264, R266): counter number, begin bundle, mode, rotation and completed iterations. -/
structure LaneLoop where
  lc    : Nat
  start : Nat
  wrap  : Bool
  rot   : Bool
  iter  : Nat
  deriving DecidableEq, Repr

/-- A cluster beside its registers (R243 to R267). Data registers have keys 64 × lane + physical register, accumulators
4 × lane + k; `acc` is what an A-slot instruction reads and `accM` what a following M-slot instruction reads (R248). The
lanes of a task run one sequence of bundles, so loop counters, rotation base and the region's size code are kept once. `loops` holds the
innermost loop first. `banks` holds each lane's rows, the spares as rows 1,024 to 1,031. `ahead` is a cluster woken ahead of a run
whose first marked window has not begun (R283). -/
structure ClusterRt where
  v      : SMap Word
  acc    : SMap (BitVec 40)
  accM   : SMap (BitVec 40)
  a      : SMap (BitVec 14)
  m      : SMap (BitVec 16)
  w      : SMap Word
  flags  : SMap Word
  lc     : SMap Nat
  loops  : List LaneLoop
  rrb    : BitVec 5
  region : Option (BitVec 2)
  pend   : List LanePend
  clk    : Nat
  idle   : Nat
  pc     : Nat
  branched : Bool
  halted : Bool
  mask   : BitVec 64
  queue  : List Nat
  posts  : List Nat
  banks  : SMap Memory
  imem   : Memory
  testBuf : Memory
  ahead  : Bool
  deriving DecidableEq, Repr

/-! ### Helpers and fronthaul -/

/-- A helper descriptor that has run and not completed (R286): its index, words, result, and, for an `FH_TX`, the radio
egress queue on which its message waits (R298). -/
structure HelperJob where
  idx    : Nat
  words  : List Word
  status : Nat
  r0     : Nat
  r1     : Nat
  msg    : Option Nat
  deriving DecidableEq, Repr

/-- A helper queue beside its registers (R285): free-running indices and the descriptors under way, oldest first. -/
structure HelperRt where
  prod : Nat
  cons : Nat
  jobs : List HelperJob
  done : Nat
  deriving DecidableEq, Repr

/-- A fronthaul symbol that is received (R295, R296): the map entry, the count g of R295, the resource blocks written, those of them
written within its window, and whether it has completed. -/
structure FhSym where
  entry : Nat
  g     : Nat
  got   : List Nat
  win   : List Nat
  done  : Bool
  deriving DecidableEq, Repr

/-- The radio pipeline beside its registers: helper queues, the queue that each class and level served last (R285),
symbols in reception or completed lately, the last ecpriSeqid received and the next to send by
eAxC ID (R293, R297), the next notify record (R302), when each neural stage was armed (R299), the outcome that a stage whose windows run has so far (R300), and a
lane-program load:
the bundles checked, with the first cluster, the number of clusters and the first bundle address it goes to (R304). -/
structure RadioRt where
  helpers : SMap HelperRt
  last    : SMap Nat
  syms    : List FhSym
  rxSeq   : SMap Nat
  txSeq   : SMap Nat
  notify  : Nat
  armedAt : SMap Nat
  stageRes : SMap Nat
  prog    : List (List Byte)
  progAt  : Nat × Nat × Nat
  deriving DecidableEq, Repr

/-! ### Reset values -/

/-- A cluster after reset. -/
def ClusterRt.reset : ClusterRt :=
  ⟨[], [], [], [], [], [], [], [], [], 0, none, [], 0, 0, 0, false, false, 0, [], [], [], memEmpty, memEmpty, false⟩
/-- A helper queue after reset. -/
def HelperRt.reset : HelperRt := ⟨0, 0, [], 0⟩
/-- The pipeline after reset. -/
def RadioRt.reset : RadioRt := ⟨[], [], [], [], [], 0, [], [], [], (0, 0, 0)⟩

end Sys2Proof.Machine
end

