-- ==== Sys2Proof/Machine/StateEth.lean ====
section
/-! DEFINITION. The state of the Ethernet ports and of the transmit and receive queues beside their registers (R407 to
R423). -/

namespace Sys2Proof.Machine

/-- A frame that a transmit queue has taken in (R414, R415): its descriptor, the place of the ring entry (space, slice and
address), how it ended if it has (`STATUS`, and the 96 bits of its time stamp), whether it is on the wire, and its bytes from
the destination address to those before the FCS. -/
structure TxFrame where
  desc  : List Word
  space : Nat
  slice : Nat
  addr  : Nat
  fin   : Option (Nat × Nat)
  air   : Bool
  data  : List Byte
  deriving DecidableEq, Repr

/-- A message built by `FH_TX` on a radio egress queue (R417): its launch time in units of 2^-32 ns, the helper queue and ring
index of its descriptor, and its bytes. -/
structure TxMsg where
  launch : Nat
  hq     : Fin 64
  idx    : Nat
  data   : List Byte
  deriving DecidableEq, Repr

/-- A transmit queue (R412, R413, R420, R421): the accepted producer index, the count of descriptors fetched, the frames
taken in and not written back, the messages built, the deficit in bytes, and the shaper's tokens in units of 1/1,024 byte. -/
structure TxqRt where
  prod    : Nat
  fetched : Nat
  frames  : List TxFrame
  msgs    : List TxMsg
  deficit : Nat
  tokens  : Int
  deriving DecidableEq, Repr

/-- A receive queue: the accepted producer index and the policer's tokens (R413, R423). -/
structure RxqRt where
  prod   : Nat
  tokens : Int
  deriving DecidableEq, Repr

/-- What is on a port's wire: a frame of a transmit queue, a built message of one, or a one-way delay response; with the
bytes and the transmit stamp. -/
inductive OnWire where
  | frame (q : Nat) (f : TxFrame)
  | msg (q : Nat) (m : TxMsg)
  | owd (data : List Byte)
  deriving DecidableEq, Repr

/-- A port: what is in transmission with its transmit stamp, the one-way delay responses that wait, and for each level the
circular list of queues with `cur` first, and whether `cur`'s turn has begun (R420). -/
structure EthPortRt where
  wire  : Option (OnWire × Nat)
  owd   : List (List Byte)
  lists : SMap (List Nat)
  begun : SMap Bool
  deriving DecidableEq, Repr

/-- The Ethernet blocks. -/
structure EthRt where
  txq  : SMap TxqRt
  rxq  : SMap RxqRt
  port : SMap EthPortRt
  deriving DecidableEq, Repr

/-- A transmit queue after reset. -/
def TxqRt.reset : TxqRt := ⟨0, 0, [], [], 0, 0⟩
/-- A receive queue after reset. -/
def RxqRt.reset : RxqRt := ⟨0, 0⟩
/-- A port after reset. -/
def EthPortRt.reset : EthPortRt := ⟨none, [], [], []⟩
/-- The Ethernet blocks after reset. -/
def EthRt.reset : EthRt := ⟨[], [], []⟩

end Sys2Proof.Machine
end

