-- ==== Sys2Proof/Machine/SaletWave.lean ====
section
/-! DEFINITION. What a Salet frame is on the wire: the known sequences of R479, and the mapping of a byte stream onto the subcarriers
(R478, R480, R481). A symbol lists subcarriers 20 to 235 in ascending order. -/

namespace Sys2Proof.Machine

/-! ### Types -/

/-- What one subcarrier carries: the levels of the I and Q axes (R480) and their mean energy over all levels of the loading, so that
the amplitude sent is the level over the root of `energy`. With `energy` 0 it carries nothing. -/
structure Carrier where
  i      : Int
  q      : Int
  energy : Nat
  deriving DecidableEq, Repr

/-- The parts of a frame (R479, R481): the signs of P1 on subcarriers 20, 24, …, 232, each symbol of which is sent 8 times; the signs
of P2 on all subcarriers in use, sent twice; the header symbol; the data symbols. `swapped` tells that the wires of the pair are
swapped (R500). -/
structure SalWave where
  swapped : Bool
  p1      : List Int
  p2      : List Int
  header  : List Carrier
  symbols : List (List Carrier)
  deriving DecidableEq, Repr

/-! ### The generator (R479) -/

/-- The bit that the generator gives in a state. -/
def prbsBit (s : Nat) : Bool := (s / 256 % 2 + s / 16 % 2) % 2 = 1
/-- The generator's next state. -/
def prbsNext (s : Nat) : Nat := (2 * s + if prbsBit s then 1 else 0) % 512
/-- `n` bits of the generator from a state. -/
def prbsRun : Nat → Nat → List Bool
  | 0, _ => []
  | n + 1, s => prbsBit s :: prbsRun n (prbsNext s)
/-- The state after `n` bits. -/
def prbsAfter : Nat → Nat → Nat
  | 0, s => s
  | n + 1, s => prbsAfter n (prbsNext s)

/-- Bit 0 gives +1. -/
def signOf (b : Bool) : Int := if b then -1 else 1
/-- P1: the first 54 bits. -/
def preambleP1 : List Int := (prbsRun 54 0x1FF).map signOf
/-- P2: the next 216 bits. -/
def preambleP2 : List Int := (prbsRun 216 (prbsAfter 54 0x1FF)).map signOf
/-- The bits of the eight probe symbols: those after the preamble's. -/
def probeBits : List Bool := prbsRun (8 * 432) (prbsAfter 270 0x1FF)

/-! ### Subcarriers (R480) -/

/-- The bits of bytes in order, each byte from bit 0 upward. -/
def streamBits (d : List Byte) : List Bool := d.flatMap (fun x => (List.range 8).map (fun i => x.getLsbD i))

/-- The index whose Gray code is these bits, the first the most significant: each bit of the index is the parity of the code's bits down
to it. -/
def grayIndex (bits : List Bool) : Nat :=
  (bits.foldl (fun (r : Nat × Bool) x => let p := r.2 != x; (2 * r.1 + (if p then 1 else 0), p)) (0, false)).1

/-- The level of an axis with these bits. -/
def axisLevel (bits : List Bool) : Int := 2 * (grayIndex bits : Int) - ((2 ^ bits.length : Int) - 1)
/-- The mean energy of an axis of `m` bits over its levels. -/
def axisEnergy (m : Nat) : Nat := (4 ^ m - 1) / 3

/-- A subcarrier loaded with these bits: the first half, rounded up, on the I axis. -/
def carrierOf (bits : List Bool) : Carrier :=
  let m := (bits.length + 1) / 2
  ⟨axisLevel (bits.take m), axisLevel (bits.drop m), axisEnergy m + axisEnergy (bits.length - m)⟩

/-- The first `b` bits of a stream; bits beyond its end are 0. -/
def takeBits (b : Nat) (bits : List Bool) : List Bool := (List.range b).map (fun i => nth false bits i)

/-- One symbol: the subcarriers in ascending order take their bits. -/
def symbolOf : List Nat → List Bool → List Carrier
  | [], _ => []
  | b :: t, bits => carrierOf (takeBits b bits) :: symbolOf t (bits.drop b)

/-- The loading of a table, or the fallback loading. -/
def loadingBits (t : Option (List Nat)) : List Nat := t.getD (List.replicate 216 2)
/-- Bits in one symbol. -/
def loadingSum (l : List Nat) : Nat := l.foldl (· + ·) 0

/-- A stream of bits on `n` symbols. -/
def symbolsOf (loading : List Nat) : Nat → List Bool → List (List Carrier)
  | 0, _ => []
  | n + 1, bits => symbolOf loading bits :: symbolsOf loading n (bits.drop (loadingSum loading))

/-- The header symbol: always at the fallback loading. -/
def headerSymbol (hdr : List Byte) : List Carrier := symbolOf (loadingBits none) (streamBits hdr)
/-- The data symbols of a byte stream under a loading: as many as its bits need (R481). -/
def dataSymbols (loading : List Nat) (d : List Byte) : List (List Carrier) :=
  symbolsOf loading (if d = [] then 0 else (8 * d.length + loadingSum loading - 1) / loadingSum loading) (streamBits d)
/-- The data symbols of a PROBE: 2 bits of the sequence on every subcarrier. -/
def probeSymbols : List (List Carrier) := symbolsOf (loadingBits none) 8 probeBits

/-- A frame on the wire. -/
def salWave (swapped : Bool) (hdr : List Byte) (symbols : List (List Carrier)) : SalWave :=
  ⟨swapped, preambleP1, preambleP2, headerSymbol hdr, symbols⟩

end Sys2Proof.Machine
end

