-- ==== Sys2Proof/Machine/StatePcie.lean ====
section
/-! DEFINITION. The state of the PCIe function and of the host cores' requests: the MSI-X table, the translation cache
and the requests that are held (R442 to R459). -/

namespace Sys2Proof.Machine

/-- An entry of the MSI-X table after reset: masked. -/
def msixReset : MsixEntry := ⟨0, 0, true⟩

/-- An entry of the translation cache (R454): the PASID, the range of 2^`log2` bytes from `base`, where it is
translated to, and what is permitted. -/
structure AtsEntry where
  pasid : Option Nat
  base  : Nat
  log2  : Nat
  dst   : Nat
  rd    : Bool
  wr    : Bool
  deriving DecidableEq, Repr

/-- A posted write that waits for a translation, with whether its Translation Request is on the way, or an MSI-X message behind it (R454, R455). -/
inductive HeldDma where
  | write (asked : Bool) (pasid : Option Nat) (addr : Nat) (data : List Byte)
  | msix (vec : Nat)
  deriving DecidableEq, Repr

/-- A core's read of host memory that has no completion: the hart, the PASID, the address, the length, whether it waits
for its translation, and what the host will answer. -/
structure HostRead where
  hart  : Fin 32
  pasid : Option Nat
  addr  : Nat
  len   : Nat
  held  : Bool
  ans   : HostAns
  deriving DecidableEq, Repr

/-- A request of the host or of a core to a tier that is not open yet (R202): who, the slice if any, the tier, the
offset, and the access. -/
structure HeldTier where
  who   : Requester
  slice : Option Nat
  tierB : Bool
  off   : Nat
  acc   : Access
  deriving DecidableEq, Repr

/-- An Invalidate Request whose completion is not sent: its tag and its range. -/
structure AtsInval where
  tag   : Nat
  pasid : Option Nat
  base  : Nat
  log2  : Nat
  deriving DecidableEq, Repr

/-- The PCIe function. -/
structure PcieRt where
  /-- The MSI-X table. -/
  table   : SMap MsixEntry
  /-- The MSI-X pending bits that are set (R459). -/
  pba     : List Nat
  /-- The translation cache, newest first: at most 8,192 entries. -/
  cache   : List AtsEntry
  held    : List HeldDma
  reads   : List HostRead
  invals  : List AtsInval
  tierQ   : List HeldTier
  /-- The completion timeout value of Device Control 2. -/
  timeout : BitVec 4
  /-- The physical address where the cores begin and that of their boot image, once an image has been accepted (R449). -/
  boot    : Option (Nat × Nat)
  deriving DecidableEq, Repr

/-- The function after reset. -/
def PcieRt.reset : PcieRt := ⟨[], [], [], [], [], [], [], 0, none⟩

end Sys2Proof.Machine
end

