-- ==== Sys2Proof/Machine/StateHollow.lean ====
section
/-! DEFINITION. The state of the hollow (R460 to R475), of the Salet modem (R476 to R502), and of the power sequencer
(R524 to R545), beside their registers. -/

namespace Sys2Proof.Machine

/-! ### The Salet modem -/

/-- A message that waits to be sent, or for its ACK (R489, R494): its destination, its message header and body, the attempt it is at, whether that attempt has been sent, the bus it is bound to, the
buses a broadcast has still to be sent on, and whether it is the manager's. -/
structure SalTx where
  dst   : Nat
  bcast : Bool
  mtype : Nat
  mseq  : Nat
  aseq  : Nat
  body  : List Byte
  att   : Nat
  sent  : Bool
  bus   : Option Bool
  left  : List Bool
  user  : Bool
  deriving DecidableEq, Repr

/-- A message in the receive queue (R495). -/
structure SalRx where
  src   : Nat
  busB  : Bool
  mtype : Nat
  body  : List Byte
  deriving DecidableEq, Repr

/-- A bit-loading table: its version and the loading of the 216 subcarriers (R490, R492). -/
structure SalTable where
  ver  : Nat
  bits : List Nat
  deriving DecidableEq, Repr

/-- What the modem keeps of a peer on one bus: whether it has been seen, for how many cycles in a row its ALIVE was off,
the table held for sending to it, and the tables sent to it, current first (R488, R490, R492). -/
structure SalPeer where
  seen : Bool
  miss : Nat
  tx   : Option SalTable
  rx   : List SalTable
  deriving DecidableEq, Repr

/-- A bus: the current cycle number, whether a beacon has ever been heard and when the last one was, whether this cycle's
beacon was heard or sent, the frequency estimate of that beacon (0 for this node's own), the level and frequency estimate of the frame
in reception, the last polarity reading, and the peers. -/
structure SalBus where
  cycle : Nat
  heard : Option Nat
  fresh : Bool
  shift : Nat
  rx    : Option (Nat × Nat)
  pol   : Option Bool
  peers : SMap SalPeer
  deriving DecidableEq, Repr

/-- A message accepted from a source: its number, and the response that was sent to it if it was a command that has been
run (R496). -/
structure SalSeen where
  mseq : Nat
  rsp  : Option (List Byte)
  deriving DecidableEq, Repr

/-- The modem: its buses, the history of each source, newest first, the next number towards each destination (64 for
broadcasts), what waits to be sent, the receive queue, the probes that are due (peer and bus), and when a message and a
probe were last sent to each peer. -/
structure SalRt where
  busA  : SalBus
  busB  : SalBus
  hist  : SMap (List SalSeen)
  seq   : SMap Nat
  txq   : List SalTx
  rxq   : List SalRx
  probes : List (Nat × Bool)
  lastTx : SMap Nat
  lastProbe : SMap Nat
  deriving DecidableEq, Repr

/-- A peer never seen. -/
def SalPeer.none : SalPeer := ⟨false, 0, Option.none, []⟩
/-- A bus on which nothing has been heard. -/
def SalBus.reset : SalBus := ⟨0, none, false, 0, none, none, []⟩
/-- The modem after its supply comes up. -/
def SalRt.reset : SalRt := ⟨SalBus.reset, SalBus.reset, [], [], [], [], [], [], []⟩

/-! ### The hollow -/

/-- A record of the event log (R474): its sequence number and time word, and the other words. -/
structure LogRec where
  seq  : Nat
  time : Nat
  body : Rec
  deriving DecidableEq, Repr

/-- A command of a mailbox (R473): the node and message number of a Salet command, and its words. -/
structure HolCmd where
  node  : Option (Nat × Nat)
  words : List Word
  deriving DecidableEq, Repr

/-- An optical module (R472): what was read of it at insertion and of its monitors, and the reads failed in a row. -/
structure OptModule where
  pages : List Byte
  mon   : List Byte
  fails : Nat
  deriving DecidableEq, Repr

/-- The hollow: the warden has started, is awake, has an event to see to; the configuration it read; the commands of both
mailboxes in order of arrival; the event log, oldest record first, the next sequence number, and the retained records; the
verification keys with their ENROLLED and REVOKED fuses, and the device key; the life-cycle record that a wipe's end logs;
the fuses of the absent groups, a bit for each (R3); and the modules present. -/
structure HolRt where
  started : Bool
  awake   : Bool
  wake    : Bool
  card    : CardConfig
  queue   : List HolCmd
  log     : List LogRec
  next    : Nat
  kept    : List LogRec
  keys    : SMap (List Byte)
  enrolled : Nat
  revoked : Nat
  devKey  : Option (BitVec 384)
  lcLog   : List Rec
  absent  : BitVec 64
  modules : SMap (Option OptModule)
  deriving DecidableEq, Repr

/-- An empty configuration, which stands until the warden has read the card's. -/
def CardConfig.blank : CardConfig := ⟨false, false, 0, false, false, false, 0, 0, 0, 0, 0, 0⟩
/-- The hollow in reset with blank fuses. -/
def HolRt.reset : HolRt := ⟨false, false, false, CardConfig.blank, [], [], 0, [], [], 0, 0, none, [], 0, []⟩

/-! ### Power -/

/-- The power sequencer (R530, R542) and the TAP (R6): how many rail groups are enabled, and the instruction in the TAP. -/
structure PowerRt where
  groups  : Nat
  tap     : TapInstr
  deriving DecidableEq, Repr

/-- The sequencer with every rail off, and the TAP after its reset. -/
def PowerRt.reset : PowerRt := ⟨0, .idcode⟩

end Sys2Proof.Machine
end

