-- ==== Sys2Proof/Machine/State.lean ====
section
/-! DEFINITION. The state of the part: every register, memory, queue, table and mode the manual gives it, as plain
data, the queue of commands that wait, and the reasons a command can end in. -/

namespace Sys2Proof.Machine

/-- How a request ended, as its requester sees it: done, Unsupported Request (R8, R14, R40), an error completion
(R35, R456), data poisoned (R453), or an access fault of a core (R443, R444). -/
inductive Cpl where
  | ok | ur | err | ep | fault
  deriving DecidableEq, Repr

/-- What the data register of the TAP holds when it is captured (R6): the one bypass bit, the IDCODE (R559), or the
boundary cells, which show the low-speed lands. -/
inductive TapData where
  | bypass (bit : Bool)
  | idcode (v : Word)
  | boundary (cells : BitVec 128)
  deriving DecidableEq, Repr

/-- The read-only identity of the PCIe function (R5, R451). -/
structure FnIdentity where
  vendor    : BitVec 16
  device    : BitVec 16
  revision  : BitVec 8
  cls       : BitVec 24
  subVendor : BitVec 16
  subId     : BitVec 16
  deriving DecidableEq, Repr

/-- What leaves the part. -/
inductive Out where
  /-- A request's completion and the data it returns. -/
  | cpl (who : Requester) (st : Cpl) (data : List Byte)
  /-- An MSI-X message: its vector, and the address and data of the vector's table entry (R459). -/
  | msix (vec : Nat) (addr : BitVec 64) (data : Word)
  /-- An identity written into a core's supervisor interrupt file (R459). -/
  | coreIrq (core vec : Nat)
  /-- A write to host memory under a PASID (R307), or under none. -/
  | dma (pasid : Option Nat) (addr : Nat) (data : List Byte)
  /-- The same, to a translated address (R454). -/
  | dmaTr (pasid : Option Nat) (addr : Nat) (data : List Byte)
  /-- A read request to host memory of `len` bytes; `tr` if its address is translated. -/
  | dmaRead (pasid : Option Nat) (addr len : Nat) (tr : Bool)
  /-- A Translation Request for the 4 KiB page at an address (R454). -/
  | atsRequest (pasid : Option Nat) (addr : Nat) (write : Bool)
  /-- An Invalidate Completion (R454). -/
  | atsDone (tag : Nat)
  /-- A core begins at a physical address with registers a0 and a1 (R449). -/
  | coreStart (core pc a0 a1 : Nat)
  /-- A core is held in reset (R449). -/
  | coreStop (core : Nat)
  /-- A Salet frame leaves on a bus: its header and payload with the FCS, and what the wires carry (R479 to R481); `busB` names the bus. -/
  | salet (busB : Bool) (frame : List Byte) (wave : SalWave)
  /-- A heartbeat symbol: the subcarriers that carry energy (R487), the frequency shift applied to it in units of 10 Hz (R486), and
  whether the pair's wires are swapped (R500). -/
  | heartbeat (busB : Bool) (on : List Nat) (shift : Int) (swapped : Bool)
  /-- The frequency of a clock in MHz: TCLK of a plain die, or CCLK for 4 (R534, R536). -/
  | clock (die mhz : Nat)
  /-- The voltage of a supply in mV: `VPD_d`, or `VCPX` for 4 (R534 to R536). -/
  | supply (die mv : Nat)
  /-- The enable of a rail group (R524, R530). -/
  | rail (group : Nat) (on : Bool)
  /-- A PMBus transaction: regulator, command code, and data written (R471). -/
  | pmbus (reg code : Nat) (data : List Byte)
  /-- A CMIS access: site, page, byte offset, length and data (R472). -/
  | cmis (site page off len : Nat) (data : List Byte)
  /-- A boundary-scan instruction takes effect on the low-speed lands, and the data register that it selects is captured (R6, R559). -/
  | scan (i : TapInstr) (dr : TapData)
  /-- The link is up: the function presents its identity in its configuration space (R5, R451). -/
  | function (id : FnIdentity)
  /-- A packet leaves a Dravsel port (R366). -/
  | fabric (port : Nat) (p : Packet)
  /-- An idle flit leaves a Dravsel port (R354). -/
  | idleFlit (port : Nat)
  /-- A flit leaves a Dravsel port again from its replay buffer, with its link sequence number (R354). -/
  | flitAgain (port seq : Nat)
  /-- A frame leaves an Ethernet port, from its destination address to the bytes before its FCS (R409). -/
  | eth (port : Nat) (frame : List Byte)
  deriving DecidableEq, Repr

/-- A shadow of the upper words of a register value, held for one requester (R9): the low word's key and the upper
bits. -/
structure Shadow where
  who   : Requester
  key   : Nat
  upper : Nat
  deriving DecidableEq, Repr

/-- The part. -/
structure State where
  /-- Commands that wait, first in first out. -/
  pending : List Instr
  /-- Registers by key; an unlisted register reads its reset value (R10). -/
  regs    : SMap Word
  /-- 48-bit event counters by the key of the low word (R15). -/
  ctrs    : SMap (BitVec 48)
  /-- Shadows of R9. -/
  shadows : List Shadow
  /-- Free values taken (DESIGN CHOICE, log entry 3): the model's own field. -/
  free    : Nat
  /-- What has left the part, newest first. -/
  out     : List Out
  /-- Time passed since power-up in units of 2^-32 ns, which the part's intervals are measured in: the model's own field
  (DESIGN CHOICE, log entry 20). The raw counter C of R424 is `time.raw`. -/
  raw     : Nat
  tiles   : SMap Tile
  loader  : Loader
  slices  : SMap SliceRt
  groups  : SMap GroupRt
  integ   : Integ
  cyc     : CycRt
  mem     : MemSt
  streams : SMap StreamRt
  drv     : DrvRt
  time    : TimeRt
  clusters : SMap ClusterRt
  radio   : RadioRt
  eth     : EthRt
  pcie    : PcieRt
  hol     : HolRt
  sal     : SalRt
  pwr     : PowerRt
  deriving DecidableEq, Repr

/-- The reasons the part itself stops: there is none. No command of the part stops it. -/
inductive Fault where
  /-- Raised by no meaning; the type is inhabited so that a fault can be named. Safe. -/
  | none
  deriving DecidableEq, Repr

/-- The reasons a command has no meaning. -/
inductive Refusal where
  /-- The command is not modelled: raised by the dispatch alone. Safe. -/
  | notModelled (mnemonic : String)
  deriving DecidableEq, Repr

/-- The part right after the always-on power-up (R538): every register at its reset value, every memory zero. -/
def State.reset : State where
  pending := []
  regs := []
  ctrs := []
  shadows := []
  free := 0
  out := []
  raw := 0
  tiles := []
  loader := Loader.idle
  slices := []
  groups := []
  integ := Integ.reset
  cyc := CycRt.reset
  mem := MemSt.reset
  streams := []
  drv := DrvRt.reset
  time := TimeRt.reset
  clusters := []
  radio := RadioRt.reset
  eth := EthRt.reset
  pcie := PcieRt.reset
  hol := HolRt.reset
  sal := SalRt.reset
  pwr := PowerRt.reset

/-- What a command answers. -/
abbrev Answer := Host.Outcome State Fault Refusal

end Sys2Proof.Machine
end

