-- ==== Sys2Proof/Machine/Ops.lean ====
section
/-! DEFINITION. The named operations over the part's registers, counters and interrupts that every meaning uses:
field access (R8 to R13), 48-bit counters (R15), sticky events and interrupt delivery (R457 to R459), detector
firings and their records (R506 to R510). -/

namespace Sys2Proof.Machine

/-! ### Registers -/

/-- A register's value; an unlisted one reads its reset value (R10). -/
def State.reg (s : State) (k : Nat) : Word := mapGet resetOf s.regs k
/-- A register given a value. -/
def State.setReg (s : State) (k : Nat) (v : Word) : State := { s with regs := mapSet resetOf s.regs k v }

/-- The field's value. -/
def State.get (s : State) (f : Fld) : Nat := bitField (s.reg f.key).toNat f.lo f.wd
/-- The field given a value, its register's other bits unchanged. -/
def State.put (s : State) (f : Fld) (v : Nat) : State :=
  s.setReg f.key (BitVec.ofNat 32 (bitPut (s.reg f.key).toNat f.lo f.wd v))
/-- Whether a one-bit field is 1. -/
def State.flag (s : State) (f : Fld) : Bool := decide (s.get f = 1)
/-- A one-bit field given a truth value. -/
def State.putB (s : State) (f : Fld) (b : Bool) : State := s.put f (if b then 1 else 0)

/-- A 64-bit value held in a low and a high register (R9). -/
def State.get64 (s : State) (lo hi : Fld) : Nat := s.get lo + 2 ^ 32 * s.get hi
/-- A 64-bit value stored in a low and a high register. -/
def State.put64 (s : State) (lo hi : Fld) (v : Nat) : State := (s.put lo (v % 2 ^ 32)).put hi (v / 2 ^ 32)

/-- Bit `i` of a pair of 32-bit registers. -/
def State.pairBit (s : State) (lo hi : Fld) (i : Nat) : Bool := decide (s.get64 lo hi / 2 ^ i % 2 = 1)
/-- Bit `i` of a pair of 32-bit registers given a value. -/
def State.putPairBit (s : State) (lo hi : Fld) (i : Nat) (b : Bool) : State :=
  s.put64 lo hi (bitPut (s.get64 lo hi) i 1 (if b then 1 else 0))

/-- `State.put` when a condition holds. -/
def State.putIf (s : State) (c : Bool) (f : Fld) (v : Nat) : State := if c then s.put f v else s

/-- The next free value (DESIGN CHOICE, log entry 3), and the state with it taken. -/
def State.takeFree (s : State) : BitVec 128 × State := (Config.freeBits s.free, { s with free := s.free + 1 })

/-- One more thing leaves the part. -/
def State.emit (s : State) (o : Out) : State := { s with out := o :: s.out }
/-- A request completes. -/
def State.complete (s : State) (who : Requester) (st : Cpl) (data : List Byte) : State := s.emit (.cpl who st data)

/-! ### Block status (R37) -/

/-- The key of a block's status register: the aperture number, or a tile's own (R104). -/
def blkStatus (ap : Nat) : Nat := ap * 0x100000 + 4
/-- The key of a tile's `TIL_BLOCK_STATUS`. -/
def tileStatus (t : Nat) : Nat := 0x10000004 + 4096 * t
/-- `RSVD_WR` of a status register. -/
def fRsvdWr (k : Nat) : Fld := ⟨k, 0, 1⟩
/-- `LOCK_WR` of a status register. -/
def fLockWr (k : Nat) : Fld := ⟨k, 1, 1⟩
/-- `CNT_SAT` of a status register. -/
def fCntSat (k : Nat) : Fld := ⟨k, 2, 1⟩
/-- `PWR_OFF_ACC` of a status register. -/
def fPwrOff (k : Nat) : Fld := ⟨k, 3, 1⟩

/-- The status register of the block that a register or counter key belongs to. -/
def statusOfKey (k : Nat) : Nat :=
  if 0x20000000 ≤ k then blkStatus 6
  else if 0x10000000 ≤ k then tileStatus ((k - 0x10000000) / 4096)
  else blkStatus (k / 0x100000)

/-- The block notes a write to a locked field (R13). -/
def State.lockWr (s : State) (ap : Nat) : State := s.put (fLockWr (blkStatus ap)) 1
/-- The block notes a reserved write (R12). -/
def State.rsvdWr (s : State) (ap : Nat) : State := s.put (fRsvdWr (blkStatus ap)) 1

/-! ### Counters (R15) -/

/-- A counter's value. -/
def State.ctr (s : State) (k : Nat) : BitVec 48 := mapGet (fun _ => 0) s.ctrs k
/-- A counter given a value. -/
def State.setCtr (s : State) (k : Nat) (v : BitVec 48) : State := { s with ctrs := mapSet (fun _ => 0) s.ctrs k v }

/-- A counter advanced by `n`: it stops at all-ones, and reaching all-ones sets its block's `CNT_SAT` (R15). -/
def State.count (s : State) (k n : Nat) : State :=
  let old := (s.ctr k).toNat
  let new := min (old + n) (2 ^ 48 - 1)
  let s1 := s.setCtr k (BitVec.ofNat 48 new)
  if old ≠ 2 ^ 48 - 1 ∧ new = 2 ^ 48 - 1 then s1.put (fCntSat (statusOfKey k)) 1 else s1

/-- A counter advanced by one. -/
def State.tally (s : State) (k : Nat) : State := s.count k 1

/-! ### Interrupts (R457 to R459) -/

/-- A message for a vector: sent, or left pending while the vector or function is masked or MSI-X is off (R459).
The switches stand in the function's configuration space, kept under keys of their own (DESIGN CHOICE, log entry 11). -/
def fMsixEn : Fld := ⟨0x30000000, 0, 1⟩
/-- The function mask of MSI-X. -/
def fMsixMask : Fld := ⟨0x30000000, 1, 1⟩
/-- Bus Master Enable. -/
def fBme : Fld := ⟨0x30000000, 2, 1⟩
/-- The power state is D3hot. -/
def fD3hot : Fld := ⟨0x30000000, 3, 1⟩
/-- ATS enabled. -/
def fAtsEn : Fld := ⟨0x30000000, 4, 1⟩
/-- The PCIe link is up. -/
def fLinkUp : Fld := PCI_LINK_STATUS_UP

/-- Whether DMA may leave the function (R456). A Function Level Reset clears Bus Master Enable. -/
def State.dmaOpen (s : State) : Bool := s.flag fBme && !s.flag fD3hot && s.flag fLinkUp

/-- The PCIe function changed. -/
def State.onPcie (s : State) (f : PcieRt → PcieRt) : State := { s with pcie := f s.pcie }

/-- A vector's entry of the MSI-X table. -/
def State.msixEntry (s : State) (vec : Nat) : MsixEntry := mapGet (fun _ => msixReset) s.pcie.table vec

/-- A vector's message leaves (R459). -/
def State.msixSend (s : State) (vec : Nat) : State := s.emit (.msix vec (s.msixEntry vec).addr (s.msixEntry vec).data)

/-- An MSI-X vector is signalled (R459): its message is sent behind the writes that wait (R455), or its pending bit is
set while it is masked or no request may leave. -/
def State.msix (s : State) (vec : Nat) : State :=
  if s.flag fMsixEn && !s.flag fMsixMask && !(s.msixEntry vec).masked && s.dmaOpen then
    (if s.pcie.held = [] then s.msixSend vec else s.onPcie (fun p => { p with held := p.held ++ [.msix vec] }))
  else if s.pcie.pba.contains vec then s else s.onPcie (fun p => { p with pba := vec :: p.pba })

/-- A raise of a source delivered by its route (R459), without what a lost raise brings. -/
def State.raiseOnce (s : State) (src : Nat) : State :=
  if src < 1088 ∧ s.flag (PCI_INT_ROUTE_EN src) then
    let vec := s.get (PCI_INT_ROUTE_VEC src)
    if s.flag (PCI_INT_ROUTE_DEST src) then
      let c := s.get (PCI_INT_ROUTE_CORE src)
      if s.flag (PCI_CORE_CFG_RUN c) then s.emit (.coreIrq c vec) else s.put PCI_EVENT_INT_LOST 1
    else s.msix vec
  else s

/-- A raise of a source (R459). A raise for a core in reset is dropped and sets `INT_LOST`, which raises source 9 if that
was not active (R458). -/
def State.raise (s : State) (src : Nat) : State :=
  let s1 := s.raiseOnce src
  if (s.reg 0x1000014).toNat % 16 = 0 ∧ s1.flag PCI_EVENT_INT_LOST then s1.raiseOnce 9 else s1

/-- Whether a source of the manager is active: a sticky bit that feeds it is 1 (R457, R458). -/
def State.srcActive (s : State) (src : Nat) : Bool :=
  let any (k m : Nat) : Bool := decide ((s.reg k).toNat % 2 ^ m ≠ 0)
  if src = 0 then s.flag PLN_LOAD_STATUS_EVT
  else if src = 1 then any 0x300014 7
  else if src = 2 then s.flag BBA_PROG_STATUS_DONE ||
    (List.range 128).any (fun c => decide (s.get ⟨0x20001004 + 16384 * c, 0, 6⟩ ≠ 0)
      || decide (s.get ⟨0x20001060 + 16384 * c, 16, 4⟩ ≠ 0))
  else if src = 3 then any 0x700010 4
  else if src = 4 then any 0x800010 4
  else if src = 5 then any 0xb00014 6 || any 0xb00214 5
  else if src = 6 then any 0xa00014 9
  else if src = 7 then (List.range 64).any (fun i => any (0xc01044 + 128 * i) 4)
  else if src = 8 then any 0xd00014 5 || any 0xe00014 6 || any 0xf00014 7
  else if src = 9 then any 0x1000014 4
  else if 64 ≤ src ∧ src < 1088 ∧ (src - 64) % 16 = 2 then any (0x40100c + 64 * ((src - 64) / 16)) 5
  else if 64 ≤ src ∧ src < 1088 ∧ (src - 64) % 16 = 3 then
    any (0x20100c + 64 * ((src - 64) / 16)) 6 || (decide (src = 67) && any 0x20002c 4)
  else false

/-- A sticky event bit set: its source raises if it was not active before (R458). -/
def State.event (s : State) (f : Fld) (src : Nat) : State :=
  let was := s.srcActive src
  let s1 := s.put f 1
  if was then s1 else s1.raise src

/-! ### Tiles, slices, groups -/

/-- A tile. -/
def State.tile (s : State) (t : Nat) : Tile := mapGet (fun _ => Tile.reset) s.tiles t
/-- A tile replaced. -/
def State.setTile (s : State) (t : Nat) (x : Tile) : State :=
  { s with tiles := mapSet (fun _ => Tile.reset) s.tiles t x }
/-- A tile changed. -/
def State.onTile (s : State) (t : Nat) (f : Tile → Tile) : State := s.setTile t (f (s.tile t))

/-- A slice's run-time state. -/
def State.slice (s : State) (i : Nat) : SliceRt := mapGet (fun _ => SliceRt.reset) s.slices i
/-- A slice's run-time state replaced. -/
def State.setSlice (s : State) (i : Nat) (x : SliceRt) : State :=
  { s with slices := mapSet (fun _ => SliceRt.reset) s.slices i x }
/-- A slice's run-time state changed. -/
def State.onSlice (s : State) (i : Nat) (f : SliceRt → SliceRt) : State := s.setSlice i (f (s.slice i))

/-- A group's run-time state. -/
def State.group (s : State) (g : Nat) : GroupRt := mapGet (fun _ => GroupRt.reset) s.groups g
/-- A group's run-time state changed. -/
def State.onGroup (s : State) (g : Nat) (f : GroupRt → GroupRt) : State :=
  { s with groups := mapSet (fun _ => GroupRt.reset) s.groups g (f (s.group g)) }

/-- The group of a tile (R18). -/
def groupOf (t : Nat) : Nat := 16 * (t / 256) + 4 * (t / 64 % 4) + t % 16 / 4
/-- The tile at position `p` of group `g` (R18, R114). -/
def tileAt (g p : Nat) : Nat := 256 * (g / 16) + 16 * (4 * (g % 16 / 4) + p / 4) + 4 * (g % 4) + p % 4
/-- The position of a tile in its group (R114). -/
def posOf (t : Nat) : Nat := 4 * (t / 16 % 4) + t % 4
/-- The 16 tiles of a group. -/
def groupTiles (g : Nat) : List Nat := (List.range 16).map (tileAt g)

/-- Whether a group is present (R3). -/
def State.present (s : State) (g : Nat) : Bool :=
  s.pairBit PLN_GROUP_PRESENT_LO_PRESENT PLN_GROUP_PRESENT_HI_PRESENT g
/-- Whether a group is marked radio-lendable (R105). -/
def State.marked (s : State) (g : Nat) : Bool := s.pairBit PLN_RADIO_GROUPS_LO_LEND PLN_RADIO_GROUPS_HI_LEND g
/-- Whether a group's domain is on (R33). -/
def State.groupOn (s : State) (g : Nat) : Bool := s.pairBit PWR_DOM_TG_LO_ON PWR_DOM_TG_HI_ON g
/-- Whether a slice's grant names a group (R308). -/
def State.granted (s : State) (sl g : Nat) : Bool := s.pairBit (SLC_GROUPS_LO_GROUPS sl) (SLC_GROUPS_HI_GROUPS sl) g
/-- Slice states (R305). -/
def slcFree : Nat := 0
/-- LIVE. -/
def slcLive : Nat := 1
/-- DESTROYING. -/
def slcDestroying : Nat := 2
/-- WAIT_EPOCH. -/
def slcWaitEpoch : Nat := 3
/-- Whether a slice is LIVE. -/
def State.live (s : State) (sl : Nat) : Bool := decide (s.get (SLC_STATE_STATE sl) = slcLive)
/-- Whether a slice is outside FREE. -/
def State.taken (s : State) (sl : Nat) : Bool := decide (s.get (SLC_STATE_STATE sl) ≠ slcFree)
/-- The slice outside FREE that holds a group, if any. -/
def State.holder (s : State) (g : Nat) : Option Nat :=
  (List.range 64).find? (fun sl => s.taken sl && s.granted sl g)
/-- Whether a group is quarantined (R518). -/
def State.quarantined (s : State) (g : Nat) : Bool := s.pairBit INT_QUAR_LO_QUAR INT_QUAR_HI_QUAR g
/-- Whether a group is retired (R102). -/
def State.retired (s : State) (g : Nat) : Bool := s.integ.retired.getLsbD g

/-- The milliseconds passed. -/
def State.ms (s : State) : Nat := s.raw / (2 ^ 32 * 1000000)

/-! ### Detectors (R506 to R510) -/

/-- The classes of R506. -/
inductive DetClass where
  | c | s | q | u | m | i
  deriving DecidableEq, Repr

/-- The class of an identifier; `none` for a reserved one (R507). -/
def detClass (d : Nat) : Option DetClass :=
  if [0, 10, 16, 40, 43, 48, 51, 64, 67, 69, 88, 90, 96, 112].contains d then some .c
  else if [1, 2, 3, 4, 5, 6, 7, 8, 9, 32, 33, 34, 41, 42, 49, 50, 65, 66, 74, 104].contains d then some .s
  else if [17, 20].contains d then some .q
  else if [44, 52, 68, 72, 73, 81, 89, 97, 98, 99, 113, 114, 115, 140].contains d then some .u
  else if (128 ≤ d ∧ d ≤ 139) then some .m
  else if [11, 21, 80, 91, 150, 151, 152, 153].contains d then some .i
  else none

/-- Whether a detector counts towards corner correlation (R507, †). -/
def detCorner (d : Nat) : Bool := [2, 3, 8, 20, 66, 104].contains d || decide (128 ≤ d ∧ d ≤ 137)

/-- A record put into the warden's queue of 256; one that finds it full is dropped and counted (R510). -/
def State.pushRec (s : State) (r : Rec) : State :=
  if s.integ.queue.length < 256 then { s with integ := { s.integ with queue := s.integ.queue ++ [r] } }
  else
    let s1 := { s with integ := { s.integ with lost := true } }
    (s1.tally INT_REC_LOST).event INT_EVENT_REC_LOST 8

/-- Whether a firing of a class-C detector forms a record now (R510): the first of its pair, or `CE_GAP_MS` after the
last. -/
def State.ceDue (s : State) (d inst : Nat) : Bool :=
  match mapFind (65536 * d + inst) s.integ.ceLast with
  | none => true
  | some t => decide (t + s.get INT_CFG_CE_GAP_MS ≤ s.ms)

/-- Word 4 of a record (R474, R509): a temperature, and the latest reading of the regulator that supplies a die (5 for the hollow). -/
def State.word4 (s : State) (die temp : Nat) : Nat := temp % 2 ^ 16 + 2 ^ 16 * s.get (PWR_RAIL_MV (Config.supplyOf die).val)

/-- Word 4 of a detector's record: the nearest sensor's reading is a plain die's or the hub's first (R509; DESIGN CHOICE, log entry 12). -/
def State.recTemp (s : State) (die : Nat) : Nat := s.word4 die (s.get (HOL_SENS_TEMP (if die < 4 then 4 * die else 16)))

/-- The clock step of a die; the hub die's clocks do not change in service (R31, R509). -/
def State.dieStep (s : State) (die : Nat) : Nat := if die < 4 then s.get (PWR_TCLK_STEP die) else 0

/-- The die of a detector's instance (R507): its tile's, its group's, its bridge's, its stack's or, of a monitor, its own; other instances
are on the hub die. -/
def detDie (d inst : Nat) : Nat :=
  if d ≤ 11 then inst / 256
  else if 16 ≤ d ∧ d ≤ 21 then inst / 16
  else if d = 33 then inst
  else if 40 ≤ d ∧ d ≤ 44 then inst / 2
  else if 128 ≤ d ∧ d ≤ 132 then d - 128
  else if 133 ≤ d ∧ d ≤ 137 then d - 133
  else 4

/-- A repair record for the warden (R102, R275, R474): kind 2 for a tile, 3 for a bank. -/
def State.pushRepair (s : State) (kind inst sl row : Nat) : State :=
  let die := if kind = 2 then inst / 256 else 4
  s.pushRec ⟨kind, 0, inst, s.recTemp die, s.dieStep die + 256 * sl, s.get (DSP_SLC_STEP_LO_STEP sl), row⟩

/-- A detector fires on an instance (R509): its counter advances, a record is formed by R510, and an S or Q firing sets
`DET` of `INT_EVENT`. The class's own effect on a step is `State.fireStep`. -/
def State.fire (s : State) (d inst die sl w7 : Nat) : State :=
  match detClass d with
  | none => s
  | some cls =>
    let s1 := s.tally (INT_DET_CNT d)
    let r : Rec := ⟨1, d, inst, s1.recTemp die,
      s1.dieStep die + 256 * sl,
      s1.get (DSP_SLC_STEP_LO_STEP sl), w7⟩
    let s2 :=
      if cls = .c then
        if s1.ceDue d inst then
          (State.pushRec { s1 with integ := { s1.integ with ceLast := mapInsert (65536 * d + inst) s1.ms (mapErase (65536 * d + inst) s1.integ.ceLast) } } r)
        else s1
      else s1.pushRec r
    if cls = .s ∨ cls = .q then s2.event INT_EVENT_DET 8 else s2

/-- Logical group `lg` of step `n` of a slice, on physical group `g`, becomes suspect (R163, R506). Slice 0 is exempt
(R173). -/
def State.suspectStep (s : State) (g sl lg n : Nat) : State :=
  if sl = 0 then s
  else if (s.slice sl).steps.any (fun r => decide (r.num = n)) then
    let s1 := s.put (DSP_GRP_STATE_SUSPECT g) 1
    s1.onSlice sl (fun x => { x with steps := x.steps.map (fun r =>
      if r.num = n ∧ ¬ r.suspect.contains lg then { r with suspect := r.suspect ++ [lg] } else r) })
  else s

/-- The logical group that a slice has on a group. -/
def State.lgroupOn (s : State) (sl g : Nat) : Option Nat :=
  ((s.slice sl).place.find? (fun p => decide (p.2 = g + 1))).map (fun p => p.1)

/-- A firing of class S strikes what group `g` runs: slice 0's stage gives DETECTED (R300), a replay is void (R515), a
tenant's step becomes suspect. -/
def State.suspect (s : State) (g : Nat) : State :=
  if s.get (DSP_GRP_STATE_STATE g) = 4 ∨ (s.group g).stage ≠ none then s.onGroup g (fun r => { r with det := true })
  else if (s.group g).replay then
    let rs := s.integ.replays.map (fun r => if r.target = g then { r with voided := true } else r)
    { s with integ := { s.integ with replays := rs } }
  else
    let sl := s.get (DSP_GRP_STATE_SLICE g)
    match s.lgroupOn sl g with
    | some lg => s.suspectStep g sl lg (s.group g).step
    | none => s

/-- The replay that runs on a group, if any (R513). -/
def State.replayOn (s : State) (g : Nat) : Option Replay :=
  s.integ.replays.find? (fun r => decide (r.target = g) && r.setup)

/-- The slice whose work a tile does: that of a replay on its group, or its owner. -/
def State.tileSlice (s : State) (t : Nat) : Nat :=
  match s.replayOn (groupOf t) with
  | some r => r.slice
  | none => s.get (TIL_STATE_OWNER t)

/-- A class-S detector of a tile fires: the record, and the step of the tile's group becomes suspect (R506). -/
def State.fireTile (s : State) (d t w7 : Nat) : State :=
  let g := groupOf t
  (s.fire d t (t / 256) (s.tileSlice t) w7).suspect g

/-- The 48-bit counters of the kinds 0 to `n` - 1 of the arithmetic events `ev` advanced by how often each occurred (R15, R65). -/
def countEvents (ev : Nat) : Nat → SMap (BitVec 48) → SMap (BitVec 48)
  | 0, m => m
  | n + 1, m =>
    let old := mapGet (fun _ => (0 : BitVec 48)) m n
    countEvents ev n (mapSet (fun _ => 0) m n (BitVec.ofNat 48 (min (old.toNat + evCount ev n) (2 ^ 48 - 1))))

/-- Arithmetic events counted for a slice (R65). A count that reaches all-ones sets `CNT_SAT` of the unit's block (R15), whose status register has
key `st`. -/
def State.countArith (s : State) (sl ev st : Nat) : State :=
  let full (x : SliceRt) (i : Nat) : Bool := decide (mapGet (fun _ => (0 : BitVec 48)) x.arith i = BitVec.allOnes 48)
  let s1 := s.onSlice sl (fun x => { x with arith := countEvents ev 5 x.arith })
  s1.putIf ((List.range 5).any (fun i => full (s1.slice sl) i && !full (s.slice sl) i)) (fCntSat st) 1

/-- A tile's arithmetic events set their sticky bits and are counted for the slice (R65). -/
def State.arith (s : State) (t ev : Nat) : State :=
  if ev = 0 then s
  else
    let k := (TIL_ARITH_STATUS_INT_WRAP t).key
    (s.setReg k (s.reg k ||| BitVec.ofNat 32 (evBits ev))).countArith (s.get (TIL_STATE_OWNER t)) ev (tileStatus t)

end Sys2Proof.Machine
end

