-- ==== Sys2Proof/Machine/Operands.lean ====
section
/-! DEFINITION. Operand forms of the tile: scratchpad rows and their repair (R88 to R90, R102), address generators
(R124, R125), records of the table store (R126, R127), and packed elements of a row (R47, R564). -/

namespace Sys2Proof.Machine

/-! ### Fields of records -/

/-- Bits of a 256-bit record: word `w`, bits `lo + wd - 1 : lo`. -/
def recField (r : BitVec 256) (w lo wd : Nat) : Nat := bitField r.toNat (32 * w + lo) wd
/-- A signed field of a record. -/
def recSigned (r : BitVec 256) (w lo wd : Nat) : Int := signed wd (recField r w lo wd)

/-- The store that the tile's running schedule uses. -/
def Tile.cur (x : Tile) : TileStore := if x.run.radio then x.rstore else x.store

/-- The AG record of generator `a` (R124). -/
def agRecord (st : TileStore) (a : Nat) : Option (BitVec 256) :=
  st.addr.find? (fun r => decide (recField r 0 0 4 = 0 ∧ recField r 0 4 3 = a))

/-- The format field of a generator: number, TERN, SCALED (R124). -/
def agFmt (r : BitVec 256) : Nat × Bool × Bool :=
  (recField r 1 12 5, decide (recField r 1 17 1 = 1), decide (recField r 1 18 1 = 1))

/-- The first row of a schedule's region (R125). -/
def regionStart (radio : Bool) : Int := if radio then 2048 else 0

/-- The scratchpad row that generator record `r` addresses with offset `row` (R125). -/
def agRow (x : Tile) (r : BitVec 256) (row : Nat) : Int :=
  regionStart x.run.radio + recField r 1 0 12 + row
    + recSigned r 2 0 13 * mapGet (fun _ => 0) x.run.liter 0
    + recSigned r 2 16 13 * mapGet (fun _ => 0) x.run.liter 1
    + recSigned r 3 0 13 * mapGet (fun _ => 0) x.run.liter 2
    + recSigned r 3 16 13 * mapGet (fun _ => 0) x.run.liter 3

/-- The MOVER record of a 256-bit record (R126). -/
def moverOf (r : BitVec 256) : MoverRec :=
  ⟨BitVec.ofNat 4 (recField r 0 4 4), BitVec.ofNat 8 (recField r 0 8 8), BitVec.ofNat 20 (recField r 1 0 20),
    BitVec.ofNat 32 (recField r 2 0 32), BitVec.ofNat 64 (recField r 4 0 32 + 2 ^ 32 * recField r 5 0 32),
    BitVec.ofNat 8 (recField r 6 0 8), BitVec.ofNat 8 (recField r 6 8 8)⟩

/-- The source lane of output lane `j` under permutation `id` (R127): lanes 0 to 31 from PERM_LO, 32 to 63 from
PERM_HI. -/
def permLane (st : TileStore) (id j : Nat) : Nat :=
  match st.addr.find? (fun r => decide (recField r 0 0 4 = (if j < 32 then 2 else 3) ∧ recField r 0 8 5 = id)) with
  | some r => bitField r.toNat (32 + 6 * (j % 32)) 6
  | none => j

/-! ### Scratchpad rows -/

/-- Whether a requester may reach a scratchpad row (R88): on a marked tile, tenants reach rows 0 to 2,047 and slice 0
rows 2,048 to 3,007; on other tiles every row. -/
def State.rowOk (s : State) (t : Nat) (radio : Bool) (row : Int) : Bool :=
  if s.marked (groupOf t) then
    if radio then decide (2048 ≤ row ∧ row < 3008) else decide (0 ≤ row ∧ row < 2048)
  else decide (0 ≤ row ∧ row < 3072)

/-- The physical row that serves a row: the lowest-numbered valid repair entry naming it, or the row itself
(R102, R106). -/
def State.physRow (s : State) (t row : Nat) : Nat :=
  match (List.range 16).find? (fun i => s.flag (TIL_REPAIR_MAP_VALID t i) && decide (s.get (TIL_REPAIR_MAP_ROW t i) = row)) with
  | some i => 3072 + i
  | none => row

/-- Sixteen clean words of zeros: what a refused read returns (R88). -/
def zeroRow : List CWord := List.replicate 16 ⟨List.replicate 16 0, false⟩

/-- An armed tile injection of one of the points fires: the arm bit clears (R107). -/
def State.tileInj (s : State) (t point : Nat) : Bool :=
  s.flag (TIL_INJECT_ARM t) && decide (s.get (TIL_INJECT_POINT t) = point)

/-- An armed scratchpad injection strikes the word about to be read: one stored bit for point 3, two for point 4
(R107; DEDUCED, log entry 13). A `BIT` beyond the word is taken modulo its 144 bits (DESIGN CHOICE, log entry 103). -/
def State.spadInject (s : State) (t w : Nat) : State :=
  let b := s.get (TIL_INJECT_BIT t) % 144
  if s.tileInj t 3 then
    (s.onTile t (fun x => { x with spad := x.spad.flipBit w b })).put (TIL_INJECT_ARM t) 0
  else if s.tileInj t 4 then
    (s.onTile t (fun x => { x with spad := (x.spad.flipBit w b).flipBit w ((b + 1) % 144) })).put (TIL_INJECT_ARM t) 0
  else s

/-- The next mesh flit of a tile: an armed injection of point 5 makes its check bits wrong, which fires `DET_004` (R92, R107). -/
def State.flitInject (s : State) (t : Nat) : Bool × State :=
  if s.tileInj t 5 then (true, (s.fireTile 4 t 0).put (TIL_INJECT_ARM t) 0) else (false, s)

/-- A chunk is queued for the background test once (R90, R101). -/
def queueChunk (q : List Nat) (c : Nat) : List Nat := if q.contains c then q else q ++ [c]

/-- How many of `n` code words from word `w` of physical row `p` read in error. -/
def Tile.badWords (x : Tile) (p w n : Nat) : Nat := ((x.spad.readWords (16 * p + w) n).filter (fun c => c.marked)).length

/-- What a read of `n` code words from word `w` of physical row `p` counts (R90): corrected errors, which fire `DET_000` and queue the row's
chunk, and uncorrectable ones. -/
def State.spadCount (s : State) (t p w n : Nat) : State :=
  let ce := (s.tile t).spad.corrected (16 * p + w) n
  let ue := (s.tile t).badWords p w n
  let s1 := if ce = 0 then s else
    ((s.count (TIL_SPAD_CE t) ce).fire 0 t (t / 256) (s.tileSlice t) (256 * p + 16 * w)).onTile t
      (fun x => { x with chunkQ := queueChunk x.chunkQ (p / 16) })
  if ue = 0 then s1 else s1.count (TIL_SPAD_UE t) ue

/-- The same for a read of a step, which an uncorrectable word makes suspect by `DET_001` (R90). -/
def State.spadNote (s : State) (t p w n : Nat) : State :=
  let s1 := s.spadCount t p w n
  if (s.tile t).badWords p w n = 0 then s1 else s1.fireTile 1 t (256 * p + 16 * w)

/-- `n` code words from word `w` of physical row `p` of the scratchpad, as read (R90): corrected in what is delivered; a word that stays in
error is delivered marked. -/
def State.spadWords (s0 : State) (t p w n : Nat) : List CWord × State :=
  let s := s0.spadInject t (16 * p + w)
  ((s.tile t).spad.readWords (16 * p + w) n, s.spadNote t p w n)

/-- A row read by the tile's own schedule; outside the requester's region it returns zeros, fires `DET_006` and makes
the step suspect (R88). -/
def State.readRow (s : State) (t : Nat) (row : Int) : List CWord × State :=
  if s.rowOk t (s.tile t).run.radio row then s.spadWords t (s.physRow t row.toNat) 0 16
  else (zeroRow, s.fireTile 6 t (256 * row).toNat)

/-- A row written by the tile's own schedule; outside the requester's region it is not performed (R88). -/
def State.writeRow (s : State) (t : Nat) (row : Int) (ws : List CWord) : State :=
  if s.rowOk t (s.tile t).run.radio row then
    s.onTile t (fun x => { x with spad := x.spad.writeWords (16 * s.physRow t row.toNat) (ws.take 16) })
  else s.fireTile 6 t (256 * row).toNat

/-! ### Vector registers -/

/-- What lane or mask `k` holds that nothing has written in this segment: zero after reset, a free value after a segment began
(R87; DESIGN CHOICE, log entry 99). -/
def Tile.unwritten (x : Tile) (k : Nat) : BitVec 64 := match x.vlost with
  | 0 => 0
  | n + 1 => Config.lostVector n k
/-- Lane `l` of vector register `r`. -/
def Tile.vreg (x : Tile) (r l : Nat) : Word := mapGet (fun k => (x.unwritten k).setWidth 32) x.vregs (64 * r + l)
/-- Lane `l` of vector register `r` given a value. -/
def Tile.setVreg (x : Tile) (r l : Nat) (v : Word) : Tile :=
  { x with vregs := if x.vlost = 0 then mapSet (fun _ => 0) x.vregs (64 * r + l) v else mapInsert (64 * r + l) v (mapErase (64 * r + l) x.vregs) }
/-- A mask register. -/
def Tile.mask (x : Tile) (m : Nat) : BitVec 64 := mapGet (fun k => x.unwritten (2048 + k)) x.masks m
/-- A mask register given a value. -/
def Tile.setMask (x : Tile) (m : Nat) (v : BitVec 64) : Tile :=
  { x with masks := if x.vlost = 0 then mapSet (fun _ => 0) x.masks m v else mapInsert m v (mapErase m x.masks) }
/-- The vector and mask registers lose what they held, and read as free value `n` from here on (R87). -/
def Tile.loseVectors (x : Tile) (n : Nat) : Tile := { x with vregs := [], masks := [], vlost := n + 1 }
/-- The lanes of a vector register. -/
def Tile.lanes (x : Tile) (r : Nat) : List Word := (List.range 64).map (x.vreg r)
/-- Several lanes written, `f l` where `on l`. -/
def Tile.writeLanes (x : Tile) (r : Nat) (on : Nat → Bool) (f : Nat → Word) : Tile :=
  (List.range 64).foldl (fun y l => if on l then y.setVreg r l (f l) else y) x
/-- A vector register as one little-endian number (packed data, R568). -/
def Tile.vbits (x : Tile) (r : Nat) : Nat := (x.lanes r).foldr (fun w a => w.toNat + 2 ^ 32 * a) 0
/-- A vector register written whole from a little-endian number. -/
def Tile.setVbits (x : Tile) (r v : Nat) : Tile :=
  x.writeLanes r (fun _ => true) (fun l => BitVec.ofNat 32 (v / 2 ^ (32 * l)))

/-! ### Step numbers (R156) -/

/-- Whether step `m` is step `n` or one after it, numbers wrapping modulo 2^64 (R156). -/
def stepFrom (n m : Nat) : Bool := decide ((m + 2 ^ 64 - n) % 2 ^ 64 < 2 ^ 63)
/-- The number of the step after step `n` (R156). -/
def stepNext (n : Nat) : Nat := (n + 1) % 2 ^ 64

end Sys2Proof.Machine
end

