-- ==== Sys2Proof/Machine/Flags.lean ====
section
/-! DEFINITION. The matrix engine and its checksum column: groups of 32 products (R54, R56), weight row sums (R80),
accumulation, and the check at a final drain with its status and detector (R81 to R83). -/

namespace Sys2Proof.Machine

/-- The width in bits of a matrix operand of a format. -/
def matWidth (f : Nat × Bool × Bool) : Nat := fmtWidth f.1

/-- The reduction length of a pass for a pair of operand widths (R75): 32 wide, 64 8-bit class, 128 narrow. -/
def passK (wa ww : Nat) : Nat := if 16 ≤ max wa ww then 32 else if 8 ≤ max wa ww then 64 else 128

/-- Whether a pair accumulates in INT32: two unscaled integer operands (R52, R53). -/
def intPair (fa fw : Nat × Bool × Bool) : Bool :=
  decide (9 ≤ fa.1 ∧ 9 ≤ fw.1) && !fa.2.2 && !fw.2.2

/-- The weight element code (k, n) of a weight register (R564). -/
def weightCode (w : WReg) (k n : Nat) : Nat :=
  let wd := fmtWidth (w.fmt.toNat % 32)
  let bit := (32 * k + n) * wd
  bitField (bytesToNat (mapRange (fun _ => (0 : Byte)) w.bytes (bit / 8) 3)) (bit % 8) wd

/-- The format field of a weight register. -/
def wregFmt (w : WReg) : Nat × Bool × Bool :=
  (w.fmt.toNat % 32, decide (w.fmt.toNat / 32 % 2 = 1), decide (w.fmt.toNat / 64 % 2 = 1))

/-- The weight register as a pass with activation format `fa` finds it: one cleared and not loaded since holds all-zero codes of that
format, in two's complement for a ternary one, so that every product is zero (R564). -/
def WReg.forPass (w : WReg) (fa : Nat × Bool × Bool) : WReg :=
  if w.fmt.toNat % 32 = 0 then { w with fmt := BitVec.ofNat 7 (fa.1 + if fa.2.2 then 64 else 0) } else w

/-- The scale code of weight (k, n): one for each 32 rows of a column (R78; DEDUCED, log entry 14). -/
def weightScale (w : WReg) (k n : Nat) : Nat := (mapGet (fun _ => (0 : Byte)) w.scales (32 * (k / 32) + n)).toNat

/-- An element's value with its block's scale applied. -/
def operandVal (f : Nat × Bool × Bool) (scale c : Nat) : FVal :=
  if f.2.2 then blockElem f.1 scale c else (decodeElem f.1 f.2.1 c).1

/-- A weight's value. -/
def weightVal (w : WReg) (k n : Nat) : FVal := operandVal (wregFmt w) (weightScale w k n) (weightCode w k n)

/-- A code of an unscaled integer operand as an integer. -/
def operandInt (f : Nat × Bool × Bool) (c : Nat) : Int :=
  if f.1 = 11 ∧ f.2.1 then (ternVal c).1 else signed (fmtWidth f.1) c

/-- The columns of the array. -/
def cols : List Nat := List.range 32

/-- The row sum c_k of the checksum column (R80), rounded once to FP32. -/
def sumC (w : WReg) (k : Nat) : Word := toFP32 (sumVals (cols.map (weightVal w k)))
/-- The magnitude sum d_k (R80). -/
def sumD (w : WReg) (k : Nat) : Word := toFP32 (sumVals (cols.map (fun n => absVal (weightVal w k n))))
/-- The row sum of integer weights (R80). -/
def sumCInt (w : WReg) (k : Nat) : Int := (cols.map (fun n => operandInt (wregFmt w) (weightCode w k n))).foldl (· + ·) 0

/-- The two's-complement reading of a word. -/
def wordInt (w : Word) : Int := w.toInt

/-- One product added into an INT32 accumulator: the wrapped sum, with `INT_WRAP` for each addition that wraps (R56). -/
def accInt32 (a : Int × Nat) (p : Int) : Int × Nat :=
  let z := a.1 + p
  if z < -(2 : Int) ^ 31 ∨ (2 : Int) ^ 31 ≤ z then (signed 32 (intCode 32 z), evAdd a.2 evIntWrap) else (z, a.2)

/-- The FP32 group sums of 32 products each, added in turn into an accumulator (R54). -/
def accGroups : List FVal → List (FVal × FVal) → Nat → Word → Word
  | _, _, 0, acc => acc
  | u, ps, n + 1, acc =>
    let sum := sumVals ((ps.take 32).map (fun p => mulVal p.1 p.2))
    accGroups u (ps.drop 32) n (fadd acc (toFP32 sum))

/-- An accumulator entry. -/
def TileCtx.accAt (c : TileCtx) (r n : Nat) : Word := mapGet (fun _ => 0) c.acc (32 * r + n)
/-- An accumulator entry replaced. -/
def TileCtx.setAcc (c : TileCtx) (r n : Nat) (v : Word) : TileCtx :=
  { c with acc := mapSet (fun _ => 0) c.acc (32 * r + n) v }
/-- Whether an accumulator row holds INT32 values. -/
def TileCtx.isInt (c : TileCtx) (r : Nat) : Bool := mapGet (fun _ => false) c.accInt r

/-- One activation row into accumulator row `r` (R54, R56, R80): `codes` are the row's K element codes and `scales`
its K / 32 scale codes. The result and the events of the accumulation. -/
def actRowInto (c : TileCtx) (fa : Nat × Bool × Bool) (codes : List Nat) (scales : Nat → Nat) (r : Nat) (clr : Bool) :
    TileCtx × Nat :=
  let w := c.wAct.forPass fa
  let fw := wregFmt w
  let kk := codes.length
  let ks := List.range kk
  let bad := (codes.foldl (fun e x => evAdd e (decodeElem fa.1 fa.2.1 x).2) 0)
  let badW := if fw.1 = 11 ∧ fw.2.1 then
      ks.foldl (fun e k => cols.foldl (fun e n => evAdd e (decodeElem 11 true (weightCode w k n)).2) e) 0 else 0
  let g := (if clr then 0 else mapGet (fun _ => 0) c.groups r) + kk / 32
  if intPair fa fw then
    let start (v : Word) : Int × Nat := (if clr then 0 else wordInt v, evNone)
    let step (c1 : TileCtx × Nat) (n : Nat) : TileCtx × Nat :=
      let res := ks.foldl (fun a k => accInt32 a (operandInt fa (nth 0 codes k) * operandInt fw (weightCode w k n)))
        (start (c1.1.accAt r n))
      (c1.1.setAcc r n (BitVec.ofInt 32 res.1), evAdd c1.2 res.2)
    let c2 := cols.foldl step (c, evAdd bad badW)
    let sS := ks.foldl (fun a k => a + operandInt fa (nth 0 codes k) * sumCInt w k)
      (if clr then 0 else wordInt (mapGet (fun _ => 0) c.chkS r))
    ({ c2.1 with
        accInt := mapSet (fun _ => false) c2.1.accInt r true
        chkS := mapSet (fun _ => 0) c2.1.chkS r (BitVec.ofInt 32 sS)
        chkM := if clr then mapSet (fun _ => 0) c2.1.chkM r 0 else c2.1.chkM
        groups := mapSet (fun _ => 0) c2.1.groups r g }, c2.2)
  else
    let av (k : Nat) : FVal := operandVal fa (scales (k / 32)) (nth 0 codes k)
    let start (v : Word) : Word := if clr then 0 else v
    let c2 := cols.foldl (fun (c1 : TileCtx) n =>
      c1.setAcc r n (accGroups [] (ks.map (fun k => (av k, weightVal w k n))) (kk / 32) (start (c1.accAt r n)))) c
    let sS := accGroups [] (ks.map (fun k => (av k, ofFP32 (sumC w k)))) (kk / 32) (start (mapGet (fun _ => 0) c.chkS r))
    let sM := accGroups [] (ks.map (fun k => (absVal (av k), ofFP32 (sumD w k)))) (kk / 32)
      (start (mapGet (fun _ => 0) c.chkM r))
    ({ c2 with
        accInt := mapSet (fun _ => false) c2.accInt r false
        chkS := mapSet (fun _ => 0) c2.chkS r sS
        chkM := mapSet (fun _ => 0) c2.chkM r sM
        groups := mapSet (fun _ => 0) c2.groups r g }, evAdd bad badW)

/-- Whether |D| ≤ τ for exact values (R81): τ = (g + 2)·2^−23·M + (g + 2)·2^−143. -/
def withinTau (d m : FVal) (g : Nat) : Bool :=
  match absVal d, m with
  | .fin _ dm de, .fin _ mm me =>
    let e0 := min de (min (me - 23) (-143))
    decide (alignTo e0 false dm de ≤
      alignTo e0 false ((g + 2) * mm) (me - 23) + alignTo e0 false (g + 2) (-143))
  | _, _ => false

/-- Whether a value is NaN or infinite. -/
def nonFinite (w : Word) : Bool := match ofFP32 w with | .fin _ _ _ => false | _ => true

/-- The outcome of one row's check (R81, R82). -/
inductive RowCheck where
  | pass | fail | range
  deriving DecidableEq, Repr

/-- The check of accumulator row `r` (R81, R82). -/
def checkRow (c : TileCtx) (r : Nat) : RowCheck :=
  let sv := mapGet (fun _ => (0 : Word)) c.chkS r
  let vals := cols.map (fun n => c.accAt r n)
  if c.isInt r then
    if (vals.foldl (fun a v => a + v) 0) = sv then .pass else .fail
  else
    let m := ofFP32 (mapGet (fun _ => 0) c.chkM r)
    let g := mapGet (fun _ => 0) c.groups r
    match m with
    | .inf _ => .range
    | _ =>
      if nonFinite sv || vals.any nonFinite then
        (if nonFinite sv && vals.any nonFinite then .pass else .fail)
      else
        let d := addVal (sumVals (vals.map ofFP32)) (negVal (ofFP32 sv))
        if withinTau d m g then .pass else .fail

/-- One bit of the checksum result of row 0 inverted (R107, point 1; DEDUCED, log entry 13), `BIT` taken modulo 32 (DESIGN CHOICE, log entry 103). -/
def flipCheck (b : Nat) (x : Tile) : Tile :=
  let old := mapGet (fun _ => (0 : Word)) x.cx.chkS 0
  let c := { x.cx with chkS := mapSet (fun _ => 0) x.cx.chkS 0 (old ^^^ BitVec.ofNat 32 (2 ^ b)) }
  { x with cx := c }

/-- The check of every row after a final drain (R81): a failing row fires `DET_002`, sets `MISMATCH` and names the row,
and the step becomes suspect (R83); a row not compared records `CHK_RANGE` (R82). -/
def State.checkTile (s : State) (t : Nat) : State :=
  let s0 := if s.tileInj t 1 then
      (s.onTile t (flipCheck (s.get (TIL_INJECT_BIT t) % 32))).put (TIL_INJECT_ARM t) 0
    else s
  let c := (s0.tile t).cx
  (List.range 64).foldl (fun st r =>
    match checkRow c r with
    | .pass => st
    | .range => st.arith t evChkRange
    | .fail => ((st.put (TIL_CHK_STATUS_MISMATCH t) 1).put (TIL_CHK_STATUS_ROW t) r).fireTile 2 t r) s0

end Sys2Proof.Machine
end

