-- ==== Sys2Proof/Machine/FabricOps.lean ====
section
/-! DEFINITION. Operations of the Dravsel transport: membership (R397 to R400), port choice (R366, R391), sending of
requests and answers (R384 to R386), retransmission (R391, R393) and void requests (R396). -/

namespace Sys2Proof.Machine

/-! ### Membership -/

/-- This part's device number (R359). -/
def State.self (s : State) : Nat := s.get DRV_SELF_DEV
/-- The state of a device in bank `b` of `DRV_MEMBER_`: 0 FENCED, 1 JOINING, 2 LIVE. -/
def State.memberIn (s : State) (b d : Nat) : Nat := bitField (s.get (DRV_MEMBER_STATE b (d / 16))) (2 * (d % 16)) 2
/-- The state of a device in the current epoch. -/
def State.member (s : State) (d : Nat) : Nat := s.memberIn (s.get DRV_EPOCH_BANK) d
/-- FENCED. -/
def memFenced : Nat := 0
/-- JOINING. -/
def memJoining : Nat := 1
/-- LIVE. -/
def memLive : Nat := 2
/-- Whether the part sends and takes requests (R400, R403). -/
def State.admitted (s : State) : Bool := s.flag DRV_EPOCH_VALID && s.flag DRV_EPOCH_ADMITTED

/-- The members of multicast group `g`, in rank order (R375, R378). -/
def State.mcast (s : State) (g : Nat) : List Nat :=
  (List.range (s.get (DRV_MCAST_CFG_COUNT g))).map (fun j => s.get (DRV_MCAST_MEM_DEV g j))

/-- The commit group of a slice: its list, or the own device alone (R372). -/
def State.commitGroup (s : State) (sl : Nat) : List Nat :=
  let g := s.get (DSP_SLC_CTRL_COMMIT_MGROUP sl)
  if g = 0 then [s.self] else s.mcast g

/-- The Dravsel interrupt's source. -/
def State.drvEvent (s : State) (f : Fld) : State := s.event f 5
/-- A packet is dropped as stale or unadmitted. -/
def State.stale (s : State) : State := (s.tally DRV_STALE).drvEvent DRV_XPORT_EVENT_STALE_DROP

/-! ### Flows and ports -/

/-- A request type. -/
def pktReq : Nat := 0
/-- ACK. -/
def pktAck : Nat := 1
/-- NACK. -/
def pktNack : Nat := 2
/-- RESP. -/
def pktResp : Nat := 3
/-- CTRL. -/
def pktCtrl : Nat := 4

/-- The flow of a request to a device (R365). -/
def flowOf (d : Nat) : Nat := d % 240
/-- The flow of commit messages. -/
def flowCtrl : Nat := 255

/-- The states of a port (R356): DISABLED. -/
def drpDisabled : Nat := 0
/-- DOWN. -/
def drpDown : Nat := 1
/-- TRAIN. -/
def drpTrain : Nat := 2
/-- UP. -/
def drpUp : Nat := 4
/-- FAULT. -/
def drpFault : Nat := 5

/-- Whether a port is UP. -/
def State.portUp (s : State) (p : Nat) : Bool := decide (s.get (DRV_PORT_STATUS_STATE p) = drpUp)

/-- The UP ports of a destination's route mask, counted upward (R366). -/
def State.upPorts (s : State) (d : Nat) : List Nat :=
  (List.range 12).filter (fun p => decide (s.get (DRV_ROUTE_PORTS d) / 2 ^ p % 2 = 1) && s.portUp p)

/-- The hash of R366. -/
def portHash (d addr : Nat) : Nat :=
  let k := Nat.xor (d * 2 ^ 45) (addr % 2 ^ 52 / 128)
  Nat.xor (Nat.xor k (k / 2 ^ 16)) (Nat.xor (k / 2 ^ 32) (k / 2 ^ 48)) % 2 ^ 16

/-- The address that the port choice uses: 0 for answers and commit messages. -/
def pktHashAddr (p : Packet) : Nat := if p.typ = pktReq then p.addr else 0

/-- The port of attempt `a` of a packet (R366, R391). -/
def State.choosePort (s : State) (p : Packet) (a : Nat) : Option Nat :=
  let up := s.upPorts p.dst
  if up = [] then none else up[(portHash p.dst (pktHashAddr p) + a) % up.length]?

/-! ### Packet headers (R368) -/

/-- The eight words of a packet's header, its reserved bits 0. -/
def headerOf (p : Packet) : List Nat :=
  [p.typ % 16 + 2 ^ 4 * (p.op % 16) + 2 ^ 8 * (p.fop % 256) + 2 ^ 16 * (p.flow % 256) + 2 ^ 24 * (p.hops % 16)
     + 2 ^ 28 * p.staged.toNat + 2 ^ 29 * p.tc0.toNat,
   p.seq % 2 ^ 32,
   p.src % 4096 + 2 ^ 12 * (p.dst % 4096) + 2 ^ 24 * (p.mask % 256),
   p.epoch % 65536,
   p.addr % 2 ^ 32,
   p.addr / 2 ^ 32 % 2 ^ 32,
   p.key % 2 ^ 32,
   p.step % 65536 + 2 ^ 16 * (p.mgroup % 256) + 2 ^ 24 * (p.code % 16)]

/-- The packet of a header's words and a body; reserved bits are ignored. -/
def packetOf (h : List Nat) (body : List (Byte × Bool)) : Packet :=
  let f (w lo n : Nat) : Nat := bitField (nth 0 h w) lo n
  ⟨f 0 0 4, f 0 4 4, f 0 8 8, f 0 16 8, f 0 24 4, f 0 28 1 = 1, f 0 29 1 = 1, f 1 0 32, f 2 0 12, f 2 12 12, f 2 24 8, f 3 0 16,
    f 4 0 32 + 2 ^ 32 * f 5 0 32, f 6 0 32, f 7 0 16, f 7 16 8, f 7 24 4, body⟩

/-- A packet as its header carries it. -/
def packetFit (p : Packet) : Packet := packetOf (headerOf p) p.body

/-! ### Virtual channels (R355) -/

/-- The channel of a packet: 0 RSP, 1 REQ0, 2 REQ2. -/
def vcOf (p : Packet) : Nat := if p.typ ≠ pktReq then 0 else if p.tc0 then 1 else 2

/-- The item whose flow comes first after `last`, the earliest such. -/
def nextFlow (flow : α → Nat) (last : Nat) : List α → Option α
  | [] => none
  | x :: t =>
    match nextFlow flow last t with
    | none => some x
    | some y => if (flow x + 255 - last) % 256 ≤ (flow y + 255 - last) % 256 then some x else some y

/-- Items served round-robin over their flows, each flow in order. -/
def roundRobin [DecidableEq α] (flow : α → Nat) : Nat → Nat → List α → List α
  | 0, _, _ => []
  | n + 1, last, l =>
    match nextFlow flow last l with
    | none => []
    | some x => x :: roundRobin flow n (flow x) (l.erase x)

/-- What waits at an egress in the order in which it is served: RSP, REQ0, then REQ2 round-robin over flows after `last`. -/
def egressOrder [DecidableEq α] (pkt : α → Packet) (last : Nat) (l : List α) : List α :=
  let ch (c : Nat) : List α := l.filter (fun x => decide (vcOf (pkt x) = c))
  ch 0 ++ ch 1 ++ roundRobin (fun x => (pkt x).flow) l.length last (ch 2)

/-! ### Sending -/

/-- Whether an armed injection of a point strikes a port (R382). -/
def State.drvInj (s : State) (point port : Nat) : Bool :=
  s.flag DRV_INJECT_ARM && decide (s.get DRV_INJECT_POINT = point ∧ s.get DRV_INJECT_PORT = port)

/-- The Dravsel block changed. -/
def State.onDrv (s : State) (f : DrvRt → DrvRt) : State := { s with drv := f s.drv }
/-- The sending side of a port's link. -/
def State.link (s : State) (port : Nat) : LinkRt := mapGet (fun _ => LinkRt.fresh) s.drv.links port
/-- A link changed. -/
def State.onPortLink (s : State) (port : Nat) (f : LinkRt → LinkRt) : State :=
  s.onDrv (fun r => { r with links := mapSet (fun _ => LinkRt.fresh) r.links port (f (mapGet (fun _ => LinkRt.fresh) r.links port)) })

/-- A link-level retry at a port (R354): counted, and the flit sent last goes again from the replay buffer. -/
def State.linkAgain (s : State) (port : Nat) : State :=
  let s1 := (s.tally (DRV_PORT_RETRY port)).fire 88 port 4 0 0
  match (s1.link port).replay with
  | [] => s1
  | f :: _ => s1.emit (.flitAgain port f.seq)

/-- A flit sent on a port: a packet's, or an idle one. It takes the next link sequence number and enters the replay buffer (R354). A CRC
error injected into it is a link retry (R382). -/
def State.sendFlit (s : State) (port : Nat) (p : Option Packet) : State :=
  let s1 := s.onPortLink port (fun l => { l with
    next := l.next + 1, replay := (⟨l.next, p⟩ :: l.replay).take 128
    flow := match p with | some q => if vcOf q = 2 then q.flow else l.flow | none => l.flow })
  let s2 := s1.emit (match p with | some q => .fabric port q | none => .idleFlit port)
  if s.drvInj 1 port then (s2.put DRV_INJECT_ARM 0).linkAgain port else s2

/-- A packet handed to a port. An injected drop of a request or an ACK loses it (R382). -/
def State.transmit (s : State) (port : Nat) (p : Packet) : State :=
  if p.typ = pktAck ∧ s.drvInj 4 port ∨ p.typ = pktReq ∧ s.drvInj 5 port then s.put DRV_INJECT_ARM 0
  else s.sendFlit port (some p)

/-- Packets that waited for a port, sent by its channels' order (R355). -/
def State.transmitAll (s : State) (port : Nat) (ps : List Packet) : State :=
  (egressOrder id (s.link port).flow ps).foldl (fun a p => a.transmit port p) s

/-- A packet sent by attempt `a`: looped back, on a port, or not at all while no port is UP; nothing goes to a fenced
device, and no request leaves a part that is not admitted (R359, R366, R391, R398, R403). -/
def State.sendPkt (s : State) (p : Packet) (a : Nat) : Option Nat × State :=
  if (p.typ = pktReq ∨ p.typ = pktCtrl) ∧ !s.admitted then (none, s)
  else if p.dst = s.self then (none, s.onDrv (fun r => { r with loop := r.loop ++ [p] }))
  else if s.flag DRV_EPOCH_VALID ∧ s.member p.dst = memFenced then (none, s)
  else
    match s.choosePort p a with
    | none => (none, s)
    | some q => (some q, s.transmit q p)

/-- The unanswered sequence numbers towards a device. -/
def State.pendTo (s : State) (d : Nat) : List Pend := s.drv.pend.filter (fun x => decide (x.pkt.dst = d))

/-- `UNANSWERED` of a device follows the block. -/
def State.refreshDest (s : State) (d : Nat) : State :=
  s.put (DRV_DEST_STATUS_UNANSWERED d) ((s.drv.pend.filter (fun x => decide (x.pkt.dst = d))).length)

/-- A new request: the next number of its flow, attempt 0 (R384, R391). Its packet is `p` but for the fields that the
source fills. -/
def State.sendReq (s : State) (p : Packet) (o : Origin) : State :=
  let ctrl := decide (p.typ = pktCtrl)
  let seq := if ctrl then mapGet (fun _ => 0) s.drv.ctrlSeq p.dst else s.get (DRV_DEST_SEQ_NEXT p.dst)
  let nxt := (seq + 1) % 2 ^ 32
  let s1 := if ctrl then s.onDrv (fun r => { r with ctrlSeq := mapSet (fun _ => 0) r.ctrlSeq p.dst nxt })
    else s.put (DRV_DEST_SEQ_NEXT p.dst) nxt
  let q : Packet := { p with
    flow := if ctrl then flowCtrl else flowOf p.dst, hops := 15, seq := seq, src := s.self, epoch := s.get DRV_EPOCH_EPOCH }
  let r := s1.sendPkt q 0
  (r.2.onDrv (fun x => { x with pend := x.pend ++ [⟨q, 0, r.1, false, o, false, false⟩] })).refreshDest p.dst

/-- Whether a request may be sent for the first time now (R385, R398, R403): the part is admitted, its destination is not fenced and has
fewer than 4,096 numbers unanswered, and no earlier request to the same line of it is unanswered or waits. -/
def State.mayGo (s : State) (p : Packet) : Bool :=
  let line (x : Packet) : Bool := decide (x.dst = p.dst ∧ x.typ = pktReq ∧ p.typ = pktReq ∧ x.addr / 128 = p.addr / 128)
  s.admitted && (decide (p.dst = s.self) || decide (s.member p.dst ≠ memFenced)) && decide ((s.pendTo p.dst).length < 4096)
    && !s.drv.pend.any (fun x => line x.pkt) && !s.drv.waitq.any (fun x => line x.pkt)

/-- A request sent, or made to wait until it may go. Nothing is formed for a device that an epoch has fenced (R398). -/
def State.sendOrWait (s : State) (p : Packet) (o : Origin) : State :=
  if s.mayGo p then s.sendReq p o
  else if s.flag DRV_EPOCH_VALID ∧ p.dst ≠ s.self ∧ s.member p.dst = memFenced then s
  else s.onDrv (fun r => { r with waitq := r.waitq ++ [⟨p, o⟩] })

/-- The requests that wait, in order: each goes if it may. -/
def State.drainWaiting (s : State) : State :=
  s.drv.waitq.foldl (fun a x => a.sendOrWait x.pkt x.origin) (s.onDrv (fun r => { r with waitq := [] }))

/-- An answer to a request (R386): its flow and number, this part's epoch. Answers to devices that an epoch has fenced
are not sent. -/
def State.answer (s : State) (req : Packet) (typ code : Nat) (body : List (Byte × Bool)) : State :=
  let q : Packet := ⟨typ, 0, 0, req.flow, 15, false, false, req.seq, s.self, req.src, 0, s.get DRV_EPOCH_EPOCH, 0, 0, 0, 0,
    code, body⟩
  (s.sendPkt q 0).2

/-- The request with a number towards a device. -/
def State.pendOf (s : State) (d flow seq : Nat) : Option Pend :=
  s.drv.pend.find? (fun x => decide (x.pkt.dst = d ∧ x.pkt.flow = flow ∧ x.pkt.seq = seq))

/-- Whether two records are of one request. -/
def Pend.same (x y : Pend) : Bool := decide (x.pkt.dst = y.pkt.dst ∧ x.pkt.flow = y.pkt.flow ∧ x.pkt.seq = y.pkt.seq)

/-- A request's record changed. -/
def State.setPend (s : State) (x : Pend) : State :=
  s.onDrv (fun r => { r with pend := r.pend.map (fun y => if y.same x then x else y) })

/-- A request sent once more by attempt `a` (R391, R392). -/
def State.resend (s : State) (x : Pend) (a : Nat) : State :=
  let q := { x.pkt with epoch := s.get DRV_EPOCH_EPOCH }
  let r := s.sendPkt q a
  let s1 := if a = x.attempt then r.2 else r.2.tally DRV_RETX
  s1.setPend { x with pkt := q, attempt := a, port := r.1, busy := false }

/-- The next attempt of a request. -/
def State.nextAttempt (s : State) (x : Pend) : State := s.resend x (x.attempt + 1)

/-- Every pending request to a device sent once more (R393). -/
def State.resendAll (s : State) (d : Nat) : State := (s.pendTo d).foldl (fun a x => a.nextAttempt x) s

/-- The devices marked SUSPECT that have a request pending. -/
def State.suspects (s : State) : List Nat :=
  ((s.drv.pend.map (fun x => x.pkt.dst)).eraseDups).filter (fun d => s.flag (DRV_DEST_STATUS_SUSPECT d))

/-- The set of UP ports has changed from that of `old`: requests to SUSPECT devices whose route it touches are sent once
more (R393). -/
def State.portsChanged (s old : State) : State :=
  s.suspects.foldl (fun a d => if old.upPorts d = s.upPorts d then a else a.resendAll d) s

/-! ### Voids (R396) -/

/-- The void of a request. -/
def voidOf (p : Packet) : Packet :=
  if p.typ = pktCtrl then p
  else { p with op := 0, fop := 0, mask := 0, staged := false, step := 0, mgroup := 0, body := [] }

/-- Whether the operation that a request was for has been torn down: the context no longer holds it. -/
def State.orphan (s : State) (o : Origin) : Bool :=
  match o with
  | .unit t c pos _ slice =>
    (match mapGet (fun _ => none) (s.tile t).ctxs c with
      | none => true
      | some o => decide (o.pos ≠ pos ∨ o.slice ≠ slice))
  | _ => false

/-- The requests of operations that have been torn down become void and are sent again so (R396); those never sent are dropped. -/
def State.voidOrphans (s0 : State) : State :=
  let s := s0.onDrv (fun r => { r with waitq := r.waitq.filter (fun x => !s0.orphan x.origin) })
  (s.drv.pend.filter (fun x => !x.void && s.orphan x.origin)).foldl (fun a x =>
    a.resend { x with pkt := voidOf x.pkt, void := true } (x.attempt + 1)) s

/-! ### Regions and step tags -/

/-- The LIVE slice that a region belongs to (R362). -/
def State.regionOwner (s : State) (r : Nat) : Option Nat :=
  (List.range 64).find? (fun sl => s.live sl && decide (s.get (SLC_DRV_BASE sl) ≤ r ∧ r < s.get (SLC_DRV_BASE sl) + s.get (SLC_DRV_COUNT sl)))

/-- The step of a slice that a tag names: from its oldest uncommitted step to three after it (R373). -/
def State.tagStep (s : State) (sl tag : Nat) : Option Nat :=
  let n0 := s.get64 (DSP_SLC_STEP_LO_STEP sl) (DSP_SLC_STEP_HI_STEP sl)
  ((List.range 4).map (fun i => n0 + i)).find? (fun n => decide (n % 2 ^ 16 = tag))

/-- `DEV` of a fabric address (R359). -/
def fabDev (a : Nat) : Nat := a / 2 ^ 52 % 4096
/-- `REGION` of a fabric address. -/
def fabRegion (a : Nat) : Nat := a / 2 ^ 40 % 4096
/-- `OFFSET` of a fabric address. -/
def fabOffset (a : Nat) : Nat := a % 2 ^ 40

/-- Contributions that wait for their turn in steps `n` and later of a slice are dropped with those steps (R375). -/
def State.dropReorder (s : State) (sl n : Nat) : State :=
  s.onDrv (fun r => { r with reorder := r.reorder.filter (fun h => decide (h.slice ≠ sl) || !stepFrom n h.step) })

end Sys2Proof.Machine
end

