-- ==== Sys2Proof/Machine/TierMem.lean ====
section
/-! DEFINITION. The memory tiers' devices: translation through the extent table (R181 to R183), the mapping to stacks, channels
and controllers (R186 to R188), reads with the 144/128 decode and its counters (R204 to R208), writes (R190), and the marking of
written pages (R325, R326). -/

namespace Sys2Proof.Machine

/-! ### Addresses -/

/-- The XOR fold of a line number over `n` fields of `w` bits (R186 to R188). -/
def foldBits (w : Nat) : Nat → Nat → Nat
  | 0, _ => 0
  | n + 1, v => Nat.xor (v % 2 ^ w) (foldBits w n (v / 2 ^ w))

/-- The device address of offset `x` in an extent-table entry (R183, R187): local, or spread over the four dies. -/
def mapExtent (ext : Nat) (spread : Bool) (x : Nat) : Nat :=
  if spread then
    let n := x / 256
    let d := Nat.xor (Nat.xor (n % 4) (n / 64 % 4)) (Nat.xor (n / 4096 % 4) (n / 262144 % 4))
    let m := ext / 512 % 4 * 2 ^ 18 + n / 4
    (288 * d + ext % 512) * 2 ^ 28 + m * 256 + x % 256
  else ext * 2 ^ 28 + x

/-- The windows of a slice (R182). -/
inductive Window where
  | a | b | img | stage | save
  deriving DecidableEq, Repr

/-- The base of a slice's window. -/
def State.winBase (s : State) (sl : Nat) : Window → Nat
  | .a => s.get (MEM_SLC_A_BASE sl)
  | .b => s.get (MEM_SLC_B_BASE sl)
  | .img => s.get (MEM_SLC_IMG_BASE sl)
  | .stage => s.get (MEM_SLC_STAGE_BASE sl)
  | .save => s.get (MEM_SLC_SAVE_BASE sl)

/-- The count of a slice's window. -/
def State.winCount (s : State) (sl : Nat) : Window → Nat
  | .a => s.get (MEM_SLC_A_COUNT sl)
  | .b => s.get (MEM_SLC_B_COUNT sl)
  | .img => s.get (MEM_SLC_IMG_COUNT sl)
  | .stage => s.get (MEM_SLC_STAGE_COUNT sl)
  | .save => s.get (MEM_SLC_SAVE_COUNT sl)

/-- Whether a window is in tier B. -/
def Window.isB : Window → Bool
  | .b => true
  | _ => false

/-- The window that slice-relative offsets of a tier name. -/
def tierWin (tierB : Bool) : Window := if tierB then .b else .a

/-- Translation of a slice-relative offset (R183); `none` is a refusal. -/
def State.translate (s : State) (sl : Nat) (w : Window) (off : Nat) : Option Nat :=
  let i := off / 2 ^ 28
  let e := s.winBase sl w + i
  if i < s.winCount sl w ∧ s.flag (MEM_XT_VALID e) ∧ s.flag (MEM_XT_TIER_B e) = w.isB then
    some (mapExtent (s.get (MEM_XT_EXT e)) (s.flag (MEM_XT_SPREAD e)) (off % 2 ^ 28))
  else none

/-- The home die of a tier-A address (R186). -/
def homeDie (da : Nat) : Nat := da / 2 ^ 28 / 288
/-- The line of a tier-A address within its die (R186). -/
def dieLine (da : Nat) : Nat := (da / 2 ^ 28 % 288 * 2 ^ 28 + da % 2 ^ 28) / 256
/-- The hash h of R186. -/
def hashA (da : Nat) : Nat := foldBits 6 4 (dieLine da)
/-- The stack of a tier-A address (R186). -/
def stackOf (da : Nat) : Nat := 2 * homeDie da + hashA da / 32 % 2
/-- The channel of a tier-A address. -/
def channelOf (da : Nat) : Nat := hashA da % 16
/-- The pseudo-channel of a tier-A address. -/
def pseudoOf (da : Nat) : Nat := hashA da / 16 % 2
/-- The controller of a tier-B address (R188). -/
def mcbOf (db : Nat) : Nat := foldBits 4 4 (db / 256)

/-- Whether an address lies in the tier (R181). -/
def inTier (tierB : Bool) (a : Nat) : Bool := if tierB then decide (a < 0xC000000000) else decide (a < 0x4800000000)

/-- Whether an address maps to a failed pseudo-channel or channel (R206). -/
def State.chanFailed (s : State) (tierB : Bool) (a : Nat) : Bool :=
  if tierB then s.mem.failB.contains (4 * mcbOf a + a % 256 / 64)
  else s.mem.failA.contains (32 * stackOf a + 2 * channelOf a + pseudoOf a)

/-- The memory of a tier. -/
def State.tier (s : State) (tierB : Bool) : Memory := if tierB then s.mem.tierB else s.mem.tierA
/-- The memory of a tier replaced. -/
def State.setTier (s : State) (tierB : Bool) (m : Memory) : State :=
  if tierB then { s with mem := { s.mem with tierB := m } } else { s with mem := { s.mem with tierA := m } }

/-- Whether a tier is open (R202). -/
def State.tierOpen (s : State) (tierB : Bool) : Bool := if tierB then s.flag MEM_INIT_B_DONE else s.flag MEM_INIT_A_DONE

/-- Whether both tiers are open. -/
def State.tiersOpen (s : State) : Bool := s.tierOpen false && s.tierOpen true

/-! ### Device reads and writes -/

/-- The instance number of the stack or controller that serves an address, as `MEM_INJECT` counts them (R208). -/
def memInst (tierB : Bool) (a : Nat) : Nat := if tierB then 8 + mcbOf a else stackOf a

/-- An armed injection of command parity fires on the next command of its stack or controller, which is reissued (R204,
R208). -/
def State.parityInject (s : State) (tierB : Bool) (a : Nat) : State :=
  if s.flag MEM_INJECT_ARM ∧ s.get MEM_INJECT_POINT = 4 ∧ s.get MEM_INJECT_INST = memInst tierB a then
    (s.put MEM_INJECT_ARM 0).fire (if tierB then 51 else 43) (memInst tierB a - (if tierB then 8 else 0))
      (if tierB then 4 else homeDie a) 0 (16 * (a / 16) % 2 ^ 32)
  else s

/-- An armed tier injection strikes the first code word of a read (R208). -/
def State.memInject (s0 : State) (tierB : Bool) (a : Nat) : State :=
  let s := s0.parityInject tierB a
  if s.flag MEM_INJECT_ARM ∧ s.get MEM_INJECT_INST = memInst tierB a ∧ 1 ≤ s.get MEM_INJECT_POINT ∧ s.get MEM_INJECT_POINT ≤ 3 then
    let w := a / 16
    let p := s.get MEM_INJECT_POINT
    let m := s.tier tierB
    let s1 := s.put MEM_INJECT_ARM 0
    if p = 1 then s1.setTier tierB (m.flipBit w 0)
    else if p = 2 then s1.setTier tierB ((m.flipBit w 0).flipBit w 1)
    else s1.setTier tierB ((((m.flipBit w 0).flipBit w 1).flipBit w 2).flipBit w 3)
  else s

/-- What the decode of one code word does (R204): a corrected word is written back, an uncorrectable one poisoned and
its address recorded, a poisoned one counted. -/
def State.decodeWord (s : State) (tierB : Bool) (w sl : Nat) : State :=
  let m := s.tier tierB
  let a := 16 * w
  let inst := if tierB then mcbOf a else stackOf a
  let die := if tierB then 4 else homeDie a
  match classify (m.synAt w) with
  | .clean => s
  | .correctable _ =>
    let s1 := s.tally (if tierB then MEM_MCB_CE inst else MEM_HBM_CE inst)
    (s1.setTier tierB (m.writeWord w (m.readWord w))).fire (if tierB then 48 else 40) inst die sl (a % 2 ^ 32)
  | .uncorrectable =>
    let s1 := s.tally (if tierB then MEM_MCB_UE inst else MEM_HBM_UE inst)
    let s2 := s1.setTier tierB (m.setSyn w 0xFFFF)
    let s3 := if s2.flag MEM_ERR_ADDR_HI_VALID then s2 else
      ((((s2.put MEM_ERR_ADDR_LO_ADDR a).put MEM_ERR_ADDR_HI_ADDR (a / 2 ^ 32)).putB MEM_ERR_ADDR_HI_TIER_B tierB).put
        MEM_ERR_ADDR_HI_SLICE sl).put MEM_ERR_ADDR_HI_VALID 1
    (s3.event MEM_EVENT_POISON 1).fire (if tierB then 49 else 41) inst die sl (a % 2 ^ 32)
  | .poisoned =>
    (s.tally (if tierB then MEM_MCB_POISON inst else MEM_HBM_POISON inst)).fire (if tierB then 50 else 42) inst die sl (a % 2 ^ 32)

/-- Whether a range reaches a failed pseudo-channel or channel; no channel serves less than 64 bytes in a row (R186 to R188, R206). -/
def State.rangeFailed (s : State) (tierB : Bool) (a n : Nat) : Bool :=
  decide ((if tierB then s.mem.failB else s.mem.failA) ≠ [])
    && (List.range ((a + n + 63) / 64 - a / 64)).any (fun i => s.chanFailed tierB (64 * (a / 64 + i)))

/-- A read of `n` bytes at a device address for slice `sl`: the bytes with their marks, or `none` for an error
completion (outside the tier or a failed channel, R206). -/
def State.devRead (s0 : State) (tierB : Bool) (a n sl : Nat) : Option (List MByte) × State :=
  if !inTier tierB (a + n - 1) || s0.rangeFailed tierB a n then (none, s0)
  else
    let s := s0.memInject tierB a
    let data := (s.tier tierB).readM a n
    let w0 := a / 16
    let s1 := (List.range ((a + n + 15) / 16 - w0)).foldl (fun st i => st.decodeWord tierB (w0 + i) sl) s
    (some data, s1)

/-- The code words that a write covers in part: at most its first and its last. -/
def mergedWords (a n : Nat) : List Nat :=
  let lo := if n = 0 ∨ (a % 16 = 0 ∧ 16 ≤ n) then [] else [a / 16]
  let e := (a + n) / 16
  if (a + n) % 16 = 0 ∨ lo = [e] ∨ n = 0 then lo else lo ++ [e]

/-- A write at a device address within the tier to channels in order: the controller reads each word that is covered in part,
with its decode, and merges (R190, R204, R208); `true` is an error completion. -/
def State.devStore (s0 : State) (tierB : Bool) (sl a : Nat) (data : List MByte) : Bool × State :=
  let s := (mergedWords a data.length).foldl (fun (x : State) w => (x.memInject tierB (16 * w)).decodeWord tierB w sl)
    (s0.parityInject tierB a)
  let r := (s.tier tierB).writeM a data
  (r.2, s.setTier tierB r.1)

/-- A range of addresses cut at 64 bytes: addresses and lengths. -/
def unitsOf (a n : Nat) : List (Nat × Nat) :=
  (List.range ((a + n + 63) / 64 - a / 64)).map (fun i =>
    let lo := max a (64 * (a / 64 + i))
    (lo, min (a + n) (64 * (a / 64 + i) + 64) - lo))

/-- A write at a device address: whole words stored, part words merged (R190); `true` is an error completion. A part of it in a
failed pseudo-channel or channel is not performed (R206). -/
def State.devWrite (s : State) (tierB : Bool) (a : Nat) (data : List MByte) (sl : Nat := 0) : Bool × State :=
  if !inTier tierB (a + data.length - 1) then (true, s)
  else if s.rangeFailed tierB a data.length then
    (true, (unitsOf a data.length).foldl (fun (x : State) p =>
      if x.chanFailed tierB p.1 then x else (x.devStore tierB sl p.1 ((data.drop (p.1 - a)).take p.2)).2) s)
  else s.devStore tierB sl a data

/-! ### Marking of written pages (R325, R326) -/

/-- The first byte of buffer `b` of log slot `k` (R325). -/
def logBuffer (k b : Nat) : Nat := (287 + 288 * k) * 2 ^ 28 + 2 ^ 25 + b * 96 * 2 ^ 20

/-- Bit `i` of the bitmap at device address `base` set: a write of one byte, which the controller merges. -/
def State.setLogBit (s : State) (base i : Nat) : State :=
  let a := base + i / 8
  let old := nth 0 (bytesM (s.mem.tierA.readM a 1)) 0
  (s.devWrite false a (cleanM [old ||| BitVec.ofNat 8 (2 ^ (i % 8))])).2

/-- The slots that log slice `sl`. -/
def State.logSlots (s : State) (sl : Nat) : List Nat :=
  (List.range 4).filter (fun k => s.flag (SLC_LOG_CTRL_EN k) && decide (s.get (SLC_LOG_CTRL_SLICE k) = sl))

/-- The active buffer of a log slot. -/
def State.logActive (s : State) (k : Nat) : Nat := logBuffer k (s.get (SLC_LOG_CTRL_ACTIVE k))

/-- A write that reaches `n` bytes from a slice-relative offset marks its 4 KiB pages (R326). -/
def State.logTier (s : State) (sl : Nat) (tierB : Bool) (off n : Nat) : State :=
  (s.logSlots sl).foldl (fun st k =>
    (List.range ((off + n - 1) / 4096 - off / 4096 + 1)).foldl (fun st2 j =>
      let p := off / 4096 + j
      let e := p / 65536 + (if tierB then 4096 else 0)
      st2.setLogBit (st2.logActive k + 2 ^ 25 + 8192 * e) (p % 65536)) st) s

/-- A write to host memory under a slice's PASID marks its pages, or sets `OVF` outside the log's range (R326). -/
def State.logHost (s : State) (sl addr n : Nat) : State :=
  (s.logSlots sl).foldl (fun st k =>
    let base := st.get (SLC_LOG_HBASE_HBASE k) * 2 ^ 40
    (List.range ((addr + n - 1) / 4096 - addr / 4096 + 1)).foldl (fun st2 j =>
      let p := (addr / 4096 + j) * 4096
      if base ≤ p ∧ p < base + 2 ^ 40 then st2.setLogBit (st2.logActive k) ((p - base) / 4096)
      else st2.put (SLC_LOG_CTRL_OVF k) 1) st) s

/-- The offset in an extent-table entry that a device address backs, if it does: the converse of `mapExtent`. -/
def unmapExtent (ext : Nat) (spread : Bool) (da : Nat) : Option Nat :=
  if spread then
    let m := da % 2 ^ 28 / 256
    let v := m % 2 ^ 18
    let d := da / 2 ^ 28 / 288
    let low := Nat.xor d (Nat.xor (v / 16 % 4) (Nat.xor (v / 1024 % 4) (v / 65536 % 4)))
    if da / 2 ^ 28 % 288 = ext % 512 ∧ m / 2 ^ 18 = ext / 512 % 4 then some ((4 * v + low) * 256 + da % 256) else none
  else if da / 2 ^ 28 = ext then some (da % 2 ^ 28) else none

/-- The offsets in a slice's A or B window that a device address backs. -/
def State.offsetsAt (s : State) (sl : Nat) (tierB : Bool) (da : Nat) : List Nat :=
  (List.range (s.winCount sl (tierWin tierB))).filterMap (fun i =>
    let e := s.winBase sl (tierWin tierB) + i
    if s.flag (MEM_XT_VALID e) ∧ s.flag (MEM_XT_TIER_B e) = tierB then
      (unmapExtent (s.get (MEM_XT_EXT e)) (s.flag (MEM_XT_SPREAD e)) da).map (fun o => i * 2 ^ 28 + o)
    else none)

/-- A write made by device address marks the pages of the slices whose A or B windows it reaches (R326). -/
def State.logDevice (s : State) (tierB : Bool) (da n : Nat) : State :=
  (List.range 4).foldl (fun st k =>
    if st.flag (SLC_LOG_CTRL_EN k) then
      (List.range ((da + n - 1) / 256 - da / 256 + 1)).foldl (fun st2 j =>
        (st2.offsetsAt (st2.get (SLC_LOG_CTRL_SLICE k)) tierB (max da (256 * (da / 256 + j)))).foldl (fun st3 o =>
          st3.logTier (st3.get (SLC_LOG_CTRL_SLICE k)) tierB o 1) st2) st
    else st) s

/-! ### Writes to a slice's home locations -/

/-- Whether every byte of a range translates (R183). -/
def State.rangeOk (s : State) (sl : Nat) (tierB : Bool) (off n : Nat) : Bool :=
  (List.range ((off + n - 1) / 2 ^ 28 - off / 2 ^ 28 + 1)).all (fun j =>
    (s.translate sl (tierWin tierB) (off / 2 ^ 28 * 2 ^ 28 + j * 2 ^ 28)).isSome)

/-- A write of bytes straight to a slice's home location, line by line, with its log; `true` is an error completion
(R190). A translation that is refused is counted (R183, R315). -/
def State.homeWrite (s0 : State) (sl : Nat) (tierB : Bool) (off : Nat) (data : List MByte) : Bool × State :=
  let s := if data = [] ∨ s0.rangeOk sl tierB off data.length then s0 else s0.tally (SLC_REFUSE sl)
  let l0 := off / 256
  (List.range ((off + data.length + 255) / 256 - l0)).foldl (fun (acc : Bool × State) i =>
    let lo := max off (256 * (l0 + i))
    let hi := min (off + data.length) (256 * (l0 + i) + 256)
    let part := (data.drop (lo - off)).take (hi - lo)
    match acc.2.translate sl (tierWin tierB) lo with
    | none => (true, acc.2)
    | some da =>
      let r := acc.2.devWrite tierB da part sl
      (acc.1 || r.1, r.2.logTier sl tierB lo (hi - lo))) (false, s)

end Sys2Proof.Machine
end

