-- ==== Sys2Proof/Machine/StepOps.lean ====
section
/-! DEFINITION. Operations shared by everything that runs a step: which step a tile works for, the digests and journals
that replay compares (R511, R515, R516), and how a step is made to fail or is discarded (R163, R171). -/

namespace Sys2Proof.Machine

/-- What a tile works for: slice, step, logical group, logical tile, and whether it is a replay (R513). -/
structure RunId where
  slice  : Nat
  step   : Nat
  lgroup : Nat
  ltile  : Nat
  replay : Bool
  deriving DecidableEq, Repr

/-- The work a tile's schedule is for. -/
def State.runId (s : State) (t : Nat) : RunId :=
  let g := groupOf t
  let x := s.tile t
  let lt := x.cur.ltile
  match s.replayOn g with
  | some r => ⟨r.slice, r.step, r.lgroup, lt, true⟩
  | none =>
    if x.run.radio then ⟨0, s.get64 (DSP_SLC_STEP_LO_STEP 0) (DSP_SLC_STEP_HI_STEP 0), lt / 16, lt, false⟩
    else ⟨s.get (DSP_GRP_STATE_SLICE g), (s.group g).step, lt / 16, lt, false⟩

/-- The physical group of a slice's logical group, if its image places it. -/
def State.placeOf (s : State) (sl lg : Nat) : Option Nat :=
  match mapFind lg (s.slice sl).place with
  | some (g + 1) => some g
  | _ => none

/-- The physical tile of a logical tile as work `id` sees it: a replay finds its own group's tiles on its target. -/
def State.physTile (s : State) (id : RunId) (g ltile : Nat) : Option Nat :=
  if id.replay ∧ ltile / 16 = id.lgroup then some (tileAt g (ltile % 16))
  else (s.placeOf id.slice (ltile / 16)).map (fun p => tileAt p (ltile % 16))

/-! ### Digests (R516) -/

/-- The CRC of one chunk of an effect (R516): kind, logical tile, tag, data. -/
def chunkCrc (kind ltile tag : Nat) (data : List Byte) : Nat :=
  crc64 (natToBytes 1 kind ++ natToBytes 2 ltile ++ natToBytes 8 tag ++ (data ++ List.replicate 16 0).take 16)

/-- A digest: how many chunks, and the sum of their CRC values modulo 2^64, the tag of each chunk naming its own place
(R516). -/
def digestAdd (d : Nat × Nat) (kind ltile tag : Nat) (chunks : List (List Byte)) : Nat × Nat :=
  ((List.range chunks.length).zip chunks).foldl (fun a c =>
    ((a.1 + 1) % 2 ^ 32, (a.2 + chunkCrc kind ltile (tag + 16 * c.1) c.2) % 2 ^ 64)) d

/-- An outward effect of a group's work enters the digest of the original or of the replay (R516). Slice 0 is neither
sampled nor replayed (R173). -/
def State.digest (s : State) (id : RunId) (g kind tag : Nat) (data : List Byte) : State :=
  let chunks := chunksOf 16 (data.length + 1) data
  if id.slice = 0 then s
  else if id.replay then
    let rs := s.integ.replays.map (fun r =>
      if r.target = g then { r with digest := some (digestAdd (r.digest.getD (0, 0)) kind id.ltile tag chunks) } else r)
    { s with integ := { s.integ with replays := rs } }
  else
    let k := 64 * id.step + id.lgroup
    s.onSlice id.slice (fun x =>
      let d := mapSet (fun _ => (0, 0)) x.digests k (digestAdd (mapGet (fun _ => (0, 0)) x.digests k) kind id.ltile tag chunks)
      { x with digests := d })

/-! ### Staging lines and journals (R165, R167, R511) -/

/-- Whether a deferred effect is a fabric line, which the staging area holds (R164). -/
def isFab (d : Deferred) : Bool := match d.eff with | .fab _ _ _ => true | _ => false

/-- The lines a slice's staging area holds: staged, deferred, committed and not drained, journals and overlays. -/
def State.linesUsed (s : State) (sl : Nat) : Nat :=
  let x := s.slice sl
  ((x.steps ++ x.early).map (fun r => r.lines.length + (r.deferred.filter isFab).length)).sum + x.committed.length
    + ((s.integ.journals.filter (fun j => decide (j.slice = sl))).map (fun j => j.lines.length)).sum
    + ((s.integ.replays.filter (fun r => decide (r.slice = sl))).map (fun r => r.overlay.length)).sum

/-- Whether the staging area has a free line (R167). -/
def State.lineFree (s : State) (sl : Nat) : Bool := decide (s.linesUsed sl < s.get (MEM_SLC_STGLN_LINES sl))

/-- `USED` and `UNCOMMITTED` follow the slice's state. -/
def State.refreshSlice (s : State) (sl : Nat) : State :=
  (s.put (DSP_SLC_STAGE_USED sl) (s.linesUsed sl)).put (DSP_SLC_STATE_UNCOMMITTED sl) (s.slice sl).steps.length

/-- The reply posted to the request of a replay's operation. -/
def postReply (pos idx : Nat) (data : List MByte) (cause : Nat) (x : Tile) : Tile :=
  let onReq (q : MvReq) : MvReq := if q.idx = idx then { q with reply := some (data, cause) } else q
  let onOp (o : MvOp) : MvOp := if o.pos = pos then { o with out := o.out.map onReq } else o
  { x with ctxs := x.ctxs.map (fun c => (c.1, c.2.map onOp)) }

/-- What a journal line gives the replay that runs: a row of flits enters the tile's ejection buffer, a reply is posted
(R515). -/
def applyEntry (e : JEntry) (x : Tile) : Tile :=
  match e with
  | .flit _ route data => { x with ej := x.ej ++ [(route, data)] }
  | .reply _ pos idx data cause => postReply pos idx data cause x
  | .access _ _ _ _ _ _ => x

/-- The logical tile of a journal entry. -/
def JEntry.ltile : JEntry → Nat
  | .flit l _ _ => l
  | .access l _ _ _ _ _ => l
  | .reply l _ _ _ _ => l

/-- A line enters the journal of the work's group, if a staging line is free; without one the journal of that group and
step is incomplete (R511). A replay that runs takes it at once. -/
def State.journal (s : State) (id : RunId) (e : JEntry) : State :=
  if id.slice = 0 ∨ id.replay then s
  else
    let mine (j : Journal) : Bool := decide (j.slice = id.slice ∧ j.step = id.step ∧ j.lgroup = id.lgroup)
    let js := if s.integ.journals.any mine then s.integ.journals
      else s.integ.journals ++ [⟨id.slice, id.step, id.lgroup, true, []⟩]
    let free := s.lineFree id.slice
    let js1 := js.map (fun j => if mine j then (if free then { j with lines := j.lines ++ [e] } else { j with full := false }) else j)
    let s1 := { s with integ := { s.integ with journals := js1 } }
    let s2 := s1.integ.replays.foldl (fun st r =>
      if r.setup ∧ r.slice = id.slice ∧ r.step = id.step ∧ r.lgroup = id.lgroup ∧ free then
        st.onTile (tileAt r.target (e.ltile % 16)) (applyEntry e) else st) s1
    s2.refreshSlice id.slice

/-! ### Steps -/

/-- The dispatcher's states (R160). -/
def dspStopped : Nat := 0
/-- READY. -/
def dspReady : Nat := 1
/-- RUNNING. -/
def dspRunning : Nat := 2
/-- COMMITTING. -/
def dspCommitting : Nat := 3
/-- HELD. -/
def dspHeld : Nat := 4
/-- PREEMPTED. -/
def dspPreempted : Nat := 5
/-- STALLED. -/
def dspStalled : Nat := 6
/-- FAULTED. -/
def dspFaulted : Nat := 7

/-- The states of a group (R162): OFF. -/
def grpOff : Nat := 0
/-- IDLE. -/
def grpIdle : Nat := 1
/-- RUN. -/
def grpRun : Nat := 2
/-- BOUNDARY. -/
def grpBoundary : Nat := 3
/-- LENT. -/
def grpLent : Nat := 4
/-- SAVE. -/
def grpSave : Nat := 5
/-- SAVED. -/
def grpSaved : Nat := 6
/-- RESTORE. -/
def grpRestore : Nat := 7

/-- The modes of a tile: OFF. -/
def modeOff : Nat := 0
/-- IDLE. -/
def modeIdle : Nat := 1
/-- TENANT. -/
def modeTenant : Nat := 2
/-- RADIO. -/
def modeRadio : Nat := 3
/-- HANDOVER. -/
def modeHandover : Nat := 4
/-- SAVE. -/
def modeSave : Nat := 5

/-- A group's state with the mode of its 16 tiles. -/
def State.setGroupState (s : State) (g st mode : Nat) : State :=
  (groupTiles g).foldl (fun a t => a.put (TIL_STATE_MODE t) mode) (s.put (DSP_GRP_STATE_STATE g) st)

/-- The owner of a group's tiles. -/
def State.setGroupOwner (s : State) (g sl : Nat) : State :=
  (groupTiles g).foldl (fun a t => a.put (TIL_STATE_OWNER t) sl) s

/-- The state of mover context `c`: 0 IDLE, 1 READY, 2 PARKED (R94). -/
def ctxState (total : MoverRec → Nat) (x : Tile) (c : Nat) : Nat :=
  match mapGet (fun _ => none) x.ctxs c with
  | none => 0
  | some o => if o.next < total o.desc ∧ o.out.length < 16 then 1 else 2

/-- Whether `FOP` is a reduction of FP8 elements into FP32 (R371). -/
def fopFp8 (fop : Nat) : Bool := decide (fop / 16 = 3 ∨ fop / 16 = 4)

/-- The bytes that an operation's target range has for each byte of its scratchpad range (R370). -/
def moverScale (d : MoverRec) : Nat := if d.op = 9 ∧ fopFp8 d.fop.toNat then 4 else 1

/-- The number of requests of an operation (R93): units of 256 bytes, the 128-byte lines that a fabric operation's
target range touches (R370), one for an atomic, none for a `FENCE`. -/
def moverTotal (d : MoverRec) : Nat :=
  if d.op = 12 then 0
  else if d.op = 11 then 1
  else if 7 ≤ d.op.toNat then (d.remote.toNat % 128 + moverScale d * d.len.toNat + 127) / 128
  else (d.len.toNat + 255) / 256

/-- The target offset, scratchpad offset and scratchpad length of unit `i` of an operation. -/
def moverPiece (d : MoverRec) (i : Nat) : Nat × Nat × Nat :=
  let n := d.len.toNat
  if d.op = 11 then (0, 0, n)
  else if 7 ≤ d.op.toNat then
    let o := d.remote.toNat % 128
    let m := moverScale d
    let lo := 128 * i - o
    let hi := min (m * n) (128 * i + 128 - o)
    (lo, lo / m, (hi - lo) / m)
  else (256 * i, 256 * i, min 256 (n - 256 * i))

/-- The tile's mover and scoreboard registers follow its state (R94, R96). -/
def State.refreshTile (s : State) (t : Nat) : State :=
  let x := s.tile t
  let v := (List.range 16).foldl (fun a c => a + ctxState moverTotal x c * 4 ^ c) 0
  let used := (x.scb.filter (fun p => decide (p.2.st ≠ .free))).length
  let bad := (x.scb.filter (fun p => decide (p.2.st = .error))).length
  let s1 := ((s.put (TIL_MOVER_CTX_CTX t) v).put (TIL_SCB_STATUS_IN_USE t) used).put (TIL_SCB_STATUS_IN_ERROR t) bad
  s1.putIf (decide (s1.get (TIL_SCB_STATUS_HIGH_WATER t) < used)) (TIL_SCB_STATUS_HIGH_WATER t) used

/-- The mover contexts and scoreboard entries of a range emptied: the tear-down of R94 and R175. -/
def tearDown (radio : Bool) (x : Tile) : Tile :=
  let mineC (c : Nat) : Bool := if radio then decide (12 ≤ c) else true
  let mineE (e : Nat) : Bool := if radio then decide (48 ≤ e) else true
  { x with
    ctxs := x.ctxs.filter (fun p => !mineC p.1)
    mvq := x.mvq.filter (fun o => if radio then decide (o.slice ≠ 0) else false)
    scb := x.scb.filter (fun p => !mineE p.1) }

/-- The groups that a slice's image runs on. -/
def State.sliceGroups (s : State) (sl : Nat) : List Nat :=
  (List.range 64).filter (fun g => (s.slice sl).place.any (fun p => decide (p.2 = g + 1)))

/-- Mover operations of a discarded step go on to their end, and every other scoreboard entry is FREE (R339). -/
def strandOps (x : Tile) : Tile :=
  let dead (o : MvOp) : MvOp := if o.slice = 0 then o else { o with dead := true }
  let ctxs := x.ctxs.map (fun c => (c.1, c.2.map dead))
  let mvq := x.mvq.map dead
  let flying := (ctxs.filterMap (fun c => c.2)) ++ mvq
  { x with ctxs := ctxs, mvq := mvq,
           scb := x.scb.filter (fun e => flying.any (fun o => decide (o.entry = e.1)) || (x.run.radio && decide (48 ≤ e.1))) }

/-- A tenant's work on a tile ended where it stands: its schedule and queued flits are dropped, its mover operations torn
down or left to end. A radio run in progress keeps its own. -/
def dropWork (tear : Bool) (x : Tile) : Tile :=
  let x1 :=
    if !tear then strandOps x
    else if x.run.radio then
      { x with
        ctxs := x.ctxs.filter (fun p => decide (12 ≤ p.1))
        mvq := x.mvq.filter (fun o => decide (o.slice = 0))
        scb := x.scb.filter (fun p => decide (48 ≤ p.1)) }
    else tearDown false x
  if x.run.radio then { x1 with saved := none }
  else { x1 with run := TileRun.reset, ej := [] }

/-- Slice 0's work on a tile ended where it stands. -/
def dropRadio (x : Tile) : Tile :=
  if x.run.radio then { tearDown true x with run := { TileRun.reset with radio := true } } else tearDown true x

/-- The groups of a slice stand before segment 0 of step `n` with no segment running; a group lent, saved or off keeps
its state. Of slice 0, only the groups granted to it change state, to BOUNDARY in mode RADIO (R162). A group that another
slice's replay has borrowed goes on, and its own work stands at step `n` when it returns. -/
def State.haltGroups (s : State) (sl n : Nat) (tear : Bool) : State :=
  (s.sliceGroups sl).foldl (fun a g =>
    if sl ≠ 0 ∧ (a.replayOn g).isSome then a.onGroup g (fun r => { r with keptAt := r.keptAt.map (fun _ => (n, 0, false)) }) else
    let a1 := (groupTiles g).foldl (fun b t => (b.onTile t (if sl = 0 then dropRadio else dropWork tear)).refreshTile t) a
    let a2 := a1.onGroup g (fun r =>
      if sl = 0 then { r with rrunning := false, rbegun := false, rseg := 0, rstep := n }
      else { r with running := false, begun := false, prologue := false, seg := 0, step := n, dumped := false })
    let st := a2.get (DSP_GRP_STATE_STATE g)
    if (st = grpRun ∨ st = grpBoundary) ∧ (sl ≠ 0 ∨ a2.granted 0 g) then
      a2.setGroupState g grpBoundary (if sl = 0 then modeRadio else modeTenant)
    else a2) s

/-- Whether mover operations of a discarded step are still under way on a slice's groups (R339). -/
def State.stranded (s : State) (sl : Nat) : Bool :=
  (s.sliceGroups sl).any (fun g => (groupTiles g).any (fun t =>
    (((s.tile t).ctxs.filterMap (fun c => c.2)) ++ (s.tile t).mvq).any (fun o => o.dead)))

/-- The bytes of a tile's tenant region (R88). -/
def State.tenantBytes (s : State) (g : Nat) : Nat := if s.marked g then 0x80000 else 0xC0000

/-- The tenant region of a tile cleared to zeros with valid check bits, and the spare rows that serve it. -/
def State.clearTenant (s : State) (t : Nat) : State :=
  let n := s.tenantBytes (groupOf t)
  let spares := (List.range 16).filter (fun i => s.flag (TIL_REPAIR_MAP_VALID t i) && decide (256 * s.get (TIL_REPAIR_MAP_ROW t i) < n))
  s.onTile t (fun x => { x with
    spad := spares.foldl (fun m i => m.zeroRange (256 * (3072 + i)) 256) (x.spad.zeroRange 0 n) })

/-- The radio region of a lendable tile, rows 2,048 to 3,007 (R88), cleared to zeros, and the spare rows that serve it. -/
def State.clearRadio (s : State) (t : Nat) : State :=
  let spares := (List.range 16).filter (fun i => s.flag (TIL_REPAIR_MAP_VALID t i)
    && decide (2048 ≤ s.get (TIL_REPAIR_MAP_ROW t i) ∧ s.get (TIL_REPAIR_MAP_ROW t i) < 3008))
  s.onTile t (fun x => { x with
    spad := spares.foldl (fun m i => m.zeroRange (256 * (3072 + i)) 256) (x.spad.zeroRange 0x80000 245760) })

/-- An image's stores written into the tiles of a group (R141, WRITE), the radio store for a radio image. -/
def writeStores (gs : GroupSec) (p : Nat) (x : Tile) : Tile :=
  let st := nth TileStore.empty gs.stores p
  if st.radio then { x with rstore := st } else { x with store := st }

/-- Whether a slice holds a sealed group (R467). -/
def State.sealedSlice (s : State) (sl : Nat) : Bool :=
  (List.range 64).any (fun g => s.granted sl g && s.pairBit HOL_SEAL_GROUPS_LO_SEAL HOL_SEAL_GROUPS_HI_SEAL g)

/-- A replay's target given up (R513, R514): its schedule ends and its context is clear. A pool group goes back to IDLE
and keeps the sections it holds, unless the slice has a sealed group; a borrowed one has its owner's stores again and
waits to be restored, or goes on where it was if it was not saved yet. -/
def State.releaseTarget (s : State) (r : Replay) : State :=
  let g := r.target
  let s1 := (groupTiles g).foldl (fun b t =>
    (b.onTile t (fun x => { tearDown false x with run := TileRun.reset, ej := [], cx := TileCtx.empty })).refreshTile t) s
  let s2 := s1.onGroup g (fun gr => { gr with replay := false, running := false, begun := false, idleAt := s.raw })
  match r.borrow with
  | some sl =>
    let s3 := match (s.slice sl).image.bind (fun im => im.groups.find? (fun gs => decide (s.placeOf sl gs.lgroup = some g))) with
      | some gs => (List.range 16).foldl (fun (a : State) p => a.onTile (tileAt g p) (writeStores gs p)) s2
      | none => s2
    let st := s3.get (DSP_GRP_STATE_STATE g)
    if st = grpLent ∧ r.setup then s3.onGroup g (fun q => { q with before := grpSaved, restoring := true })
    else if r.setup ∨ st = grpSaved then (s3.setGroupState g grpSaved modeIdle).onGroup g (fun q => { q with restoring := true })
    else
      let s4 := s3.onGroup g (fun q => { q with saveFor := none, keptAt := none })
      if st = grpSave then s4.setGroupState g grpBoundary modeTenant else s4
  | none =>
    let s3 := if s2.get (DSP_GRP_STATE_STATE g) = grpRun ∨ s2.get (DSP_GRP_STATE_STATE g) = grpBoundary then
        s2.setGroupState g grpIdle modeIdle else s2
    if s3.sealedSlice r.slice then
      let h := mapSet (fun _ => none) s3.integ.holds g none
      let s4 : State := { s3 with integ := { s3.integ with holds := h } }
      (groupTiles g).foldl (fun a t => a.clearTenant t) s4
    else s3

/-! ### The stream engine's part of a step (R212, R218) -/

/-- A slice's stream engine. -/
def State.stream (s : State) (sl : Nat) : StreamRt := mapGet (fun _ => StreamRt.reset) s.streams sl
/-- A slice's stream engine changed. -/
def State.onStream (s : State) (sl : Nat) (f : StreamRt → StreamRt) : State :=
  { s with streams := mapSet (fun _ => StreamRt.reset) s.streams sl (f (s.stream sl)) }

/-- The level registers of the free rings, in the committed view. -/
def State.refreshRings (s : State) (sl : Nat) : State :=
  let r := s.stream sl
  let hA := (r.fixes.head?.map (fun f => f.headA)).getD r.headA
  let hB := (r.fixes.head?.map (fun f => f.headB)).getD r.headB
  (s.put (STM_SLC_FREE_A_PAGES sl) (r.tailA - hA)).put (STM_SLC_FREE_B_PAGES sl) (r.tailB - hB)

/-- The engine's values for steps `n` and later dropped: page-table entries that those steps allocated are cleared, and
the ring heads return to their values at the first one's release (R218). -/
def State.dropFixes (s : State) (sl n : Nat) : State :=
  let gone := (s.stream sl).fixes.filter (fun f => stepFrom n f.num)
  match gone with
  | [] => s
  | f0 :: _ =>
    let s1 := (gone.flatMap (fun (f : StepFix) => f.allocs)).foldl (fun (a : State) off => (a.homeWrite sl false off (zerosM 8)).2) s
    (s1.onStream sl (fun r => { r with
      headA := f0.headA, headB := f0.headB, fixes := r.fixes.filter (fun f => !stepFrom n f.num) })).refreshRings sl

/-- Steps `n` and later of a slice discarded (R171, R172): staged lines freed, deferred effects dropped, replays and
journals of those steps ended, the slice's groups brought back to a boundary. With `tear` their mover operations are torn
down (R175). -/
def State.discardWith (s : State) (sl n : Nat) (tear : Bool) : State :=
  let keepR (r : Replay) : Bool := decide (r.slice ≠ sl) || !stepFrom n r.step
  let gone := s.integ.replays.filter (fun r => !keepR r)
  let s1 := gone.foldl (fun a r => a.releaseTarget r) s
  let rs := s1.integ.replays.filter keepR
  let js := s1.integ.journals.filter (fun j => decide (j.slice ≠ sl) || !stepFrom n j.step)
  let s2 := { s1 with integ := { s1.integ with replays := rs, journals := js } }
  let s3 := s2.onSlice sl (fun x =>
    let st := x.steps.filter (fun r => !stepFrom n r.num)
    let dg := x.digests.filter (fun p => !stepFrom n (p.1 / 64))
    { x with steps := st, nextRelease := n, digests := dg, early := x.early.filter (fun r => !stepFrom n r.num) })
  let s3a := (s3.dropReorder sl n).dropFixes sl n
  let s4 := s3a.haltGroups sl n tear
  let s5 := (s4.sliceGroups sl).foldl (fun a g => (a.put (DSP_GRP_STATE_SUSPECT g) 0).put (DSP_GRP_STATE_SAMPLED g) 0) s4
  (s5.refreshSlice sl).voidOrphans

/-- Steps discarded, their mover operations left to end. -/
def State.discardFrom (s : State) (sl n : Nat) : State := s.discardWith sl n false

/-- A record whose kind and identifier the manual does not give (DESIGN CHOICE, log entry 18): both are free values. -/
def State.openRec (s : State) (inst die sl w7 : Nat) : State :=
  let v := s.takeFree
  v.2.pushRec ⟨v.1.toNat % 256, v.1.toNat / 256 % 256, inst, v.2.recTemp die, v.2.dieStep die + 256 * sl,
    v.2.get (DSP_SLC_STEP_LO_STEP sl), w7⟩

/-- A dispatcher event of a slice. -/
def State.dspEvent (s : State) (sl : Nat) (f : Fld) : State := s.event f (64 + 16 * sl + 3)

/-- A group's state for its tenant: that of a LENT group is the one it returns to (R341, R343). -/
def State.ownState (s : State) (g : Nat) : Nat :=
  if s.get (DSP_GRP_STATE_STATE g) = grpLent then (s.group g).before else s.get (DSP_GRP_STATE_STATE g)

/-- `SAVED` of a slice follows its groups, one that is lent included (R343). -/
def State.refreshSaved (s : State) (sl : Nat) : State :=
  s.put (DSP_SLC_SAVE_SAVED sl) ((s.sliceGroups sl).filter (fun g => decide (s.ownState g = grpSaved))).length

/-- A save that is in progress for a slice ends where it stands; its SAVED groups that are INTACT go straight to IDLE, and the
others are to be restored (R344, R348). One that is lent does so at its return. -/
def State.endSave (s : State) (sl : Nat) : State :=
  let s1 := (s.sliceGroups sl).foldl (fun a g =>
    let st := a.ownState g
    let mine := (a.group g).saveFor.isNone && decide (a.get (DSP_GRP_STATE_SLICE g) = sl)
    if mine ∧ (st = grpSave ∨ (st = grpSaved ∧ a.flag (DSP_GRP_GUARD_INTACT g))) then
      (if a.get (DSP_GRP_STATE_STATE g) = grpLent then a.onGroup g (fun r => { r with before := grpIdle })
        else a.setGroupState g grpIdle modeIdle).put (DSP_GRP_GUARD_INTACT g) 0
    else if mine ∧ st = grpSaved then a.onGroup g (fun r => { r with restoring := true })
    else a) s
  (s1.put (DSP_SLC_SAVE_SAVE_PEND sl) 0).refreshSaved sl

/-- A step fails (R171): it and later uncommitted steps are discarded, the slice goes to FAULTED with the cause. -/
def State.stepFail (s : State) (sl n cause : Nat) : State :=
  if (s.slice sl).steps.any (fun r => decide (r.num = n)) then
    let s1 := s.discardFrom sl n
    let s2 := ((s1.endSave sl).put (DSP_SLC_STATE_STATE sl) dspFaulted).put (DSP_SLC_STATE_CAUSE sl) cause
    (s2.onSlice sl (fun x => { x with rerun := 0 })).dspEvent sl (DSP_SLC_EVENT_FAULT sl)
  else s

/-- The causes of an entry in ERROR (R163): none. -/
def causeNone : Nat := 0
/-- Detected data error. -/
def causeData : Nat := 1
/-- Powered-off target. -/
def causeOff : Nat := 2
/-- Refusal. -/
def causeRefused : Nat := 3
/-- Staging exhausted. -/
def causeStage : Nat := 4
/-- Not stageable. -/
def causeNotStage : Nat := 5

/-- An ERROR met in a replay: the step fails where the original's same operation met the same cause (R163); else the replay is
void, as for a firing on its target (R515). -/
def State.replayError (s : State) (t : Nat) (id : RunId) (pos cause : Nat) : State :=
  let g := groupOf t
  match s.replayOn g, (s.slice id.slice).steps.find? (fun r => decide (r.num = id.step)) with
  | some r, some q => if !r.voided && q.errs.contains (id.ltile, pos, cause) then s.stepFail id.slice id.step 4 else s.suspect g
  | _, _ => s

/-- The effect of an ERROR cause of the operation at schedule position `pos` on the step (R163): suspect, or failed with the
`CAUSE` of `DSP_SLC_STATE_`. -/
def State.errorEffect (s : State) (t : Nat) (id : RunId) (pos cause : Nat) : State :=
  if id.slice = 0 ∨ cause = causeNone then s
  else if id.replay then s.replayError t id pos cause
  else if cause = causeData ∨ cause = causeOff then
    (s.suspectStep (groupOf t) id.slice id.lgroup id.step).onSlice id.slice (fun x => { x with steps := x.steps.map (fun r =>
      if r.num = id.step ∧ ¬ r.errs.contains (id.ltile, pos, cause) then { r with errs := r.errs ++ [(id.ltile, pos, cause)] } else r) })
  else s.stepFail id.slice id.step (cause - 2)

end Sys2Proof.Machine
end

