-- ==== Sys2Proof/Machine/TierOps.lean ====
section
/-! DEFINITION. Accesses to the memory tiers: a slice's view of tier memory and its staging (R165 to R168), and host memory. -/

namespace Sys2Proof.Machine

/-! ### A slice's view (R166) and its staging (R165) -/

/-- The newest held copy of chunk `c` of the line at `off`, searching the lines from the newest. -/
def findChunk (tierB : Bool) (off c : Nat) (ls : List StLine) : Option CWord :=
  (ls.reverse.filterMap (fun l => if l.tierB = tierB ∧ l.off = off then mapGet (fun _ => none) l.chunks c else none)).head?

/-- The lines a reader sees above the home location: all of a slice's own, or the committed ones only (R166). -/
def State.viewLines (s : State) (sl : Nat) (own : Bool) : List StLine :=
  (s.slice sl).committed ++ (if own then (s.slice sl).steps.flatMap (fun r => r.lines) else [])

/-- One 16-byte chunk at offset `off` (a multiple of 16) in a view: staged, committed, or home; `none` is a refusal or
an error completion. -/
def State.viewChunk (s : State) (sl : Nat) (ls : List StLine) (tierB : Bool) (off : Nat) : Option CWord × State :=
  match findChunk tierB (off / 256 * 256) (off % 256 / 16) ls with
  | some c => (some c, s)
  | none =>
    match s.translate sl (tierWin tierB) off with
    | none => (none, s)
    | some da =>
      let r := s.devRead tierB da 16 sl
      (r.1.map (fun d => ⟨bytesM d, markedM d⟩), r.2)

/-- `n` chunks of a view from offset `off`; `none` if any is refused or fails. -/
def State.viewChunks (s : State) (sl : Nat) (ls : List StLine) (tierB : Bool) (off : Nat) : Nat → Option (List CWord) × State
  | 0 => (some [], s)
  | n + 1 =>
    let r := s.viewChunk sl ls tierB off
    match r.1 with
    | none => (none, r.2)
    | some c =>
      let q := State.viewChunks r.2 sl ls tierB (off + 16) n
      (q.1.map (fun l => c :: l), q.2)

/-- Bytes of a view, with their marks (R166). A translation that is refused is counted (R183, R315). -/
def State.viewRead (s : State) (sl : Nat) (ls : List StLine) (tierB : Bool) (off n : Nat) : Option (List MByte) × State :=
  let c0 := off / 16
  let r := s.viewChunks sl ls tierB (16 * c0) ((off + n + 15) / 16 - c0)
  (r.1.map (fun l => ((wordsM l).drop (off - 16 * c0)).take n),
   if r.1.isNone ∧ !s.rangeOk sl tierB off n then r.2.tally (SLC_REFUSE sl) else r.2)

/-- A chunk put into a list of staged lines: the line of its address if one is held, else a new line. -/
def putChunk (tierB : Bool) (off c lg : Nat) (w : CWord) (ls : List StLine) : List StLine :=
  if ls.any (fun l => decide (l.tierB = tierB ∧ l.off = off)) then
    ls.map (fun l => if l.tierB = tierB ∧ l.off = off then
      { l with chunks := mapSet (fun _ => none) l.chunks c (some w), writer := mapSet (fun _ => 0) l.writer c (lg + 1) } else l)
  else ls ++ [⟨tierB, off, [(c, some w)], [(c, lg + 1)]⟩]

/-- The outcome of a staged write: done, waiting for a line, or an ERROR cause (R163, R167). -/
inductive Staged where
  | done | wait | error (cause : Nat)
  deriving DecidableEq, Repr

/-- The lines that a piece of work stages into: its step's, or a replay's overlay (R515). -/
def State.workLines (s : State) (id : RunId) (g : Nat) : List StLine :=
  if id.replay then ((s.replayOn g).map (fun r => r.overlay)).getD []
  else (((s.slice id.slice).steps ++ (s.slice id.slice).early).filter (fun r => decide (r.num = id.step))).flatMap (fun r => r.lines)

/-- The lines replaced. -/
def State.setWorkLines (s : State) (id : RunId) (g : Nat) (ls : List StLine) : State :=
  if id.replay then
    let rs := s.integ.replays.map (fun r => if r.target = g then { r with overlay := ls } else r)
    { s with integ := { s.integ with replays := rs } }
  else
    let set (r : StepRt) : StepRt := if r.num = id.step then { r with lines := ls } else r
    s.onSlice id.slice (fun x => { x with steps := x.steps.map set, early := x.early.map set })

/-- What a piece of work sees of tier memory (R166), a replay without what its own original staged (R515). -/
def State.workView (s : State) (id : RunId) (g : Nat) : List StLine :=
  if id.replay then
    let strip (r : StepRt) : List StLine :=
      if r.num = id.step then
        r.lines.map (fun l => { l with chunks := l.chunks.filter (fun p => decide (mapGet (fun _ => 0) l.writer p.1 ≠ id.lgroup + 1)) })
      else r.lines
    (s.slice id.slice).committed
      ++ ((s.slice id.slice).steps.filter (fun r => stepFrom r.num id.step)).flatMap strip ++ s.workLines id g
  else s.viewLines id.slice true

/-- The journal of a replay's group and step marked incomplete: an overlay write found no staging line (R515, R519; DEDUCED, log entry 29). -/
def State.breakJournal (s : State) (id : RunId) : State :=
  let mine (j : Journal) : Bool := decide (j.slice = id.slice ∧ j.step = id.step ∧ j.lgroup = id.lgroup)
  let js := if s.integ.journals.any mine then s.integ.journals.map (fun j => if mine j then { j with full := false } else j)
    else s.integ.journals ++ [⟨id.slice, id.step, id.lgroup, false, []⟩]
  { s with integ := { s.integ with journals := js } }

/-- A staged write (R165, R167): whole chunks are held; a part chunk is completed from the view `view`, and not staged
if the word it needs is in error. A write that finds no free line waits while committed lines remain to be drained. -/
def State.stageWith (s : State) (view : List StLine) (id : RunId) (g : Nat) (tierB : Bool) (off : Nat) (data : List MByte) :
    Staged × State :=
  let ls := s.workLines id g
  let l0 := off / 256
  let need := ((List.range ((off + data.length + 255) / 256 - l0)).filter (fun i =>
    !ls.any (fun l => decide (l.tierB = tierB ∧ l.off = 256 * (l0 + i))))).length
  if !s.rangeOk id.slice tierB off data.length then (.error causeRefused, s.tally (SLC_REFUSE id.slice))
  else if s.get (MEM_SLC_STGLN_LINES id.slice) < s.linesUsed id.slice + need then
    if (s.slice id.slice).committed ≠ [] then (.wait, s)
    else if id.replay then (.error causeStage, s.breakJournal id)
    else (.error causeStage, s.dspEvent id.slice (DSP_SLC_EVENT_STAGE_FULL id.slice))
  else
    let c0 := off / 16
    let r := (List.range ((off + data.length + 15) / 16 - c0)).foldl (fun (acc : List StLine × Nat × State) i =>
      let co := 16 * (c0 + i)
      let lo := max off co
      let hi := min (off + data.length) (co + 16)
      let part := (data.drop (lo - off)).take (hi - lo)
      if hi - lo = 16 then
        (putChunk tierB (co / 256 * 256) (co % 256 / 16) id.lgroup ⟨bytesM part, markedM part⟩ acc.1, acc.2.1, acc.2.2)
      else
        let old := acc.2.2.viewChunk id.slice (view ++ acc.1) tierB co
        match old.1 with
        | none => (acc.1, causeData, old.2)
        | some w =>
          if w.marked then (acc.1, causeData, old.2)
          else
            let d := w.data.take (lo - co) ++ bytesM part ++ w.data.drop (hi - co)
            (putChunk tierB (co / 256 * 256) (co % 256 / 16) id.lgroup ⟨d, markedM part⟩ acc.1, acc.2.1, old.2))
      (ls, causeNone, s)
    let s1 := (r.2.2.setWorkLines id g r.1).refreshSlice id.slice
    (if r.2.1 = causeNone then .done else .error r.2.1, s1)

/-- A staged write of a piece of work, in its own view (R165, R166). -/
def State.stageWrite (s : State) (id : RunId) (g : Nat) (tierB : Bool) (off : Nat) (data : List MByte) : Staged × State :=
  s.stageWith (s.workView id g) id g tierB off data

/-! ### Host memory -/

/-- A DMA request that may not leave sets `DMA_BLOCKED` (R456). -/
def State.dmaGate (s : State) : State := if s.dmaOpen then s else s.event PCI_EVENT_DMA_BLOCKED 9

/-- Whether an entry of the translation cache holds an address under a PASID (R454). -/
def AtsEntry.hits (e : AtsEntry) (pasid : Option Nat) (a : Nat) : Bool :=
  decide (e.pasid = pasid ∧ e.base ≤ a ∧ a < e.base + 2 ^ e.log2)

/-- The entry for an address (R454). -/
def State.atsFind (s : State) (pasid : Option Nat) (a : Nat) : Option AtsEntry := s.pcie.cache.find? (fun e => e.hits pasid a)

/-- A range of host addresses cut at 4 KiB pages: addresses and lengths. -/
def pagesOf (a n : Nat) : List (Nat × Nat) :=
  (List.range ((a + n + 4095) / 4096 - a / 4096)).map (fun i =>
    let lo := max a (4096 * (a / 4096 + i))
    (lo, min (a + n) (4096 * (a / 4096 + i) + 4096) - lo))

/-- A posted write within one page while ATS is enabled (R454): sent translated on a hit, ended where the entry does not
permit it, and held with a Translation Request on a miss. Nothing passes a write that is held (R455). -/
def State.atsWrite (s : State) (pasid : Option Nat) (addr : Nat) (data : List Byte) : State :=
  match s.atsFind pasid addr with
  | some e =>
    if s.pcie.held ≠ [] then s.onPcie (fun p => { p with held := p.held ++ [.write false pasid addr data] })
    else if e.wr then s.emit (.dmaTr pasid (e.dst + (addr - e.base)) data) else s
  | none => (s.onPcie (fun p => { p with held := p.held ++ [.write true pasid addr data] })).emit (.atsRequest pasid (addr / 4096 * 4096) true)

/-- A posted write to host memory (R454, R456). -/
def State.dmaWrite (s : State) (pasid : Option Nat) (addr : Nat) (data : List Byte) : State :=
  if s.flag fAtsEn then
    (pagesOf addr data.length).foldl (fun a p => a.atsWrite pasid p.1 ((data.drop (p.1 - addr)).take p.2)) s
  else s.emit (.dma pasid addr data)

/-- Writes to host memory for slice `sl` (R307, R326). While DMA is blocked the write does not leave (R456). -/
def State.hostWrite (s : State) (sl addr : Nat) (data : List Byte) : State :=
  if data = [] then s
  else if s.dmaOpen then
    (s.dmaWrite (some (s.get (SLC_PASID_PASID sl))) addr data).logHost sl addr data.length
  else s.dmaGate

/-- A read of host memory for slice `sl`, whose data come with the command that makes it: the request with the slice's PASID
(R307), translated on a hit of the cache, with a Translation Request on a miss (R454). -/
def State.hostAsk (s : State) (sl addr n : Nat) : State :=
  let pasid := some (s.get (SLC_PASID_PASID sl))
  if !s.dmaOpen then s.dmaGate
  else if n = 0 then s
  else if s.flag fAtsEn then
    (pagesOf addr n).foldl (fun a p =>
      match a.atsFind pasid p.1 with
      | some e => a.emit (.dmaRead pasid (e.dst + (p.1 - e.base)) p.2 true)
      | none => a.emit (.atsRequest pasid (p.1 / 4096 * 4096) false)) s
  else s.emit (.dmaRead pasid addr n false)

/-- A write to host memory for no slice. -/
def State.hostWritePlain (s : State) (addr : Nat) (data : List Byte) : State :=
  if s.dmaOpen then s.dmaWrite none addr data else s.dmaGate

end Sys2Proof.Machine
end

