-- ==== Sys2Proof/Machine/TilePort.lean ====
section
/-! DEFINITION. The port slot of a tensor tile's bundle (R129) and its loops (R130): activation rows, weight loads,
drains, vector loads and stores, rows out to and in from scheduled routes. A slot whose generator the image does not
define, or an operation whose row, credit or flit is missing, has no effect. -/

namespace Sys2Proof.Machine

/-- The record of the generator a port slot names. -/
def Tile.agOf (x : Tile) (p : PortSlot) : Option (BitVec 256) := agRecord x.cur p.ag.toNat

/-- The scratchpad row of a port slot (R125). -/
def Tile.portRow (x : Tile) (p : PortSlot) (r : BitVec 256) : Int := agRow x r p.row.toNat

/-- Little-endian reading of the data of a row. -/
def rowBits (ws : List CWord) : Nat := bytesToNat (wordsData ws)

/-- Row `k` of the scale array of a generator, if its operand is block-scaled (R48, R78). The array begins at the row that the scale
generator addresses with offset 0, as the element array begins at the row that the element generator addresses with offset 0
(DEDUCED, log entry 14). -/
def State.scaleRow (s : State) (t : Nat) (r : BitVec 256) (k : Nat) : List Byte × State :=
  if recField r 1 18 1 = 1 then
    match agRecord (s.tile t).cur (recField r 1 19 3) with
    | some sr =>
      let q := s.readRow t (agRow (s.tile t) sr k)
      (wordsData q.1, q.2)
    | none => ([], s)
  else ([], s)

/-- The staging after a row is read: the row and the one before it, 512 bytes (R74; DEDUCED, log entry 15). -/
def stageRow (old : SMap Byte) (row : List Byte) : SMap Byte :=
  let prev := mapRange (fun _ => (0 : Byte)) old 0 256
  mapWriteList (fun _ => 0) (mapWriteList (fun _ => 0) [] 0 row) 256 prev

/-- The shadow weight register made active (R77): the registers exchange, and the next load starts at row 0
(DEDUCED, log entry 16). -/
def swapWeights (c : TileCtx) : TileCtx := { c with wAct := c.wShd, wShd := { c.wAct with rows := 0, nextRow := 0 } }

/-- One bit of an accumulator inverted (R107, point 2; DEDUCED, log entry 13), `BIT` taken modulo 32 (DESIGN CHOICE, log entry 103). -/
def flipAcc (b r : Nat) (x : Tile) : Tile :=
  let c := x.cx.setAcc r 0 (x.cx.accAt r 0 ^^^ BitVec.ofNat 32 (2 ^ b))
  { x with cx := c }

/-- ACT (R129): one row read, its activation rows fed into the array. Row `ROW` of the operand holds its activation rows `ROW`·n + j, for n in
a row; block b of an activation row has the scale byte of that block's index in the element array (R48). The scale row that
holds them is read with the row (DEDUCED, log entry 14). -/
def State.portAct (s0 : State) (t : Nat) (p : PortSlot) : State :=
  match (s0.tile t).agOf p with
  | none => s0
  | some r =>
    let q := s0.readRow t ((s0.tile t).portRow p r)
    let s1 := q.2
    let fa := agFmt r
    let wa := fmtWidth fa.1
    let w0 := if p.swap then (s1.tile t).cx.wShd else (s1.tile t).cx.wAct
    let kk := passK wa (fmtWidth ((w0.forPass fa).fmt.toNat % 32))
    let step := if kk * wa / 8 ≤ 64 then 64 else 128
    let first := p.row.toNat * (256 / step) * (kk / 32)
    let sc := s1.scaleRow t r (first / 256)
    let s2 := sc.2
    let x := s2.tile t
    let cx0 := if p.swap then swapWeights x.cx else x.cx
    let cx1 := { cx0 with staging := stageRow cx0.staging (wordsData q.1) }
    let bits := rowBits q.1
    let res := (List.range (min (p.nr.toNat + 1) (256 / step))).foldl (fun (acc : TileCtx × Nat) j =>
      let row := p.arg.toNat + j
      if row < 64 then
        let codes := (List.range kk).map (fun k => bitField bits (8 * step * j + wa * k) wa)
        let out := actRowInto acc.1 fa codes (fun b => (nth 0 sc.1 (first % 256 + j * (kk / 32) + b)).toNat) row p.clr
        (out.1, evAdd acc.2 out.2)
      else acc) (cx1, 0)
    let s3 := (s2.setTile t { x with cx := res.1 }).arith t res.2
    if s3.tileInj t 2 then
      (s3.onTile t (flipAcc (s3.get (TIL_INJECT_BIT t) % 32) p.arg.toNat)).put (TIL_INJECT_ARM t) 0
    else s3

/-- WLD (R77, R564): one row of a weight tile into the shadow register. A row that does not follow the last one, or
that finds twelve rows loaded, starts the tile again (DEDUCED, log entry 16). The scales come with the first row (R78). -/
def State.portWld (s0 : State) (t : Nat) (p : PortSlot) : State :=
  match (s0.tile t).agOf p with
  | none => s0
  | some r =>
    let row := (s0.tile t).portRow p r
    let q := s0.readRow t row
    let s1 := q.2
    let w := (s1.tile t).cx.wShd
    let go := decide (0 < w.rows ∧ w.rows < 12 ∧ row = (w.nextRow : Int))
    let n := if go then w.rows else 0
    let sc := if go then (mapRange (fun _ => (0 : Byte)) w.scales 0 128, s1) else s1.scaleRow t r 0
    let w1 : WReg := {
      bytes := mapWriteList (fun _ => 0) (if go then w.bytes else []) (256 * n) (wordsData q.1)
      scales := mapWriteList (fun _ => 0) [] 0 (sc.1.take 128)
      fmt := BitVec.ofNat 7 (recField r 1 12 7)
      rows := n + 1
      nextRow := (row + 1).toNat }
    let x := sc.2.tile t
    sc.2.setTile t { x with cx := { x.cx with wShd := w1 } }

/-- The value of an accumulator. -/
def accVal (c : TileCtx) (r n : Nat) : FVal :=
  if c.isInt r then intVal (c.accAt r n).toInt else ofFP32 (c.accAt r n)

/-- The stochastic draw of element `e` of conversion `conv` of a tile's work (R67). -/
def State.draw (s : State) (t conv e : Nat) : Nat :=
  let id := s.runId t
  match (s.slice id.slice).image with
  | some im => stochDraw im.seed im.imageId id.slice id.step id.ltile conv e
  | none => 0

/-- The codes of accumulator column `c` in a drain's output format (R79, R129). -/
def State.drainCodes (s : State) (t fmt conv c : Nat) (sr : Bool) : List (Nat × Nat) :=
  let cx := (s.tile t).cx
  (List.range 64).map (fun r =>
    if fmt = 1 then ((cx.accAt r c).toNat, 0)
    else encodeElem fmt false (if sr then .stochastic (s.draw t conv (64 * c + r)) else .nearest) (accVal cx r c))

/-- DRN (R79, R129): one row of columns moved to the scratchpad, converted. `LAST` brings the check (R81). A generator of a format that is not an
output of the matrix engine (R52) moves nothing (DESIGN CHOICE, log entry 102). -/
def State.portDrn (s0 : State) (t : Nat) (p : PortSlot) : State :=
  match (s0.tile t).agOf p with
  | none => s0
  | some r =>
    let fmt := recField r 1 12 5
    if fmt = 0 ∨ 5 < fmt then s0
    else
      let x0 := s0.tile t
      let sr := p.sr && decide (4 ≤ fmt)
      let conv := x0.run.drain.getD x0.run.conv
      let fresh := sr && x0.run.drain.isNone
      let s1 := s0.setTile t { x0 with run := { x0.run with drain := some conv, conv := if fresh then conv + 1 else x0.run.conv } }
      let wd := fmtWidth fmt
      let n := 32 / wd
      let c0 := p.arg.toNat % 32
      let codes := (List.range n).flatMap (fun j => s1.drainCodes t fmt conv ((c0 + j) % 32) sr)
      let bytes := natToBytes 256 (packElems wd (codes.map (fun c => c.1)))
      let s2 := s1.arith t (codes.foldl (fun e c => evAdd e c.2) 0)
      let s3 := s2.writeRow t (x0.portRow p r) (toWords bytes)
      let s4 := if s3.tileInj t 7 then (s3.fireTile 3 t (256 * x0.portRow p r).toNat).put (TIL_INJECT_ARM t) 0 else s3
      if p.swap then
        (s4.onTile t (fun x => { x with run := { x.run with drain := none } })).checkTile t
      else s4

/-- VLD (R129): one scratchpad row into a vector register. -/
def State.portVld (s : State) (t : Nat) (p : PortSlot) : State :=
  match (s.tile t).agOf p with
  | none => s
  | some r =>
    let q := s.readRow t ((s.tile t).portRow p r)
    q.2.onTile t (fun x => x.setVbits (p.arg.toNat % 32) (rowBits q.1))

/-- VST (R129): one vector register to a scratchpad row. -/
def State.portVst (s : State) (t : Nat) (p : PortSlot) : State :=
  match (s.tile t).agOf p with
  | none => s
  | some r =>
    s.writeRow t ((s.tile t).portRow p r) (toWords (natToBytes 256 ((s.tile t).vbits (p.arg.toNat % 32))))

/-- The route that a tile's `MOUT` names (R119). -/
def State.routeOut (s : State) (id : RunId) (rid : Nat) : Option RouteRec :=
  match (s.slice id.slice).image with
  | none => none
  | some im => (im.groups.flatMap (fun g => g.routes)).find? (fun r => decide (r.src = id.ltile ∧ r.id = rid))

/-- The rows queued for a route at a tile's ejection. -/
def Tile.queued (x : Tile) (rid : Nat) : Nat := (x.ej.filter (fun e => decide (e.1 = rid))).length

/-- Whether `MOUT` has its VC0 credit: a route of n hops passes n + 1 router inputs of 8 flits, two rows, each (R92; DEDUCED, log entry 28).
The destination's router applies the routes of its tile's owner (R121). A replay's flit to another group needs none. -/
def State.moutReady (s : State) (t : Nat) (p : PortSlot) : Bool :=
  let id := s.runId t
  match s.routeOut id p.arg.toNat with
  | none => true
  | some rt =>
    match s.physTile id (groupOf t) rt.dst with
    | none => true
    | some d => (id.replay && decide (rt.dst / 16 ≠ id.lgroup))
      || (decide ((s.tile d).queued p.arg.toNat < 2 * (rt.nhops + 1)) && (id.replay || decide (s.get (TIL_STATE_OWNER d) = id.slice)))

/-- A row whose first word goes on with an error mark where an injection struck (R505; DEDUCED, log entry 13). -/
def markFirst (hit : Bool) (ws : List CWord) : List CWord :=
  match ws with
  | [] => []
  | w :: l => ⟨w.data, w.marked || hit⟩ :: l

/-- MOUT (R121): a scratchpad row leaves on a route. A flit check error fires `DET_004`, and the word goes on marked (R92, R107, R505). -/
def State.portMout (s : State) (t : Nat) (p : PortSlot) : State :=
  match (s.tile t).agOf p with
  | none => s
  | some r =>
    if !s.moutReady t p then s
    else
      let q := s.readRow t ((s.tile t).portRow p r)
      let fl := q.2.flitInject t
      let s1 := fl.2
      let ws := markFirst fl.1 q.1
      let id := s1.runId t
      match s1.routeOut id p.arg.toNat with
      | none => s1
      | some rt =>
        let far := decide (rt.dst / 16 ≠ id.lgroup)
        let s2 := if far then s1.digest id (groupOf t) 0x20 p.arg.toNat (wordsData q.1) else s1
        if id.replay && far then s2
        else
          match s2.physTile id (groupOf t) rt.dst with
          | none => s2
          | some d =>
            let s3 := s2.onTile d (fun x => { x with ej := x.ej ++ [(p.arg.toNat, ws)] })
            if far then s3.journal { id with lgroup := rt.dst / 16, ltile := rt.dst } (.flit rt.dst p.arg.toNat ws) else s3

/-- Whether `MIN` finds its flit (R151). -/
def State.minReady (s : State) (t : Nat) (p : PortSlot) : Bool := decide (0 < (s.tile t).queued p.arg.toNat)

/-- The first row of a route taken from an ejection buffer. -/
def takeRow (rid : Nat) : List (Nat × List CWord) → Option (List CWord) × List (Nat × List CWord)
  | [] => (none, [])
  | e :: l =>
    if e.1 = rid then (some e.2, l)
    else
      let r := takeRow rid l
      (r.1, e :: r.2)

/-- MIN (R151): a row from a route written into the scratchpad. -/
def State.portMin (s : State) (t : Nat) (p : PortSlot) : State :=
  match (s.tile t).agOf p with
  | none => s
  | some r =>
    let q := takeRow p.arg.toNat (s.tile t).ej
    match q.1 with
    | none => s
    | some ws =>
      let row := (s.tile t).portRow p r
      (s.onTile t (fun x => { x with ej := q.2 })).writeRow t row ws

/-! ### Loops (R130) -/

/-- LOOP begin at the current bundle: loaded when entered by falling through. -/
def loopBegin (lc count : Nat) (x : Tile) : Tile :=
  if x.run.branched then x
  else
    let r := { x.run with
      lc := mapSet (fun _ => 0) x.run.lc lc (count + 1)
      lbegin := mapSet (fun _ => 0) x.run.lbegin lc x.run.pc
      liter := mapSet (fun _ => 0) x.run.liter lc 0 }
    { x with run := r }

/-- LOOP end at the current bundle: a further iteration, or falling through, which ends the loop. -/
def loopEnd (lc : Nat) (x : Tile) : Tile :=
  let c := mapGet (fun _ => 0) x.run.lc lc
  let r := if 1 < c then
      { x.run with
        lc := mapSet (fun _ => 0) x.run.lc lc (c - 1)
        liter := mapSet (fun _ => 0) x.run.liter lc (mapGet (fun _ => 0) x.run.liter lc + 1)
        pc := mapGet (fun _ => 0) x.run.lbegin lc
        branched := true }
    else
      { x.run with
        lc := mapSet (fun _ => 0) x.run.lc lc 0
        liter := mapSet (fun _ => 0) x.run.liter lc 0
        pc := x.run.pc + 1
        branched := false }
  { x with run := r }

/-! ### Meanings -/

/-- ACT. -/
def execAct (t : Fin 1024) (p : PortSlot) (s : State) : Answer := .next (s.portAct t p)
/-- WLD. -/
def execWld (t : Fin 1024) (p : PortSlot) (s : State) : Answer := .next (s.portWld t p)
/-- DRN. -/
def execDrn (t : Fin 1024) (p : PortSlot) (s : State) : Answer := .next (s.portDrn t p)
/-- VLD. -/
def execVld (t : Fin 1024) (p : PortSlot) (s : State) : Answer := .next (s.portVld t p)
/-- VST. -/
def execVst (t : Fin 1024) (p : PortSlot) (s : State) : Answer := .next (s.portVst t p)
/-- MOUT. -/
def execMout (t : Fin 1024) (p : PortSlot) (s : State) : Answer := .next (s.portMout t p)
/-- MIN. -/
def execMin (t : Fin 1024) (p : PortSlot) (s : State) : Answer := .next (s.portMin t p)
/-- LOOP_BEGIN. -/
def execLoopBegin (t : Fin 1024) (lc : Fin 4) (count : BitVec 16) (s : State) : Answer :=
  .next (s.onTile t (loopBegin lc count.toNat))
/-- LOOP_END. -/
def execLoopEnd (t : Fin 1024) (lc : Fin 4) (s : State) : Answer := .next (s.onTile t (loopEnd lc))

end Sys2Proof.Machine
end

