-- ==== Sys2Proof/Machine/TileVector.lean ====
section
/-! DEFINITION. The vector slot of a tensor tile's bundle (R131, R566 to R569): 64 lanes of FP32 or INT32, the functions
of R86, reductions (R85), permutations, conversions (R61 to R68) and block quantisation (R51). -/

namespace Sys2Proof.Machine

/-- Whether lane `l` is written (R566). -/
def Tile.laneOn (x : Tile) (v : VecSlot) (l : Nat) : Bool := !v.men || (x.mask v.mreg.toNat).getLsbD l

/-- Lanes of `VD` written from a function of the lane's operands `VA`, `VB` and old `VD`; events are recorded for the
lanes written (R566). -/
def State.vecMap (s : State) (t : Nat) (v : VecSlot) (f : Nat → Word → Word → Word → Word × Nat) : State :=
  let x := s.tile t
  let res (l : Nat) : Word × Nat := f l (x.vreg v.va.toNat l) (x.vreg v.vb.toNat l) (x.vreg v.vd.toNat l)
  let ev := (List.range 64).foldl (fun e l => if x.laneOn v l then evAdd e (res l).2 else e) 0
  (s.setTile t (x.writeLanes v.vd.toNat (x.laneOn v) (fun l => (res l).1))).arith t ev

/-- Lanes written without events. -/
def State.vecPure (s : State) (t : Nat) (v : VecSlot) (f : Word → Word → Word → Word) : State :=
  s.vecMap t v (fun _ a b d => (f a b d, 0))

/-- Lanes written from a function of the lane number. -/
def State.vecPure' (s : State) (t : Nat) (v : VecSlot) (f : Nat → Word) : State := s.vecMap t v (fun l _ _ _ => (f l, 0))

/-- Bits of mask register `VD` written from a relation of the lanes (R567). -/
def State.vecCmp (s : State) (t : Nat) (v : VecSlot) (rel : Word → Word → Bool) : State :=
  let x := s.tile t
  let m := v.vd.toNat % 8
  let old := x.mask m
  let bits := (List.range 64).map (fun l =>
    if x.laneOn v l then rel (x.vreg v.va.toNat l) (x.vreg v.vb.toNat l) else old.getLsbD l)
  s.setTile t (x.setMask m (BitVec.ofNat 64 (bitsToNat bits)))

/-- Signed comparison of lanes. -/
def wlt (a b : Word) : Bool := decide (a.toInt < b.toInt)

/-! ### Functions of R86 -/

/-- FP32 one with a sign. -/
def oneSigned (neg : Bool) : Word := if neg then 0xBF800000 else 0x3F800000
/-- The infinity of a sign. -/
def infSigned (neg : Bool) : Word := if neg then 0xFF800000 else 0x7F800000

/-- Reciprocal (R86); the value of 1/−∞ is not stated and is free (DESIGN CHOICE, log entry 4). -/
def frcp (x : Word) : Word :=
  match ofFP32 x with
  | .nan => nan32
  | .inf n => if n then canon32 (Config.vecFunction 0x22 x) else 0
  | .fin n m e => if m = 0 then infSigned n else within1Ulp (Config.ulpChoice 0x22 x) (divVal (.fin false 1 0) (.fin n m e))

/-- Reciprocal square root (R86). -/
def frsq (x : Word) : Word :=
  match ofFP32 x with
  | .nan => nan32
  | .inf n => if n then nan32 else 0
  | .fin n m e =>
    if m = 0 then infSigned n
    else if n then nan32
    else within1Ulp (Config.ulpChoice 0x23 x) (divVal (.fin false 1 0) (sqrtVal (.fin false m e)))

/-- exp2, opcode 0x24, and exp (R86). -/
def expFun (op : Nat) (x : Word) : Word :=
  if op = 0x24 then exp2Val (Config.vecFunction op x) x else expVal (Config.vecFunction op x) x

/-- log2 and log (R86). -/
def logFun (two : Bool) (op : Nat) (x : Word) : Word := logVal two (Config.vecFunction op x) x

/-- tanh (R86). -/
def ftanh (x : Word) : Word := tanhVal (Config.vecFunction 0x28 x) x

/-- sigmoid (R86). -/
def fsigm (x : Word) : Word := sigmVal (Config.vecFunction 0x29 x) x

/-- sin and cos (R86): a magnitude above 2^20 gives NaN and records `CVT_NAN`. -/
def ftrig (isCos : Bool) (op : Nat) (x : Word) : Word × Nat :=
  if isNan32 x then (nan32, 0)
  else if 0x49800000 < x.toNat % 2 ^ 31 then (nan32, evCvtNan)
  else (trigVal isCos (Config.vecFunction op x) x, 0)

/-! ### Reductions (R85, R569) -/

/-- One stage of a reduction: the lower half of the lanes combined with the upper half. -/
def halve (f : Word → Word → Word) (l : List Word) : List Word :=
  let n := l.length / 2
  (List.range n).map (fun i => f (nth 0 l i) (nth 0 l (i + n)))

/-- The six stages of a reduction. -/
def reduce (f : Word → Word → Word) (l : List Word) : Word :=
  nth 0 (halve f (halve f (halve f (halve f (halve f (halve f l)))))) 0

/-- The signed minimum. -/
def imin (a b : Word) : Word := if wlt b a then b else a
/-- The signed maximum. -/
def imax (a b : Word) : Word := if wlt a b then b else a

/-- `VD` written with a result in lane 0, an index in lane 1, and zero elsewhere (R569). -/
def State.vecScalar (s : State) (t : Nat) (v : VecSlot) (r0 r1 : Word) : State :=
  s.onTile t (fun x => x.writeLanes v.vd.toNat (fun _ => true) (fun l => if l = 0 then r0 else if l = 1 then r1 else 0))

/-- A reduction of FP32 lanes (format 1) or INT32 lanes. -/
def State.vecReduce (s : State) (t : Nat) (v : VecSlot) (ff fi : Word → Word → Word) : State :=
  let l := (s.tile t).lanes v.va.toNat
  s.vecScalar t v (reduce (if v.fmt = 1 then ff else fi) l) 0

/-- The lowest lane that holds a value, or a NaN where the value is one. -/
def laneOf (isF : Bool) (r : Word) (l : List Word) : Nat :=
  (l.findIdx? (fun w => if isF ∧ isNan32 r then isNan32 w else decide (w = r))).getD 0

/-- A reduction with index (R85, R569). -/
def State.vecReduceIdx (s : State) (t : Nat) (v : VecSlot) (ff fi : Word → Word → Word) : State :=
  let l := (s.tile t).lanes v.va.toNat
  let isF := decide (v.fmt = 1)
  let r := reduce (if isF then ff else fi) l
  s.vecScalar t v r (BitVec.ofNat 32 (laneOf isF r l))

/-! ### Conversions (R568) -/

/-- Whether a stochastic conversion into this format is one of R66. -/
def stochFmt (fmt : Nat) : Bool := decide (4 ≤ fmt ∧ fmt ≤ 8)

/-- The conversion number of a stochastic vector conversion, counted (R67). -/
def State.nextConv (s : State) (t : Nat) (on : Bool) : Nat × State :=
  let n := (s.tile t).run.conv
  (n, if on then s.onTile t (fun x => { x with run := { x.run with conv := n + 1 } }) else s)

/-- CVT.TO and CVT.TO.T. -/
def State.cvtTo (s0 : State) (t : Nat) (v : VecSlot) (fmt : Nat) (tern : Bool) : State :=
  let sr := v.vsr && stochFmt fmt
  let c := s0.nextConv t sr
  let s := c.2
  let x := s.tile t
  let res (l : Nat) : Nat × Nat :=
    let w := x.vreg v.va.toNat l
    encodeElem fmt tern (if sr then .stochastic (s.draw t c.1 l) else .nearest)
      (if v.vb = 1 then intVal w.toInt else ofFP32 w)
  if fmtWidth fmt = 32 then s.vecMap t v (fun l _ _ _ => (BitVec.ofNat 32 (res l).1, (res l).2))
  else
    let all := (List.range 64).map res
    (s.setTile t (x.setVbits v.vd.toNat (packElems (fmtWidth fmt) (all.map (fun p => p.1))))).arith t
      (all.foldl (fun e p => evAdd e p.2) 0)

/-- CVT.FROM and CVT.FROM.T: the result kind of `VB` is FP32 (0) or INT32 (1). -/
def State.cvtFrom (s : State) (t : Nat) (v : VecSlot) (fmt : Nat) (tern : Bool) : State :=
  let x := s.tile t
  let bits := x.vbits v.va.toNat
  s.vecMap t v (fun l a _ _ =>
    let e := decodeElem fmt tern (if fmtWidth fmt = 32 then a.toNat else packedElem (fmtWidth fmt) bits l)
    if v.vb = 1 then
      match roundInt e.1 with
      | .inl (some z) => (BitVec.ofInt 32 z, e.2)
      | _ => (0, e.2)
    else (toFP32 e.1, e.2))

/-- QBLK (R51, R568): two blocks of 32 quantised, elements into `VD`, scales into lanes 0 and 1 of `VB`. -/
def State.qblk (s0 : State) (t : Nat) (v : VecSlot) : State :=
  let fmt := v.fmt.toNat
  let sr := v.vsr && stochFmt fmt
  let c := s0.nextConv t sr
  let s := c.2
  let x := s.tile t
  let l := x.lanes v.va.toNat
  let rd (b i : Nat) : Rounding := if sr then .stochastic (s.draw t c.1 (32 * b + i)) else .nearest
  let q0 := quantBlock fmt (rd 0) (l.take 32)
  let q1 := quantBlock fmt (rd 1) (l.drop 32)
  let x1 := x.setVbits v.vd.toNat (packElems (fmtWidth fmt) (q0.2.1 ++ q1.2.1))
  (s.setTile t (x1.setVbits v.vb.toNat (q0.1 + 2 ^ 32 * q1.1))).arith t (evAdd q0.2.2 q1.2.2)

/-- DQBLK (R568). -/
def State.dqblk (s : State) (t : Nat) (v : VecSlot) : State :=
  let x := s.tile t
  let fmt := v.fmt.toNat
  let bits := x.vbits v.va.toNat
  s.vecPure' t v (fun l => toFP32 (blockElem fmt ((x.vreg v.vb.toNat (l / 32)).toNat % 256) (packedElem (fmtWidth fmt) bits l)))

/-- PERM: `VA` permuted (R127). -/
def State.perm (s : State) (t : Nat) (v : VecSlot) : State :=
  let x := s.tile t
  s.vecPure' t v (fun l => x.vreg v.va.toNat (permLane x.cur v.vb.toNat l))

/-- ACCRD: an accumulator column into `VD` (R79). -/
def State.accrd (s : State) (t : Nat) (v : VecSlot) : State :=
  let x := s.tile t
  s.vecPure' t v (fun l => x.cx.accAt l v.va.toNat)

/-! ### Meanings -/

/-- VNOP. -/
def execVnop (_t : Fin 1024) (_v : VecSlot) (s : State) : Answer := .next s
/-- FADD (R44, R58). -/
def State.faddOp (s : State) (t : Nat) (v : VecSlot) : State := s.vecPure t v (fun a b _ => fadd a b)
/-- FSUB (R44, R58). -/
def State.fsubOp (s : State) (t : Nat) (v : VecSlot) : State := s.vecPure t v (fun a b _ => fsub a b)
/-- FMUL (R44, R58). -/
def State.fmulOp (s : State) (t : Nat) (v : VecSlot) : State := s.vecPure t v (fun a b _ => fmul a b)
/-- FFMA (one rounding, R58). -/
def State.ffmaOp (s : State) (t : Nat) (v : VecSlot) : State := s.vecPure t v (fun a b d => ffma a b d)
/-- FMIN (R567). -/
def State.fminOp (s : State) (t : Nat) (v : VecSlot) : State := s.vecPure t v (fun a b _ => fmin a b)
/-- FMAX (R567). -/
def State.fmaxOp (s : State) (t : Nat) (v : VecSlot) : State := s.vecPure t v (fun a b _ => fmax a b)
/-- FABS (R567). -/
def State.fabsOp (s : State) (t : Nat) (v : VecSlot) : State := s.vecPure t v (fun a _ _ => fabs a)
/-- FNEG (R567). -/
def State.fnegOp (s : State) (t : Nat) (v : VecSlot) : State := s.vecPure t v (fun a _ _ => fneg a)
/-- FCLT (R567). -/
def State.fcltOp (s : State) (t : Nat) (v : VecSlot) : State := s.vecCmp t v flt
/-- FCLE (R567). -/
def State.fcleOp (s : State) (t : Nat) (v : VecSlot) : State := s.vecCmp t v fle
/-- FCEQ (R567). -/
def State.fceqOp (s : State) (t : Nat) (v : VecSlot) : State := s.vecCmp t v feq
/-- SEL (R131). -/
def State.selOp (s : State) (t : Nat) (v : VecSlot) : State := s.vecMap t v (fun l a b _ => (if ((s.tile t).mask v.mreg.toNat).getLsbD l then a else b, 0))
/-- IADD (R567). -/
def State.iaddOp (s : State) (t : Nat) (v : VecSlot) : State := s.vecPure t v (fun a b _ => a + b)
/-- ISUB (R567). -/
def State.isubOp (s : State) (t : Nat) (v : VecSlot) : State := s.vecPure t v (fun a b _ => a - b)
/-- IMUL (R567). -/
def State.imulOp (s : State) (t : Nat) (v : VecSlot) : State := s.vecPure t v (fun a b _ => a * b)
/-- IAND (R131). -/
def State.iandOp (s : State) (t : Nat) (v : VecSlot) : State := s.vecPure t v (fun a b _ => a &&& b)
/-- IOR (R131). -/
def State.iorOp (s : State) (t : Nat) (v : VecSlot) : State := s.vecPure t v (fun a b _ => a ||| b)
/-- IXOR (R131). -/
def State.ixorOp (s : State) (t : Nat) (v : VecSlot) : State := s.vecPure t v (fun a b _ => a ^^^ b)
/-- ISHL (R567). -/
def State.ishlOp (s : State) (t : Nat) (v : VecSlot) : State := s.vecPure t v (fun a b _ => a <<< (b.toNat % 32))
/-- ISRA (R567). -/
def State.israOp (s : State) (t : Nat) (v : VecSlot) : State := s.vecPure t v (fun a b _ => a.sshiftRight (b.toNat % 32))
/-- ISRL (R567). -/
def State.isrlOp (s : State) (t : Nat) (v : VecSlot) : State := s.vecPure t v (fun a b _ => a >>> (b.toNat % 32))
/-- IMIN (R567). -/
def State.iminOp (s : State) (t : Nat) (v : VecSlot) : State := s.vecPure t v (fun a b _ => imin a b)
/-- IMAX (R567). -/
def State.imaxOp (s : State) (t : Nat) (v : VecSlot) : State := s.vecPure t v (fun a b _ => imax a b)
/-- ICLT (R567). -/
def State.icltOp (s : State) (t : Nat) (v : VecSlot) : State := s.vecCmp t v wlt
/-- ICEQ (R567). -/
def State.iceqOp (s : State) (t : Nat) (v : VecSlot) : State := s.vecCmp t v (fun a b => decide (a = b))
/-- FDIV (R86). -/
def State.fdivOp (s : State) (t : Nat) (v : VecSlot) : State := s.vecPure t v (fun a b _ => fdiv a b)
/-- FSQRT (R86). -/
def State.fsqrtOp (s : State) (t : Nat) (v : VecSlot) : State := s.vecPure t v (fun a _ _ => fsqrt a)
/-- FRCP (R86). -/
def State.frcpOp (s : State) (t : Nat) (v : VecSlot) : State := s.vecPure t v (fun a _ _ => frcp a)
/-- FRSQ (R86). -/
def State.frsqOp (s : State) (t : Nat) (v : VecSlot) : State := s.vecPure t v (fun a _ _ => frsq a)
/-- FEXP2 (R86). -/
def State.fexp2Op (s : State) (t : Nat) (v : VecSlot) : State := s.vecPure t v (fun a _ _ => expFun 0x24 a)
/-- FEXP (R86). -/
def State.fexpOp (s : State) (t : Nat) (v : VecSlot) : State := s.vecPure t v (fun a _ _ => expFun 0x25 a)
/-- FLOG2 (R86). -/
def State.flog2Op (s : State) (t : Nat) (v : VecSlot) : State := s.vecPure t v (fun a _ _ => logFun true 0x26 a)
/-- FLOG (R86). -/
def State.flogOp (s : State) (t : Nat) (v : VecSlot) : State := s.vecPure t v (fun a _ _ => logFun false 0x27 a)
/-- FTANH (R86). -/
def State.ftanhOp (s : State) (t : Nat) (v : VecSlot) : State := s.vecPure t v (fun a _ _ => ftanh a)
/-- FSIGM (R86). -/
def State.fsigmOp (s : State) (t : Nat) (v : VecSlot) : State := s.vecPure t v (fun a _ _ => fsigm a)
/-- FSIN (R86). -/
def State.fsinOp (s : State) (t : Nat) (v : VecSlot) : State := s.vecMap t v (fun _ a _ _ => ftrig false 0x2A a)
/-- FCOS (R86). -/
def State.fcosOp (s : State) (t : Nat) (v : VecSlot) : State := s.vecMap t v (fun _ a _ _ => ftrig true 0x2B a)
/-- RSUM (R85, R569). -/
def State.rsumOp (s : State) (t : Nat) (v : VecSlot) : State := s.vecReduce t v fadd (fun a b => a + b)
/-- RMAX (R85, R569). -/
def State.rmaxOp (s : State) (t : Nat) (v : VecSlot) : State := s.vecReduce t v fmax imax
/-- RMIN (R85, R569). -/
def State.rminOp (s : State) (t : Nat) (v : VecSlot) : State := s.vecReduce t v fmin imin
/-- RMAXI (R85, R569). -/
def State.rmaxiOp (s : State) (t : Nat) (v : VecSlot) : State := s.vecReduceIdx t v fmax imax
/-- RMINI (R85, R569). -/
def State.rminiOp (s : State) (t : Nat) (v : VecSlot) : State := s.vecReduceIdx t v fmin imin
/-- PERM (R127). -/
def State.permOp (s : State) (t : Nat) (v : VecSlot) : State := s.perm t v
/-- CVT_TO (R568). -/
def State.cvtToOp (s : State) (t : Nat) (v : VecSlot) : State := s.cvtTo t v v.fmt.toNat false
/-- CVT_FROM (R568). -/
def State.cvtFromOp (s : State) (t : Nat) (v : VecSlot) : State := s.cvtFrom t v v.fmt.toNat false
/-- QBLK (R51, R568). -/
def State.qblkOp (s : State) (t : Nat) (v : VecSlot) : State := s.qblk t v
/-- DQBLK (R568). -/
def State.dqblkOp (s : State) (t : Nat) (v : VecSlot) : State := s.dqblk t v
/-- CVT_TO_T (R568). -/
def State.cvtToTOp (s : State) (t : Nat) (v : VecSlot) : State := s.cvtTo t v 11 true
/-- CVT_FROM_T (R568). -/
def State.cvtFromTOp (s : State) (t : Nat) (v : VecSlot) : State := s.cvtFrom t v 11 true
/-- ACCRD (R79). -/
def State.accrdOp (s : State) (t : Nat) (v : VecSlot) : State := s.accrd t v
/-- VMOV (R131). -/
def State.vmovOp (s : State) (t : Nat) (v : VecSlot) : State := s.vecPure t v (fun a _ _ => a)
/-- FADD. -/
def execFadd (t : Fin 1024) (v : VecSlot) (s : State) : Answer := .next (s.faddOp t v)
/-- FSUB. -/
def execFsub (t : Fin 1024) (v : VecSlot) (s : State) : Answer := .next (s.fsubOp t v)
/-- FMUL. -/
def execFmul (t : Fin 1024) (v : VecSlot) (s : State) : Answer := .next (s.fmulOp t v)
/-- FFMA. -/
def execFfma (t : Fin 1024) (v : VecSlot) (s : State) : Answer := .next (s.ffmaOp t v)
/-- FMIN. -/
def execFmin (t : Fin 1024) (v : VecSlot) (s : State) : Answer := .next (s.fminOp t v)
/-- FMAX. -/
def execFmax (t : Fin 1024) (v : VecSlot) (s : State) : Answer := .next (s.fmaxOp t v)
/-- FABS. -/
def execFabs (t : Fin 1024) (v : VecSlot) (s : State) : Answer := .next (s.fabsOp t v)
/-- FNEG. -/
def execFneg (t : Fin 1024) (v : VecSlot) (s : State) : Answer := .next (s.fnegOp t v)
/-- FCLT. -/
def execFclt (t : Fin 1024) (v : VecSlot) (s : State) : Answer := .next (s.fcltOp t v)
/-- FCLE. -/
def execFcle (t : Fin 1024) (v : VecSlot) (s : State) : Answer := .next (s.fcleOp t v)
/-- FCEQ. -/
def execFceq (t : Fin 1024) (v : VecSlot) (s : State) : Answer := .next (s.fceqOp t v)
/-- SEL. -/
def execSel (t : Fin 1024) (v : VecSlot) (s : State) : Answer := .next (s.selOp t v)
/-- IADD. -/
def execIadd (t : Fin 1024) (v : VecSlot) (s : State) : Answer := .next (s.iaddOp t v)
/-- ISUB. -/
def execIsub (t : Fin 1024) (v : VecSlot) (s : State) : Answer := .next (s.isubOp t v)
/-- IMUL. -/
def execImul (t : Fin 1024) (v : VecSlot) (s : State) : Answer := .next (s.imulOp t v)
/-- IAND. -/
def execIand (t : Fin 1024) (v : VecSlot) (s : State) : Answer := .next (s.iandOp t v)
/-- IOR. -/
def execIor (t : Fin 1024) (v : VecSlot) (s : State) : Answer := .next (s.iorOp t v)
/-- IXOR. -/
def execIxor (t : Fin 1024) (v : VecSlot) (s : State) : Answer := .next (s.ixorOp t v)
/-- ISHL. -/
def execIshl (t : Fin 1024) (v : VecSlot) (s : State) : Answer := .next (s.ishlOp t v)
/-- ISRA. -/
def execIsra (t : Fin 1024) (v : VecSlot) (s : State) : Answer := .next (s.israOp t v)
/-- ISRL. -/
def execIsrl (t : Fin 1024) (v : VecSlot) (s : State) : Answer := .next (s.isrlOp t v)
/-- IMIN. -/
def execImin (t : Fin 1024) (v : VecSlot) (s : State) : Answer := .next (s.iminOp t v)
/-- IMAX. -/
def execImax (t : Fin 1024) (v : VecSlot) (s : State) : Answer := .next (s.imaxOp t v)
/-- ICLT. -/
def execIclt (t : Fin 1024) (v : VecSlot) (s : State) : Answer := .next (s.icltOp t v)
/-- ICEQ. -/
def execIceq (t : Fin 1024) (v : VecSlot) (s : State) : Answer := .next (s.iceqOp t v)
/-- FDIV. -/
def execFdiv (t : Fin 1024) (v : VecSlot) (s : State) : Answer := .next (s.fdivOp t v)
/-- FSQRT. -/
def execFsqrt (t : Fin 1024) (v : VecSlot) (s : State) : Answer := .next (s.fsqrtOp t v)
/-- FRCP. -/
def execFrcp (t : Fin 1024) (v : VecSlot) (s : State) : Answer := .next (s.frcpOp t v)
/-- FRSQ. -/
def execFrsq (t : Fin 1024) (v : VecSlot) (s : State) : Answer := .next (s.frsqOp t v)
/-- FEXP2. -/
def execFexp2 (t : Fin 1024) (v : VecSlot) (s : State) : Answer := .next (s.fexp2Op t v)
/-- FEXP. -/
def execFexp (t : Fin 1024) (v : VecSlot) (s : State) : Answer := .next (s.fexpOp t v)
/-- FLOG2. -/
def execFlog2 (t : Fin 1024) (v : VecSlot) (s : State) : Answer := .next (s.flog2Op t v)
/-- FLOG. -/
def execFlog (t : Fin 1024) (v : VecSlot) (s : State) : Answer := .next (s.flogOp t v)
/-- FTANH. -/
def execFtanh (t : Fin 1024) (v : VecSlot) (s : State) : Answer := .next (s.ftanhOp t v)
/-- FSIGM. -/
def execFsigm (t : Fin 1024) (v : VecSlot) (s : State) : Answer := .next (s.fsigmOp t v)
/-- FSIN. -/
def execFsin (t : Fin 1024) (v : VecSlot) (s : State) : Answer := .next (s.fsinOp t v)
/-- FCOS. -/
def execFcos (t : Fin 1024) (v : VecSlot) (s : State) : Answer := .next (s.fcosOp t v)
/-- RSUM. -/
def execRsum (t : Fin 1024) (v : VecSlot) (s : State) : Answer := .next (s.rsumOp t v)
/-- RMAX. -/
def execRmax (t : Fin 1024) (v : VecSlot) (s : State) : Answer := .next (s.rmaxOp t v)
/-- RMIN. -/
def execRmin (t : Fin 1024) (v : VecSlot) (s : State) : Answer := .next (s.rminOp t v)
/-- RMAXI. -/
def execRmaxi (t : Fin 1024) (v : VecSlot) (s : State) : Answer := .next (s.rmaxiOp t v)
/-- RMINI. -/
def execRmini (t : Fin 1024) (v : VecSlot) (s : State) : Answer := .next (s.rminiOp t v)
/-- PERM. -/
def execPerm (t : Fin 1024) (v : VecSlot) (s : State) : Answer := .next (s.permOp t v)
/-- CVT_TO. -/
def execCvtTo (t : Fin 1024) (v : VecSlot) (s : State) : Answer := .next (s.cvtToOp t v)
/-- CVT_FROM. -/
def execCvtFrom (t : Fin 1024) (v : VecSlot) (s : State) : Answer := .next (s.cvtFromOp t v)
/-- QBLK. -/
def execQblk (t : Fin 1024) (v : VecSlot) (s : State) : Answer := .next (s.qblkOp t v)
/-- DQBLK. -/
def execDqblk (t : Fin 1024) (v : VecSlot) (s : State) : Answer := .next (s.dqblkOp t v)
/-- CVT_TO_T. -/
def execCvtToT (t : Fin 1024) (v : VecSlot) (s : State) : Answer := .next (s.cvtToTOp t v)
/-- CVT_FROM_T. -/
def execCvtFromT (t : Fin 1024) (v : VecSlot) (s : State) : Answer := .next (s.cvtFromTOp t v)
/-- ACCRD. -/
def execAccrd (t : Fin 1024) (v : VecSlot) (s : State) : Answer := .next (s.accrdOp t v)
/-- VMOV. -/
def execVmov (t : Fin 1024) (v : VecSlot) (s : State) : Answer := .next (s.vmovOp t v)

/-- The vector operation of an opcode (R131); an opcode of no operation does nothing (the loader refuses it). -/
def State.vecOp (s : State) (t : Nat) (v : VecSlot) : State :=
  match v.op.toNat with
  | 0x01 => s.faddOp t v
  | 0x02 => s.fsubOp t v
  | 0x03 => s.fmulOp t v
  | 0x04 => s.ffmaOp t v
  | 0x05 => s.fminOp t v
  | 0x06 => s.fmaxOp t v
  | 0x07 => s.fabsOp t v
  | 0x08 => s.fnegOp t v
  | 0x09 => s.fcltOp t v
  | 0x0A => s.fcleOp t v
  | 0x0B => s.fceqOp t v
  | 0x0C => s.selOp t v
  | 0x10 => s.iaddOp t v
  | 0x11 => s.isubOp t v
  | 0x12 => s.imulOp t v
  | 0x13 => s.iandOp t v
  | 0x14 => s.iorOp t v
  | 0x15 => s.ixorOp t v
  | 0x16 => s.ishlOp t v
  | 0x17 => s.israOp t v
  | 0x18 => s.isrlOp t v
  | 0x19 => s.iminOp t v
  | 0x1A => s.imaxOp t v
  | 0x1B => s.icltOp t v
  | 0x1C => s.iceqOp t v
  | 0x20 => s.fdivOp t v
  | 0x21 => s.fsqrtOp t v
  | 0x22 => s.frcpOp t v
  | 0x23 => s.frsqOp t v
  | 0x24 => s.fexp2Op t v
  | 0x25 => s.fexpOp t v
  | 0x26 => s.flog2Op t v
  | 0x27 => s.flogOp t v
  | 0x28 => s.ftanhOp t v
  | 0x29 => s.fsigmOp t v
  | 0x2A => s.fsinOp t v
  | 0x2B => s.fcosOp t v
  | 0x30 => s.rsumOp t v
  | 0x31 => s.rmaxOp t v
  | 0x32 => s.rminOp t v
  | 0x33 => s.rmaxiOp t v
  | 0x34 => s.rminiOp t v
  | 0x38 => s.permOp t v
  | 0x40 => s.cvtToOp t v
  | 0x41 => s.cvtFromOp t v
  | 0x42 => s.qblkOp t v
  | 0x43 => s.dqblkOp t v
  | 0x44 => s.cvtToTOp t v
  | 0x45 => s.cvtFromTOp t v
  | 0x48 => s.accrdOp t v
  | 0x50 => s.vmovOp t v
  | _ => s

end Sys2Proof.Machine
end

