-- ==== Sys2Proof/Machine/Mover.lean ====
section
/-! DEFINITION. A tile's mover and scoreboard (R89, R93 to R96, R163, R565): operations issued into entries, taken by
contexts, split into requests, answered, and completed. -/

namespace Sys2Proof.Machine

/-! ### Scratchpad bytes -/

/-- The pieces of a byte range that lie in one row each: address and length. -/
def rowPieces (a n : Nat) : List (Nat × Nat) :=
  (List.range ((a + n + 255) / 256 - a / 256)).map (fun i =>
    let lo := max a (256 * (a / 256 + i))
    (lo, min (a + n) (256 * (a / 256 + i) + 256) - lo))

/-- Whether every byte of an access lies in the requester's region (R88). -/
def State.spadOk (s : State) (t : Nat) (radio : Bool) (a n : Nat) : Bool :=
  (rowPieces a n).all (fun p => s.rowOk t radio ((p.1 / 256 : Nat) : Int))

/-- `n` bytes of a scratchpad from byte address `a` for a requester of slice 0 or of a tenant (R90); an access outside the
region is not performed and reads as zeros (R88). -/
def State.spadRead (s : State) (t : Nat) (radio : Bool) (a n : Nat) : List MByte × State :=
  if !s.spadOk t radio a n then (zerosM n, s.fireTile 6 t a)
  else (rowPieces a n).foldl (fun (acc : List MByte × State) p =>
    let w0 := p.1 % 256 / 16
    let q := acc.2.spadWords t (acc.2.physRow t (p.1 / 256)) w0 ((p.1 % 256 + p.2 + 15) / 16 - w0)
    (acc.1 ++ ((wordsM q.1).drop (p.1 % 16)).take p.2, q.2)) ([], s)

/-- The words of a row that a write of `n` bytes from byte `a` of it covers in part: they are read and merged (R89). -/
def partWords (a n : Nat) : List Nat :=
  (List.range 16).filter (fun w => decide (a < 16 * w + 16 ∧ 16 * w < a + n ∧ ¬ (a ≤ 16 * w ∧ 16 * w + 16 ≤ a + n)))

/-- Whether a group refuses access: it is sealed and a wipe runs (R469, item 1). -/
def State.groupRefuses (s : State) (g : Nat) : Bool :=
  s.flag HOL_TAMPER_WIPING && s.pairBit HOL_SEAL_GROUPS_LO_SEAL HOL_SEAL_GROUPS_HI_SEAL g

/-- Bytes written to a scratchpad; `true` where a part-word merge met an uncorrectable word (R88, R89). The merge reads as any
read does (R90, R107). -/
def State.spadWrite (s : State) (t : Nat) (radio : Bool) (a : Nat) (data : List MByte) : Bool × State :=
  if !s.spadOk t radio a data.length then (false, s.fireTile 6 t a)
  else if !radio && s.groupRefuses (groupOf t) then (false, s)
  else (rowPieces a data.length).foldl (fun (acc : Bool × State) p =>
    let row := acc.2.physRow t (p.1 / 256)
    let s1 := (partWords (p.1 % 256) p.2).foldl (fun b w => (b.spadWords t row w 1).2) acc.2
    let m := (s1.tile t).spad.writeM (256 * row + p.1 % 256) ((data.drop (p.1 - a)).take p.2)
    (acc.1 || m.2, s1.onTile t (fun x => { x with spad := m.1 }))) (false, s)

/-! ### Issue (R93, R96) -/

/-- The first scoreboard entry, context and the store of a schedule (R95, R117). -/
def scbBase (radio : Bool) : Nat := if radio then 48 else 0
/-- The first context of a schedule's range. -/
def ctxBase (radio : Bool) : Nat := if radio then 12 else 0

/-- A scoreboard entry. -/
def Tile.entry (x : Tile) (e : Nat) : ScbEntry := mapGet (fun _ => ScbEntry.empty) x.scb e

/-- The lowest-numbered FREE entry of the running schedule's range (R96). -/
def Tile.freeEntry (x : Tile) : Option Nat :=
  ((List.range x.cur.scb).map (fun e => scbBase x.run.radio + e)).find? (fun e => decide ((x.entry e).st = .free))

/-- An operation allocated and queued. -/
def issueIn (id : RunId) (seg : Nat) (d : MoverRec) (e : Nat) (x : Tile) : Tile :=
  let en : ScbEntry := ⟨.issued, d.op.toNat, 0, d.laddr.toNat, d.len.toNat, x.run.issued, 0⟩
  let o : MvOp := ⟨d, id.slice, id.step, id.ltile, x.run.issued, seg, e, 0, [], 0, false, none, [], false, x.born⟩
  { x with scb := mapSet (fun _ => ScbEntry.empty) x.scb e en, mvq := x.mvq ++ [o], born := x.born + 1 }

/-- The schedule issues a mover operation (R96); with every entry of its range in use it holds, and nothing happens. -/
def State.moverIssue (s : State) (t : Nat) (d : MoverRec) : State :=
  match (s.tile t).freeEntry with
  | none => s
  | some e => (s.onTile t (issueIn (s.runId t) (s.group (groupOf t)).seg d e)).refreshTile t

/-- An operation of kind `op`. -/
def withOp (op : Nat) (d : MoverRec) : MoverRec := { d with op := BitVec.ofNat 4 op }

/-! ### Contexts (R94) -/

/-- The operation a context holds. -/
def Tile.ctx (x : Tile) (c : Nat) : Option MvOp := mapGet (fun _ => none) x.ctxs c
/-- A context's operation replaced. -/
def Tile.setCtx (x : Tile) (c : Nat) (o : Option MvOp) : Tile := { x with ctxs := mapSet (fun _ => none) x.ctxs c o }

/-- The oldest operation of a class (slice 0 or a tenant) taken from a queue. -/
def takeOp (radio : Bool) : List MvOp → Option MvOp × List MvOp
  | [] => (none, [])
  | o :: l =>
    if decide (o.slice = 0) = radio then (some o, l)
    else
      let r := takeOp radio l
      (r.1, o :: r.2)

/-- Whether context `c` is one that takes operations of the class (R94, R95, R117). -/
def Tile.ctxServes (x : Tile) (c : Nat) (radio : Bool) : Bool :=
  let n := if radio then x.rstore.ctx else x.store.ctx
  decide (ctxBase radio ≤ c ∧ c < ctxBase radio + n)

/-- An IDLE context takes the oldest queued operation of a class it serves (R94, item 1). -/
def State.ctxTake (s : State) (t c : Nat) : State :=
  let x := s.tile t
  if (x.ctx c).isSome then s
  else
    let go (radio : Bool) : Option State :=
      if x.ctxServes c radio then
        let q := takeOp radio x.mvq
        q.1.map (fun o =>
          let x1 := { x with mvq := q.2 }
          let e := { x1.entry o.entry with ctx := c }
          let x2 := { x1 with scb := mapSet (fun _ => ScbEntry.empty) x1.scb o.entry e }
          (s.setTile t (x2.setCtx c (some o))).refreshTile t)
      else none
    ((go true).orElse (fun _ => go false)).getD s

/-- The work that a tile's operation is for. -/
def State.opId (s : State) (t : Nat) (o : MvOp) : RunId :=
  ⟨o.slice, o.step, o.ltile / 16, o.ltile, (s.replayOn (groupOf t)).isSome && decide (o.slice ≠ 0)⟩

/-- The contexts in the order the mover tries them: round-robin after the one that issued last (R94). -/
def Tile.ctxOrder (x : Tile) : List Nat := (List.range 16).map (fun i => (x.lastCtx + 1 + i) % 16)

/-- The first READY context in that order. -/
def Tile.readyCtx (x : Tile) : Option Nat := x.ctxOrder.find? (fun c => decide (ctxState moverTotal x c = 1))

/-- The remote scratchpad address of a record (R126). -/
def recRaddr (d : MoverRec) : Nat := d.remote.toNat % 2 ^ 20
/-- The remote logical tile of a record. -/
def recRtile (d : MoverRec) : Nat := d.remote.toNat / 2 ^ 20 % 1024

/-- The kinds that carry data out of the tile's own scratchpad (R565; an atomic its operand and compare value, R369). -/
def opSends (op : Nat) : Bool := [0, 2, 4, 6, 8, 9, 10, 11].contains op
/-- The kinds whose reply is written into the tile's own scratchpad. -/
def opReceives (op : Nat) : Bool := [0, 1, 3, 5, 7, 11].contains op

/-- The address a unit of an operation goes to (R126). -/
def unitAddr (d : MoverRec) (off : Nat) : Nat :=
  if d.op = 0 ∨ d.op = 1 ∨ d.op = 2 then recRaddr d + off
  else if d.op = 3 ∨ d.op = 4 then d.remote.toNat % 2 ^ 40 + off
  else d.remote.toNat + off

/-- A context's operation changed. -/
def State.onOp (s : State) (t c : Nat) (f : MvOp → MvOp) : State :=
  s.onTile t (fun x => x.setCtx c ((x.ctx c).map f))

/-- Request `k` of those outstanding in a context. -/
def State.reqAt (s : State) (t c k : Nat) : Option (MvOp × MvReq) :=
  match (s.tile t).ctx c with
  | none => none
  | some o => (o.out[k]?).map (fun q => (o, q))

/-- The reply of a request posted. -/
def State.post (s : State) (t c idx : Nat) (data : List MByte) (cause : Nat) : State :=
  s.onOp t c (fun o =>
    let onReq (q : MvReq) : MvReq := if q.idx = idx then { q with reply := some (data, cause) } else q
    { o with out := o.out.map onReq })

/-- The journal line that answers a replay's request, if it is there (R515). -/
def State.journalReply (s : State) (id : RunId) (pos idx : Nat) : Option (List MByte × Nat) :=
  (s.integ.journals.find? (fun j => decide (j.slice = id.slice ∧ j.step = id.step ∧ j.lgroup = id.lgroup))).bind (fun j =>
    j.lines.findSome? (fun e => match e with
      | .reply l p i d c => if l = id.ltile ∧ p = pos ∧ i = idx then some (d, c) else none
      | _ => none))

/-- The kind byte of an effect in a digest (R516): mover kinds by their number, `FOP` for fabric kinds. -/
def effectKind (d : MoverRec) : Nat := if 7 ≤ d.op.toNat then 0x40 + d.fop.toNat else d.op.toNat

/-- The first word of a flit's data goes on marked where an injection struck (R92, R107, R505; DEDUCED, log entry 13). -/
def markHead (hit : Bool) (d : List MByte) : List MByte :=
  if hit then (d.take 16).map (fun b => (b.1, true)) ++ d.drop 16 else d

/-- A request of context `c` made: the data it carries read from the scratchpad, its digest, and, for what needs no
unit outside the tile or is not performed in a replay, its reply. The answer is the state and the request. -/
def State.makeRequest (s0 : State) (t c : Nat) (o : MvOp) : State × MvReq :=
  let op := o.desc.op.toNat
  let pc := moverPiece o.desc o.next
  let off := pc.2.1
  let len := pc.2.2
  let radio := decide (o.slice = 0)
  let id := s0.opId t o
  let src := if op = 0 then recRaddr o.desc + off else o.desc.laddr.toNat + off
  let rd := if opSends op then s0.spadRead t radio src len else ([], s0)
  let far := decide (recRtile o.desc / 16 ≠ id.lgroup)
  let addr := unitAddr o.desc pc.1
  let tag := if 7 ≤ op then addr
    else addr + 2 ^ 40 * (o.pos % 2 ^ 20) + (if op = 4 ∧ o.desc.remote.toNat / 2 ^ 63 = 1 then 2 ^ 63 else 0)
  let s1 := if op = 2 ∧ !far ∨ op = 0 ∨ op = 1 ∨ op = 3 ∨ op = 5 ∨ op = 7 then rd.2
    else rd.2.digest id (groupOf t) (effectKind o.desc) tag (bytesM rd.1)
  let own : Option (List MByte × Nat) :=
    if op = 0 then some (rd.1, causeNone)
    else if id.replay then
      (if op = 2 ∧ far ∨ op = 8 ∨ op = 9 ∨ op = 10 then some ([], causeNone)
        else if op = 1 ∧ far ∨ op = 7 ∨ op = 11 then s1.journalReply id o.pos o.next
        else none)
    else none
  let fl := if op = 0 then (false, s1) else s1.flitInject t
  let q : MvReq := ⟨o.next, off, len, addr, none, markHead fl.1 rd.1, own⟩
  (fl.2.onOp t c (fun p => { p with
    next := p.next + 1
    out := p.out ++ [q]
    cause := if p.cause = 0 ∧ markedM rd.1 then causeData else p.cause }), q)

/-- Whether a reply's check bits are wrong: an armed injection of point 6 makes them so (R107). Its first word is then written marked (R505). -/
def State.replyInject (s : State) (t : Nat) : Bool × State :=
  if s.tileInj t 6 then (true, (s.fireTile 5 t 0).put (TIL_INJECT_ARM t) 0) else (false, s)

/-- MOVER_REPLY: the reply of outstanding request `k` of context `c` is written (R94, item 5; R565). -/
def State.moverReply (s0 : State) (t c k : Nat) : State :=
  match s0.reqAt t c k with
  | none => s0
  | some (o, q) =>
    match q.reply with
    | none => s0
    | some (data, cause) =>
      let op := o.desc.op.toNat
      let fl := if op = 0 then (false, s0) else s0.flitInject t
      let inj := fl.2.replyInject t
      let got := markHead (fl.1 || inj.1) data
      let wr := if opReceives op && decide (cause = causeNone ∨ data ≠ []) then
          inj.2.spadWrite t (decide (o.slice = 0)) (o.desc.laddr.toNat + q.off) (got.take q.len)
        else (false, inj.2)
      let bad := if cause ≠ causeNone then cause
        else if inj.1 || wr.1 || markedM got then causeData else causeNone
      let s1 := wr.2.onOp t c (fun p => { p with
        out := p.out.eraseIdx k
        cause := if p.cause = causeNone then bad else p.cause })
      s1.refreshTile t

/-- Whether context `c` holds an operation that has ended (R94); a `FENCE` once every earlier operation of the tile, of whichever
slice, is DONE or ERROR (R93). -/
def Tile.opEnded (x : Tile) (c : Nat) : Bool :=
  match x.ctx c with
  | none => false
  | some o =>
    if o.desc.op = 12 then
      !((x.ctxs.filterMap (fun p => p.2)) ++ x.mvq).any (fun p => decide (p.born < o.born))
    else decide (moverTotal o.desc ≤ o.next) && o.out.isEmpty

/-- MOVER_OP_DONE: the operation ended, its entry becomes DONE or ERROR with its effect on the step (R96, R163).
An operation of a discarded step only frees its entry (R339). -/
def State.moverDone (s : State) (t c : Nat) : State :=
  let x := s.tile t
  match x.ctx c with
  | none => s
  | some o =>
    if x.opEnded c then
      let e := { x.entry o.entry with st := if o.cause = causeNone then .done else .error, cause := o.cause }
      let x1 := { x with scb := if o.dead then mapErase o.entry x.scb else mapSet (fun _ => ScbEntry.empty) x.scb o.entry e }
      let s1 := (s.setTile t (x1.setCtx c none)).refreshTile t
      if o.dead then s1 else s1.errorEffect t (s.opId t o) o.pos o.cause
    else s

/-- TILE_INCOMING_ACCESS: request `k` of a `TILE_RD` or `TILE_WR` of context `c` is served by the target tile's mover
(R94, item 7). A target that is off ends it with an error completion (R35). -/
def State.incoming (s : State) (t c k : Nat) : State :=
  match s.reqAt t c k with
  | none => s
  | some (o, q) =>
    if q.reply.isSome ∨ ¬ (o.desc.op = 1 ∨ o.desc.op = 2) then s
    else
      let id := s.opId t o
      let far := decide (recRtile o.desc / 16 ≠ id.lgroup)
      match s.physTile id (groupOf t) (recRtile o.desc) with
      | none => s.post t c q.idx [] causeRefused
      | some d =>
        if !s.groupOn (groupOf d) then (s.post t c q.idx [] causeOff).fireTile 9 t 0
        else
          let radio := decide (o.slice = 0)
          let idT : RunId := { id with lgroup := recRtile o.desc / 16, ltile := recRtile o.desc }
          let issue := (s.tile d).run.issued
          if o.desc.op = 1 then
            let r := s.spadRead d radio q.addr q.len
            let s1 := if far then
                ((r.2.digest idT (groupOf d) 1 q.addr (bytesM r.1)).journal idT (.access (recRtile o.desc) issue false q.addr q.len [])).journal id
                  (.reply id.ltile o.pos q.idx r.1 causeNone)
              else r.2
            s1.post t c q.idx r.1 causeNone
          else
            let s1 := if far then s.journal idT (.access (recRtile o.desc) issue true q.addr q.len q.data) else s
            let w := s1.spadWrite d radio q.addr q.data
            w.2.post t c q.idx [] (if w.1 then causeData else causeNone)

/-! ### Meanings -/

/-- COPY: issued (R93). Its requests move own scratchpad to own scratchpad. -/
def execCopy (t : Fin 1024) (d : MoverRec) (s : State) : Answer := .next (s.moverIssue t (withOp 0 d))
/-- TILE_RD: issued (R93). -/
def execTileRd (t : Fin 1024) (d : MoverRec) (s : State) : Answer := .next (s.moverIssue t (withOp 1 d))
/-- TILE_WR: issued (R93). -/
def execTileWr (t : Fin 1024) (d : MoverRec) (s : State) : Answer := .next (s.moverIssue t (withOp 2 d))
/-- TIER_RD: issued (R93). -/
def execTierRd (t : Fin 1024) (d : MoverRec) (s : State) : Answer := .next (s.moverIssue t (withOp 3 d))
/-- TIER_WR: issued (R93). -/
def execTierWr (t : Fin 1024) (d : MoverRec) (s : State) : Answer := .next (s.moverIssue t (withOp 4 d))
/-- KV_RD: issued (R93, R219). -/
def execKvRd (t : Fin 1024) (d : MoverRec) (s : State) : Answer := .next (s.moverIssue t (withOp 5 d))
/-- KV_WR: issued (R93, R218). -/
def execKvWr (t : Fin 1024) (d : MoverRec) (s : State) : Answer := .next (s.moverIssue t (withOp 6 d))
/-- FAB_RD: issued (R93). -/
def execFabRd (t : Fin 1024) (d : MoverRec) (s : State) : Answer := .next (s.moverIssue t (withOp 7 d))
/-- FAB_WR: issued (R93, R164). -/
def execFabWr (t : Fin 1024) (d : MoverRec) (s : State) : Answer := .next (s.moverIssue t (withOp 8 d))
/-- FAB_RED: issued (R93, R374). -/
def execFabRed (t : Fin 1024) (d : MoverRec) (s : State) : Answer := .next (s.moverIssue t (withOp 9 d))
/-- FAB_MCAST: issued (R93, R378). -/
def execFabMcast (t : Fin 1024) (d : MoverRec) (s : State) : Answer := .next (s.moverIssue t (withOp 10 d))
/-- FAB_ATOM: issued (R93, R377). -/
def execFabAtom (t : Fin 1024) (d : MoverRec) (s : State) : Answer := .next (s.moverIssue t (withOp 11 d))
/-- FENCE: issued (R93). -/
def execFence (t : Fin 1024) (d : MoverRec) (s : State) : Answer := .next (s.moverIssue t (withOp 12 d))
/-- CONTEXT_TAKE_OP. -/
def execContextTakeOp (t : Fin 1024) (c : Fin 16) (s : State) : Answer := .next (s.ctxTake t c)
/-- MOVER_REPLY. -/
def execMoverReply (t : Fin 1024) (c k : Fin 16) (s : State) : Answer := .next (s.moverReply t c k)
/-- MOVER_OP_DONE. -/
def execMoverOpDone (t : Fin 1024) (c : Fin 16) (s : State) : Answer := .next (s.moverDone t c)
/-- TILE_INCOMING_ACCESS. -/
def execTileIncomingAccess (t : Fin 1024) (c k : Fin 16) (s : State) : Answer := .next (s.incoming t c k)

end Sys2Proof.Machine
end

