-- ==== Sys2Proof/Machine/Bundle.lean ====
section
/-! DEFINITION. A tile's bundle (R129, R130, R149 to R151): what holds it, what its slots do, and where the schedule
goes on. -/

namespace Sys2Proof.Machine

/-- A field of a bundle: word `w`, bits `lo + wd - 1 : lo`. -/
def bunField (b : BitVec 128) (w lo wd : Nat) : Nat := bitField b.toNat (32 * w + lo) wd

/-- The port slot of a bundle (R129). -/
def bunPort (b : BitVec 128) : PortSlot :=
  ⟨BitVec.ofNat 3 (bunField b 0 0 3), BitVec.ofNat 3 (bunField b 0 3 3), BitVec.ofNat 12 (bunField b 0 6 12),
    BitVec.ofNat 6 (bunField b 0 18 6), decide (bunField b 0 24 1 = 1), decide (bunField b 0 25 1 = 1),
    decide (bunField b 0 26 1 = 1), BitVec.ofNat 2 (bunField b 0 28 2)⟩

/-- The vector slot of a bundle, with `VSR` of word 3 (R129, R130). -/
def bunVec (b : BitVec 128) : VecSlot :=
  ⟨BitVec.ofNat 8 (bunField b 1 0 8), BitVec.ofNat 5 (bunField b 1 8 5), BitVec.ofNat 5 (bunField b 1 13 5),
    BitVec.ofNat 5 (bunField b 1 18 5), BitVec.ofNat 3 (bunField b 1 23 3), decide (bunField b 1 26 1 = 1),
    BitVec.ofNat 5 (bunField b 1 27 5), decide (bunField b 3 29 1 = 1)⟩

/-- The operation of a port slot (R129). -/
def State.portOp (s : State) (t : Nat) (p : PortSlot) : State :=
  match p.pop.toNat with
  | 1 => s.portAct t p
  | 2 => s.portWld t p
  | 3 => s.portDrn t p
  | 4 => s.portVld t p
  | 5 => s.portVst t p
  | 6 => s.portMout t p
  | 7 => s.portMin t p
  | _ => s

/-- The MOVER record that a bundle issues, if it issues one (R130). -/
def Tile.bunMover (x : Tile) (b : BitVec 128) : Option MoverRec :=
  if bunField b 2 12 1 = 1 then (x.cur.addr[bunField b 2 0 12]?).map moverOf else none

/-- Whether nothing holds a bundle (R130): its `WAIT` entry is DONE or ERROR, its flit or credit is there, and an
operation finds a free entry. -/
def State.bundleReady (s : State) (t : Nat) (b : BitVec 128) : Bool :=
  let x := s.tile t
  let p := bunPort b
  let st := (x.entry (bunField b 2 13 6)).st
  let wait := decide (bunField b 2 19 1 = 0) || decide (st = .done ∨ st = .error)
  wait && (decide (p.pop ≠ 6) || s.moutReady t p) && (decide (p.pop ≠ 7) || s.minReady t p)
    && ((x.bunMover b).isNone || x.freeEntry.isSome)

/-- Accesses that the journal gives for this point of a replay are made before the bundle issues (R515). -/
def State.replayAccesses (s : State) (t : Nat) : State :=
  let id := s.runId t
  if id.replay then
    match s.integ.journals.find? (fun j => decide (j.slice = id.slice ∧ j.step = id.step ∧ j.lgroup = id.lgroup)) with
    | none => s
    | some j => j.lines.foldl (fun a e => match e with
        | .access l i wr addr len data =>
          if l = id.ltile ∧ i = (s.tile t).run.issued then
            (if wr then (a.spadWrite t false addr data).2
              else
                let r := a.spadRead t false addr len
                r.2.digest id (groupOf t) 1 addr (bytesM r.1))
          else a
        | _ => a) s
  else s

/-- An entry released when its bundle retires (R96, R130). -/
def releaseEntry (e : Nat) (x : Tile) : Tile := { x with scb := mapErase e x.scb }

/-- Where the schedule goes on after a bundle: loop end, the next bundle, or the end of the body (R130, R153). -/
def advance (b : BitVec 128) (x : Tile) : Tile :=
  let loop := bunField b 3 0 2
  let x1 := if 2 ≤ loop then loopEnd (bunField b 3 2 2) x
    else { x with run := { x.run with pc := x.run.pc + 1, branched := false } }
  let r := { x1.run with issued := x1.run.issued + 1, idle := bunField b 3 20 8 }
  if bunField b 3 28 1 = 1 then { x1 with run := { r with running := false, ended := true } } else { x1 with run := r }

/-- A drain that a bundle's port slot does not go on with is over (R129). -/
def endDrain (p : PortSlot) (x : Tile) : Tile :=
  if p.pop = 3 then x else { x with run := { x.run with drain := none } }

/-- The slots of a bundle, all issued in one cycle: each reads registers as they were before it. Where both begin a stochastic conversion, the
vector slot's has the lower number (R67; DESIGN CHOICE, log entry 104). -/
def State.bundleSlots (s : State) (t : Nat) (b : BitVec 128) : State :=
  let p := bunPort b
  let v := bunVec b
  let s1 := s.onTile t (endDrain p)
  let s2 := if p.pop = 5 then (s1.portOp t p).vecOp t v else (s1.vecOp t v).portOp t p
  match (s.tile t).bunMover b with
  | none => s2
  | some d => s2.moverIssue t d

/-- The current bundle of a tile. -/
def Tile.bundle (x : Tile) : Option (BitVec 128) := x.cur.bundles[x.run.pc]?

/-- TILE_BUNDLE_ISSUE (R130): one TCLK of a running schedule. An `IDLE` cycle passes; a held bundle waits; otherwise
the bundle issues, its entry is released, and the schedule advances. -/
def State.bundleIssue (s0 : State) (t : Nat) : State :=
  let x := s0.tile t
  if !x.run.running then s0
  else if 0 < x.run.idle then s0.onTile t (fun y => { y with run := { y.run with idle := y.run.idle - 1 } })
  else
    match x.bundle with
    | none => s0
    | some b =>
      if !s0.bundleReady t b then s0
      else
        let s1 := s0.replayAccesses t
        let loop := bunField b 3 0 2
        let s2 := if loop = 1 ∨ loop = 3 then s1.onTile t (loopBegin (bunField b 3 2 2) (bunField b 3 4 16)) else s1
        let s3 := s2.bundleSlots t b
        let s4 := if bunField b 2 26 1 = 1 then s3.onTile t (releaseEntry (bunField b 2 20 6)) else s3
        (s4.onTile t (advance b)).refreshTile t

/-- TILE_BUNDLE_ISSUE. -/
def execTileBundleIssue (t : Fin 1024) (s : State) : Answer := .next (s.bundleIssue t)

end Sys2Proof.Machine
end

