-- ==== Sys2Proof/Machine/TimeOps.lean ====
section
/-! DEFINITION. The corrected time (R424, R425), the frame and window grid (R278, R333), and Ethernet ports in use (R407). -/

namespace Sys2Proof.Machine

/-- One tick of TMCLK in units of 2^-32 ns (R424). -/
def tickUnits : Nat := 0x140000000

/-- The corrected time at raw counter `c` (R425), modulo 2^96. -/
def State.timeAt (s : State) (c : Nat) : Nat :=
  let d : Int := ((c + 2 ^ 96 - s.time.anchor) % 2 ^ 96 : Nat)
  let r : Int := signed 32 (s.get TIM_RATE_RATE)
  (((c : Int) + s.time.off + (r * d) / 2 ^ 40) % 2 ^ 96).toNat

/-- The corrected time T (R425); until the time PLL locks it reads 0 (R441). -/
def State.now (s : State) : Nat := if s.time.counts then s.timeAt s.time.raw else 0
/-- T in whole nanoseconds. -/
def State.nowNs (s : State) : Nat := s.now / 2 ^ 32

/-- A time-block event. -/
def State.timEvent (s : State) (f : Fld) : State := s.event f 6

/-- Ports in use (R407). -/
def State.ethInUse (s : State) (p : Nat) : Bool :=
  let m := s.get (ETH_QUAD_CFG_MODE (p / 4))
  decide (m = 0) || (decide (m = 1) && decide (p % 2 = 0)) || (decide (m = 2) && decide (p % 4 = 0))

/-- An Ethernet port is UP and holds FEC lock (R408). -/
def State.ethUp (s : State) (p : Nat) : Bool := decide (s.get (ETH_PORT_STATUS_STATE p) = 2) && s.flag (ETH_PORT_STATUS_FEC_LOCK p)

/-- A SyncE output squelched (R434). -/
def State.squelch (s : State) (i : Nat) : State :=
  if s.flag (TIM_SYNCE_SQ i) then s else (s.put (TIM_SYNCE_SQ i) 1).timEvent TIM_EVENT_SYNCE_SQ

/-- The SyncE outputs of a port that is no longer UP with FEC lock are squelched (R434). -/
def State.squelchPort (s : State) (p : Nat) : State :=
  [0, 1].foldl (fun a i => if a.flag (TIM_SYNCE_EN i) && decide (a.get (TIM_SYNCE_PORT i) = p) && !a.ethUp p then a.squelch i else a) s

/-- The nanoseconds of T into the current radio frame, in units of 2^-32 ns (R278). -/
def State.inFrame (s : State) : Nat :=
  let off := s.get BBA_FRAME_CFG_OFF_NS * 2 ^ 32
  (s.now + 10000000 * 2 ^ 32 - off % (10000000 * 2 ^ 32)) % (10000000 * 2 ^ 32)

/-- The frame number (R278). -/
def State.sfnNow (s : State) : Nat :=
  ((s.nowNs + 10000000 * 1024 - s.get BBA_FRAME_CFG_OFF_NS % (10000000 * 1024)) / 10000000) % 1024

/-- The window of the frame that T lies in: one window is 7,812.5 ns (R333). -/
def State.windowNow (s : State) : Nat := s.inFrame * 2 / (15625 * 2 ^ 32)

/-- A requester's shadow of a value's upper bits replaced (R9). -/
def State.latch (s : State) (who : Requester) (key upper : Nat) : State :=
  { s with shadows := ⟨who, key, upper⟩ :: s.shadows.filter (fun x => decide (x.who ≠ who ∨ x.key ≠ key)) }

/-- A read of a multi-word value's low word (R9): the upper words are latched and the low word returned. -/
def State.readWide (s : State) (who : Requester) (key v : Nat) : State :=
  (s.latch who key (v / 2 ^ 32)).complete who .ok (natToBytes 4 v)

/-! ### Pulse outputs (R435 to R437) -/

/-- A pulse output. -/
def State.pulse (s : State) (i : Nat) : Pulse := mapGet (fun _ => Pulse.idle) s.time.pulses i
/-- A pulse output replaced. -/
def State.setPulse (s : State) (i : Nat) (x : Pulse) : State :=
  let tm := s.time
  { s with time := { tm with pulses := mapSet (fun _ => Pulse.idle) tm.pulses i x } }

/-- `START` of an output, in ns. -/
def State.pulseStart (s : State) (i : Nat) : Nat := s.get64 (TIM_PULSE_START_LO_START i) (TIM_PULSE_START_HI_START i)

/-- The smallest scheduled time of a periodic output that is not earlier than T = `t` (R435). -/
def State.pulseGrid (s : State) (i t : Nat) : Nat :=
  let st := s.pulseStart i
  let ns := (t + 2 ^ 32 - 1) / 2 ^ 32
  let p := s.get (TIM_PULSE_PERIOD_PERIOD i)
  if ns ≤ st ∨ p = 0 then st else st + (ns - st + p - 1) / p * p

/-- An output goes active for its width in ticks; while its driver is off the pulse is lost (R435, R438). -/
def State.pulseGo (s : State) (i : Nat) : State :=
  let s1 := s.setPulse i { s.pulse i with endAt := s.raw + tickUnits * ((4 * s.get (TIM_PULSE_WIDTH_WIDTH i) + 4) / 5) }
  s1.putIf (!s.flag (TIM_PULSE_CTRL_DRV_OFF i)) (TIM_PULSE_CTRL_ACTIVE i) 1

/-- A one-shot fires: `EN` returns to 0, and a late one says so (R435, R437). -/
def State.oneShot (s : State) (i : Nat) (late : Bool) : State :=
  let s1 := (s.pulseGo i).put (TIM_PULSE_CTRL_EN i) 0
  let s2 := s1.setPulse i { s1.pulse i with next := none, late := false }
  if late then (s2.put (TIM_PULSE_CTRL_LATE i) 1).timEvent TIM_EVENT_PULSE_LATE else s2

/-- An enabled output follows an accepted step (R437): T is that of the first tick after it. -/
def State.pulseStep (s : State) (i : Nat) : State :=
  if s.flag (TIM_PULSE_CTRL_EN i) then
    let t := s.timeAt (s.time.raw + tickUnits)
    if s.flag (TIM_PULSE_CTRL_MODE i) then s.setPulse i { s.pulse i with next := some (s.pulseGrid i t) }
    else if s.pulseStart i * 2 ^ 32 < t then s.setPulse i { s.pulse i with late := true }
    else s
  else s

/-- The steps accepted in this tick take effect at its end: O moves, the outputs follow, and windows may come again (R428, R429, R437,
R351). -/
def State.tickEnd (s : State) : State :=
  let tm := s.time
  if tm.due = 0 then s
  else
    let o : Nat := (((tm.off : Int) + tm.due) % 2 ^ 96).toNat
    let s1 : State := { s with time := { tm with off := o, due := 0 }, cyc := { s.cyc with again := s.cyc.again || decide (tm.due < 0) } }
    (List.range 8).foldl (fun a i => a.pulseStep i) s1

/-- One tick of TMCLK passes with no command waiting: what was due at its end takes effect, and the part's clock and, once the time PLL
has locked, the raw counter advance (R424, DESIGN CHOICE, log entry 22). -/
def State.idle (s : State) : State :=
  let s1 := s.tickEnd
  let tm := s1.time
  { s1 with
    raw := s1.raw + tickUnits
    time := if tm.counts then { tm with raw := (tm.raw + tickUnits) % 2 ^ 96 } else tm }

/-- The FIFO of a capture input, oldest first (R440). -/
def State.capture (s : State) (j : Nat) : List CapEntry := mapGet (fun _ => []) s.time.caps j
/-- A capture FIFO replaced; `COUNT` follows it. -/
def State.setCapture (s : State) (j : Nat) (l : List CapEntry) : State :=
  let tm := s.time
  State.put { s with time := { tm with caps := mapSet (fun _ => []) tm.caps j l } } (TIM_CAP_CFG_COUNT j) l.length

/-- Whether an edge at an elapsed time is closer than a tick to the last one recorded at an input (R439). -/
def State.edgeClose (s : State) (j t : Nat) : Bool :=
  match mapFind j s.time.edges with
  | some x => decide (t < x + tickUnits)
  | none => false
/-- An edge recorded at an elapsed time. -/
def State.noteEdge (s : State) (j t : Nat) : State :=
  let tm := s.time
  { s with time := { tm with edges := mapInsert j t (mapErase j tm.edges) } }

end Sys2Proof.Machine
end

