-- ==== Sys2Proof/Machine/HollowOps.lean ====
section
/-! DEFINITION. What other blocks ask of the hollow: waking the warden (R460), the event log (R474, R475), and messages for
the Salet bus (R494, R495). -/

namespace Sys2Proof.Machine

/-- The hollow changed. -/
def State.onHol (s : State) (f : HolRt → HolRt) : State := { s with hol := f s.hol }
/-- The Salet modem changed. -/
def State.onSal (s : State) (f : SalRt → SalRt) : State := { s with sal := f s.sal }

/-- An event that the warden has to see to (R460). -/
def State.wakeWarden (s : State) : State := s.onHol (fun h => { h with wake := true })
/-- A hollow event. -/
def State.holEvent (s : State) (f : Fld) : State := s.event f 8
/-- A Salet event: each wakes the warden. -/
def State.salEvent (s : State) (f : Fld) : State := (s.event f 8).wakeWarden

/-! ### Messages (R494, R495) -/

/-- A bus. -/
def State.salBus (s : State) (b : Bool) : SalBus := if b then s.sal.busB else s.sal.busA
/-- A bus changed. -/
def State.onBus (s : State) (b : Bool) (f : SalBus → SalBus) : State :=
  s.onSal (fun r => if b then { r with busB := f r.busB } else { r with busA := f r.busA })
/-- A peer on a bus. -/
def State.salPeer (s : State) (b : Bool) (n : Nat) : SalPeer := mapGet (fun _ => SalPeer.none) (s.salBus b).peers n
/-- A peer on a bus changed. -/
def State.onPeer (s : State) (b : Bool) (n : Nat) (f : SalPeer → SalPeer) : State :=
  s.onBus b (fun x => { x with peers := mapSet (fun _ => SalPeer.none) x.peers n (f (mapGet (fun _ => SalPeer.none) x.peers n)) })
/-- The number of a bus. -/
def busNo (b : Bool) : Nat := if b then 1 else 0

/-- This node's number. -/
def State.salNode (s : State) : Nat := s.get SAL_CFG_NODE

/-- The probes that a first message to a peer calls for: on each bus without a table from it (R491). -/
def State.firstProbes (s : State) (dst : Nat) : List (Nat × Bool) :=
  if (mapFind dst s.sal.lastTx).isSome then []
  else [false, true].filterMap (fun b => if (s.salPeer b dst).tx.isNone then some (dst, b) else none)

/-- A message queued for sending under the next number towards its destination (R494). A message to the node itself is
none. -/
def State.salQueue (s : State) (dst : Nat) (bcast : Bool) (mtype : Nat) (body : List Byte) (bus : Option Bool) (user : Bool) : State :=
  if !bcast ∧ dst = s.salNode then s
  else
    let k := if bcast then 64 else dst
    let n := mapGet (fun _ => 0) s.sal.seq k
    let due := if bcast then [] else s.firstProbes dst
    let m : SalTx := ⟨dst, bcast, mtype, n, 0, body, 0, false, bus, if bcast then [false, true] else [], user⟩
    s.onSal (fun r => { r with
      seq := mapSet (fun _ => 0) r.seq k ((n + 1) % 2 ^ 16)
      txq := r.txq ++ [m]
      probes := r.probes ++ due
      lastTx := if bcast then r.lastTx else mapInsert dst s.ms (mapErase dst r.lastTx) })

/-- A message of the part's own to `MGMT_NODE`, sent while the modem is enabled. -/
def State.salReport (s : State) (mtype : Nat) (body : List Byte) : State :=
  if s.flag SAL_CFG_EN then s.salQueue (s.get SAL_CFG_MGMT_NODE) false mtype body none false else s

/-! ### The event log (R474, R475) -/

/-- A record's 32 bytes. -/
def logBytes (l : LogRec) : List Byte :=
  natToBytes 4 (l.body.kind % 256 + 2 ^ 8 * (l.body.det % 256) + 2 ^ 16 * (l.body.inst % 2 ^ 16)) ++ natToBytes 4 l.seq
    ++ natToBytes 8 l.time ++ natToBytes 4 l.body.w4 ++ natToBytes 4 l.body.w5 ++ natToBytes 4 l.body.w6 ++ natToBytes 4 l.body.w7

/-- The time word of a record: T in ns, or AOCLK ticks since power-up with bit 63 set. -/
def State.logTime (s : State) : Nat :=
  if s.time.counts then s.nowNs % 2 ^ 63 else 2 ^ 63 + s.raw * 32768 / (2 ^ 32 * 1000000000) % 2 ^ 63

/-- Whether records of a kind are retained (R475). -/
def retainedKind (k : Nat) : Bool := decide (2 ≤ k ∧ k ≤ 6)

/-- A record logged: into the flash partition first if its kind is retained and there is room, then into the ring. -/
def State.logRec (s : State) (r : Rec) : State :=
  let l : LogRec := ⟨s.hol.next, s.logTime, r⟩
  let keep := retainedKind r.kind
  let s1 := if keep ∧ s.hol.kept.length < 4096 then s.onHol (fun h => { h with kept := h.kept ++ [l] })
    else if keep then s.holEvent HOL_EVENT_RETAIN_FULL else s
  s1.onHol (fun h => { h with next := (h.next + 1) % 2 ^ 32, log := (h.log ++ [l]).drop (h.log.length + 1 - 2048) })

/-- The newest record of the log sent over the Salet bus (R495). -/
def State.sendNewest (s : State) : State :=
  match s.hol.log.getLast? with
  | none => s
  | some l => s.salReport 3 (logBytes l)

/-- A record that the warden makes of its own. -/
def State.wardenLog (s : State) (kind src inst temp w7 : Nat) : State := s.logRec ⟨kind, src, inst, temp, 0, 0, w7⟩

/-- Word 4 of a record of the hollow itself: its own sensor and supply (R470, R474). -/
def State.holTemp (s : State) : Nat := s.word4 5 (s.get (HOL_SENS_TEMP 24))

end Sys2Proof.Machine
end

