-- ==== Sys2Proof/Machine/HostTier.lean ====
section
/-! DEFINITION. Tier accesses of the host through BAR 2 and of the host cores (R443 to R445, R453): device addresses for
the manager, slice-relative offsets for a slice, and the requests held until a tier opens (R202). -/

namespace Sys2Proof.Machine

/-- The newest committed copy of the 16-byte chunk at a device address, of whichever slice's line lies there (R166). -/
def State.committedAt (s : State) (tierB : Bool) (a : Nat) : Option CWord :=
  let f (p : Nat × SliceRt) : Option CWord :=
    findChunk tierB (a / 256 * 256) (a % 256 / 16) (p.2.committed.map (fun l =>
      if l.tierB = tierB then { l with off := (s.translate p.1 (tierWin tierB) l.off).getD (2 ^ 64) } else l))
  (s.slices.filterMap f).head?

/-- One chunk of a device address: committed or home data. -/
def State.devChunk (s : State) (tierB : Bool) (a : Nat) : Option CWord × State :=
  match s.committedAt tierB a with
  | some c => (some c, s)
  | none =>
    let r := s.devRead tierB a 16 0
    (r.1.map (fun d => ⟨bytesM d, markedM d⟩), r.2)

/-- `n` chunks from a device address. -/
def State.devChunks (s : State) (tierB : Bool) (a : Nat) : Nat → Option (List CWord) × State
  | 0 => (some [], s)
  | n + 1 =>
    let r := s.devChunk tierB a
    match r.1 with
    | none => (none, r.2)
    | some c =>
      let q := State.devChunks r.2 tierB (a + 16) n
      (q.1.map (fun l => c :: l), q.2)

/-- Committed data at a device address, with its marks. -/
def State.devView (s : State) (tierB : Bool) (a n : Nat) : Option (List MByte) × State :=
  let r := s.devChunks tierB (a / 16 * 16) ((a + n + 15) / 16 - a / 16)
  (r.1.map (fun l => ((wordsM l).drop (a % 16)).take n), r.2)

/-- The length of an access. -/
def accLen : Access → Nat
  | .read n => n
  | .write d => d.length

/-- How a requester is told that an access may not be made: a core by an access fault, the host by Unsupported Request
(R444, R453). -/
def refusedAs : Requester → Cpl
  | .core _ => .fault
  | _ => .ur

/-- A read's completion (R442, R453): marked data is a core's access fault, and has the EP bit for the host, which fires `DET_098` (R507). -/
def State.readDone (s : State) (who : Requester) (sl : Nat) (r : Option (List MByte)) : State :=
  match r with
  | none => s.complete who .err []
  | some d =>
    if markedM d then
      (match who with
        | .core _ => s.complete who .fault []
        | _ => (s.fire 98 0 4 sl 0).complete who .ep (bytesM d))
    else s.complete who .ok (bytesM d)

/-- An access to an open tier (R444, R445, R453): reads return committed data, writes go to the home location. -/
def State.tierPerform (s : State) (q : HeldTier) : State :=
  let n := accLen q.acc
  match q.slice with
  | none =>
    if !inTier q.tierB (q.off + n - 1) then s.complete q.who (refusedAs q.who) []
    else
      match q.acc with
      | .read _ => let r := s.devView q.tierB q.off n; r.2.readDone q.who 0 r.1
      | .write d =>
        let r := s.devWrite q.tierB q.off (cleanM d)
        (r.2.logDevice q.tierB q.off n).complete q.who (if r.1 then .err else .ok) []
  | some sl =>
    if !s.live sl then s.complete q.who (refusedAs q.who) []
    else if !s.rangeOk sl q.tierB q.off n then (s.tally (SLC_REFUSE sl)).complete q.who (refusedAs q.who) []
    else
      match q.acc with
      | .read _ => let r := s.viewRead sl (s.viewLines sl false) q.tierB q.off n; r.2.readDone q.who sl r.1
      | .write d => let r := s.homeWrite sl q.tierB q.off (cleanM d); r.2.complete q.who (if r.1 then .err else .ok) []

/-- An access, held while its tier is not open (R202). An access of no bytes has no effect. -/
def State.tierAccess (s : State) (q : HeldTier) : State :=
  if accLen q.acc = 0 then s.complete q.who .ok []
  else if s.tierOpen q.tierB then s.tierPerform q
  else s.onPcie (fun p => { p with tierQ := p.tierQ ++ [q] })

/-- The accesses that waited for a tier are made (R202). -/
def State.tierOpened (s : State) (tierB : Bool) : State :=
  let now := s.pcie.tierQ.filter (fun q => decide (q.tierB = tierB))
  now.foldl (fun a q => a.tierPerform q) (s.onPcie (fun p => { p with tierQ := p.tierQ.filter (fun q => decide (q.tierB ≠ tierB)) }))

end Sys2Proof.Machine
end

