-- ==== Sys2Proof/Machine/RegWrite.lean ====
section
/-! DEFINITION. How a register write is applied by its access codes (R10 to R13), and the power of the instance a
register belongs to (R38, R104). -/

namespace Sys2Proof.Machine

/-- The new value of a register's field under its access code, as part of the register (R10, R13). `W1S` bits start
something and read 0 but for the `ARM` bits, which their own commands set. -/
def applyRow (locked : Bool) (old v : Nat) (acc : Nat) (r : RegRow) : Nat :=
  let o := bitField old r.lo r.wd
  let w := bitField v r.lo r.wd
  let n := match r.acc with
    | .rw => w
    | .w1c => o - Nat.land o w
    | .rwl => if locked then o else w
    | _ => o
  bitPut acc r.lo r.wd n

/-- The bits of a register that belong to a field. -/
def rowsMask : List RegRow → Nat
  | [] => 0
  | r :: t => Nat.lor ((2 ^ r.wd - 1) * 2 ^ r.lo) (rowsMask t)

/-- Whether a write would change a locked field (R13). -/
def lockHit (old v : Nat) (rows : List RegRow) : Bool :=
  rows.any (fun r => decide (r.acc = .rwl ∧ bitField old r.lo r.wd ≠ bitField v r.lo r.wd))

/-- A write of 1 to a reserved bit of a register is noted, whatever becomes of the write's other bits (R12). -/
def State.noteRsvd (s : State) (key : Nat) (v : Word) : State :=
  match regFind key regTable with
  | none => s
  | some d => if Nat.land v.toNat (2 ^ 32 - 1 - rowsMask d.rows) ≠ 0 then s.put (fRsvdWr (statusOfKey key)) 1 else s

/-- A write applied by its register's access codes, with `RSVD_WR` for 1s in reserved bits and `LOCK_WR` for a changed
locked field (R10 to R13). -/
def State.writeCodes (s : State) (key : Nat) (v : Word) (locked : Bool) : State :=
  match regFind key regTable with
  | none => s.put (fRsvdWr (statusOfKey key)) 1
  | some d =>
    let old := (s.reg key).toNat
    let new := d.rows.foldl (applyRow locked old v.toNat) old
    let s1 := s.setReg key (BitVec.ofNat 32 new)
    let s2 := if locked ∧ lockHit old v.toNat d.rows then s1.put (fLockWr (statusOfKey key)) 1 else s1
    s2.noteRsvd key v

/-- The tile whose registers the `TIL_` aperture shows. -/
def State.winTile (s : State) : Nat := s.get PLN_TILE_WINDOW_TILE

/-- Whether the registers of a tile are reached (R38, R104). -/
def State.tileReach (s : State) (t : Nat) : Bool := s.present (groupOf t) && s.groupOn (groupOf t)

/-- An access to a tile's register: made when the tile is powered, else noted in `PWR_OFF_ACC` (R38, R104). -/
def State.ifTile (s : State) (t : Nat) (f : State → State) : State :=
  if s.tileReach t then f s else s.put (fPwrOff (tileStatus t)) 1

end Sys2Proof.Machine
end

