-- ==== Sys2Proof/Machine/StreamOps.lean ====
section
/-! DEFINITION. Operations of the stream engine: profile and stream-table fields (R209, R210, R242), staged updates of
entries, page tables and free rings (R215 to R218), the output queue (R239), and KV accesses (R219 to R224). -/

namespace Sys2Proof.Machine

/-! ### Little-endian fields of byte blocks -/

/-- `n` bytes from offset `off` of a block as a number. -/
def leField (l : List Byte) (off n : Nat) : Nat := bytesToNat ((l.drop off).take n)
/-- A block with bytes replaced from offset `off`. -/
def blockPut (l : List Byte) (off : Nat) (b : List Byte) : List Byte := l.take off ++ b ++ l.drop (off + b.length)

/-! ### The profile (R242) -/

/-- KV row bytes. -/
def rowBytes (p : List Byte) : Nat := 16 * leField p 0 2
/-- `LAYERS`. -/
def profLayers (p : List Byte) : Nat := leField p 2 2
/-- `CHUNK`. -/
def profChunk (p : List Byte) : Nat := leField p 4 2
/-- `IN_LOG2`. -/
def profInLog (p : List Byte) : Nat := leField p 6 1
/-- `CMDQ_LOG2`. -/
def profCmdLog (p : List Byte) : Nat := leField p 7 1
/-- `CMDQ`. -/
def profCmdq (p : List Byte) : Nat := leField p 8 8
/-- `OUTQ_CONS`. -/
def profOutCons (p : List Byte) : Nat := leField p 0x28 8
/-- `OUTQ`. -/
def profOutq (p : List Byte) : Nat := leField p 0x10 8
/-- `OUTQ_LOG2`. -/
def profOutLog (p : List Byte) : Nat := leField p 0x18 1
/-- `OUTQ_PROD`. -/
def profOutProd (p : List Byte) : Nat := leField p 0x20 8
/-- The offset of a free ring. -/
def profFree (p : List Byte) (tierB : Bool) : Nat := leField p (if tierB then 0x38 else 0x30) 8 % 2 ^ 40
/-- `FREE_LOG2`. -/
def profFreeLog (p : List Byte) : Nat := leField p 0x40 1
/-- The shape's entry for tree index `j`. -/
def shapeWord (p : List Byte) (j : Nat) : Nat := leField p (0xC0 + 2 * j) 2
/-- The parent of tree index `j`. -/
def shapeParent (p : List Byte) (j : Nat) : Nat := shapeWord p j % 64
/-- The rank of tree index `j` among its parent's children. -/
def shapeRank (p : List Byte) (j : Nat) : Nat := shapeWord p j / 64 % 16
/-- Whether the shape marks tree index `j`. -/
def shapeMarked (p : List Byte) (j : Nat) : Bool := decide (shapeWord p j / 2 ^ 15 % 2 = 1)
/-- The depth of tree index `j`, searched `f` levels up. -/
def shapeDepth (p : List Byte) : Nat → Nat → Nat
  | 0, _ => 0
  | f + 1, j => if j = 0 then 0 else 1 + shapeDepth p f (shapeParent p j)
/-- The depth of a node in the tree (R213). -/
def nodeDepth (p : List Byte) (j : Nat) : Nat := shapeDepth p 64 j

/-- A field of operand record `i` (R227). -/
def opField (p : List Byte) (i w lo wd : Nat) : Nat := bitField (leField p (0x800 + 32 * i + 4 * w) 4) lo wd
/-- `KIND` of operand `i`. -/
def opKind (p : List Byte) (i : Nat) : Nat := opField p i 0 0 3
/-- A 40-bit offset in words `w` and `w + 1` of operand `i`. -/
def opOff (p : List Byte) (i w : Nat) : Nat := leField p (0x800 + 32 * i + 4 * w) 8 % 2 ^ 40

/-- Whether the shape passes (R232). -/
def shapeOk (p : List Byte) : Bool :=
  decide (shapeParent p 0 = 0) &&
  (List.range 63).all (fun i =>
    let j := i + 1
    decide (shapeParent p j < j) && (!shapeMarked p j ||
      (shapeMarked p (shapeParent p j) && decide (nodeDepth p j ≤ 16)
        && (List.range i).all (fun i2 => !(shapeMarked p (i2 + 1) && decide (shapeParent p (i2 + 1) = shapeParent p j
              ∧ shapeRank p (i2 + 1) = shapeRank p j))))))

/-- Whether an operand record's fields are in range (R227). -/
def opOk (p : List Byte) (i : Nat) : Bool :=
  let k := opKind p i
  decide (k = 0) ||
    (decide (k ≤ 4) && decide (1 ≤ opField p i 0 3 5 ∧ opField p i 0 3 5 ≤ 3)
      && (decide (k ≠ 2) || decide (1 ≤ opField p i 0 8 5 ∧ opField p i 0 8 5 ≤ 16))
      && decide (1 ≤ opField p i 1 0 20 ∧ opField p i 1 0 20 ≤ 524288)
      && decide (1 ≤ opField p i 4 16 7 ∧ opField p i 4 16 7 ≤ 64))

/-- Whether a profile passes its check (R242). -/
def profileOk (p : List Byte) : Bool :=
  let inR (v lo hi : Nat) : Bool := decide (lo ≤ v ∧ v ≤ hi)
  inR (leField p 0 2) 1 1024 && inR (profLayers p) 1 4095 && inR (profChunk p) 1 4096 && inR (profInLog p) 8 20
    && inR (profCmdLog p) 4 16 && inR (profOutLog p) 4 20 && inR (profFreeLog p) 8 24
    && decide (leField p 8 8 % 32 = 0) && decide (profOutq p % 16 = 0)
    && (List.range 4).all (fun i => decide (leField p (0x8C + 16 * i) 4 % 16 = 0 ∧ leField p (0x8C + 16 * i) 4 ≤ 65536))
    && shapeOk p && (List.range 64).all (opOk p)

/-! ### Stream-table entries (R209, R210) -/

/-- The device address of stream `n`'s entry. -/
def entryAddr (n : Nat) : Nat := (287 + 288 * (n % 4)) * 2 ^ 28 + 128 * (n / 4)

/-- A field of an entry. -/
def entGet (e : List Byte) (w lo wd : Nat) : Nat := bitField (leField e (4 * w) 4) lo wd
/-- A field of an entry replaced. -/
def entPut (e : List Byte) (w lo wd v : Nat) : List Byte :=
  blockPut e (4 * w) (natToBytes 4 (bitPut (leField e (4 * w) 4) lo wd v))
/-- `STATE`: 0 FREE, 1 OPEN, 2 HALTED, 3 FULL, 4 ERROR. -/
def entState (e : List Byte) : Nat := entGet e 0 0 3
/-- `LEN`. -/
def entLen (e : List Byte) : Nat := entGet e 1 0 21
/-- `AVAIL`. -/
def entAvail (e : List Byte) : Nat := entGet e 2 0 21
/-- `BUDGET`. -/
def entBudget (e : List Byte) : Nat := entGet e 3 0 21
/-- `IN_OFF`. -/
def entIn (e : List Byte) : Nat := leField e 48 8 % 2 ^ 40
/-- `PT_OFF`. -/
def entPt (e : List Byte) : Nat := leField e 56 8 % 2 ^ 40
/-- `PT_PAGES`. -/
def entPages (e : List Byte) : Nat := entGet e 16 0 13
/-- `STATE` and `CAUSE` set. -/
def entStop (e : List Byte) (st cause : Nat) : List Byte := entPut (entPut e 0 0 3 st) 0 12 4 cause

/-- A stream's entry as the table holds it; one in a failed pseudo-channel is taken as FREE, all zeros (DESIGN CHOICE, log entry
118: R206 gives the engine no reading for it). -/
def State.entryHome (s : State) (sid : Nat) : List Byte :=
  if s.chanFailed false (entryAddr sid) then List.replicate 128 0 else (s.mem.tierA.readBytes (entryAddr sid) 128).1
/-- The engine's read of a stream's entry for slice `sl`, with its decode (R204, R208). -/
def State.readEntry (s : State) (sl sid : Nat) : State := (s.devRead false (entryAddr sid) 128 sl).2
/-- A stream's entry written to the table. -/
def State.setEntry (s : State) (sid : Nat) (e : List Byte) : State :=
  (s.devWrite false (entryAddr sid) (cleanM (e.take 128))).2

/-- The update of stream `sid` that a deferred effect makes, if it is one. -/
def Deferred.entryFor (sid : Nat) (d : Deferred) : Option (List Byte) :=
  match d.eff with
  | .stream i e => if i = sid then some e else none
  | _ => none

/-- A stream's entry in the slice's own view: the newest uncommitted update, or the table's (R212). -/
def State.entryOf (s : State) (sl sid : Nat) : List Byte :=
  (((s.slice sl).steps.flatMap (fun r => r.deferred.filterMap (Deferred.entryFor sid))).getLast?).getD (s.entryHome sid)

/-- A deferred effect joins step `n`; an update of a stream replaces the step's earlier one of that stream. -/
def State.defer (s : State) (sl n : Nat) (d : Deferred) : State :=
  let keep (x : Deferred) : Bool := match d.eff with
    | .stream i _ => (x.entryFor i).isNone
    | _ => true
  s.onSlice sl (fun x => { x with steps := x.steps.map (fun r =>
    if r.num = n then { r with deferred := r.deferred.filter keep ++ [d] } else r) })

/-- A stream's entry replaced as a staged effect of step `n`. -/
def State.stageEntry (s : State) (sl n slot sid : Nat) (e : List Byte) : State :=
  s.defer sl n ⟨2, 0, slot, .stream sid e⟩

/-- The streams granted to a slice (R209). -/
def State.ownsStream (s : State) (sl sid : Nat) : Bool :=
  decide (s.get (SLC_STRM_BASE_VALUE sl) ≤ sid ∧ sid < s.get (SLC_STRM_BASE_VALUE sl) + s.get (SLC_STRM_COUNT_VALUE sl))

/-! ### The output queue (R239) -/

/-- An entry of the output queue. -/
def outEntry (sid kind code : Nat) (pos token prob : Nat) : List Byte :=
  natToBytes 4 (sid + 2 ^ 20 * kind + 2 ^ 24 * code) ++ natToBytes 4 pos ++ natToBytes 4 token ++ natToBytes 4 prob

/-- An entry written at the producer index. A TOKEN entry is counted. -/
def State.outPut (s : State) (sl : Nat) (e : List Byte) : State :=
  let r := s.stream sl
  let s1 := s.hostWrite sl (profOutq r.prof + 16 * (r.outProd % 2 ^ profOutLog r.prof)) e
  let s2 := s1.onStream sl (fun x => { x with outProd := (x.outProd + 1) % 2 ^ 32 })
  if leField e 0 4 / 2 ^ 20 % 16 = 0 then s2.tally (STM_SLC_TOKENS sl) else s2

/-- The producer index written and the doorbell interrupt raised. -/
def State.outBell (s : State) (sl : Nat) : State :=
  (s.hostWrite sl (profOutProd (s.stream sl).prof) (natToBytes 4 (s.stream sl).outProd)).raise (64 + 16 * sl + 1)

/-- A stream event of a slice. -/
def State.stmEvent (s : State) (sl : Nat) (f : Fld) : State := s.event f (64 + 16 * sl + 2)

/-! ### Page tables (R215, R216) -/

/-- A page-table entry: its offset, tier, MOVING and VALID (R216). -/
def pteOff (p : Nat) : Nat := p % 2 ^ 40
/-- `TIER_B`. -/
def pteB (p : Nat) : Bool := decide (p / 2 ^ 40 % 2 = 1)
/-- `VALID`. -/
def pteValid (p : Nat) : Bool := decide (p / 2 ^ 63 % 2 = 1)
/-- `MOVING`. -/
def pteMoving : Nat := 2 ^ 41
/-- An entry naming a page. -/
def pteMake (off : Nat) (tierB : Bool) : Nat := off % 2 ^ 40 + (if tierB then 2 ^ 40 else 0) + 2 ^ 63

/-- The slice-relative offset of the entry of layer `l`, page `q` of a stream (R215). -/
def pteAt (e : List Byte) (l q : Nat) : Nat := entPt e + 8 * (l * entPages e + q)

/-- Eight bytes of the slice's tier A as the engine reads them. -/
def State.stmRead8 (s : State) (sl off : Nat) : Nat × State :=
  let r := s.viewRead sl (s.viewLines sl true) false off 8
  (match r.1 with | some d => bytesToNat (bytesM d) | none => 0, r.2)

/-- The page-table entry of layer `l`, page `q`. -/
def State.pte (s : State) (sl : Nat) (e : List Byte) (l q : Nat) : Nat × State := s.stmRead8 sl (pteAt e l q)

/-- A page-table entry written (logged as the slice's write, R326). -/
def State.setPte (s : State) (sl : Nat) (e : List Byte) (l q v : Nat) : State :=
  (s.homeWrite sl false (pteAt e l q) (cleanM (natToBytes 8 v))).2

/-! ### The page mover (R198 to R201) -/

/-- A field of a descriptor. -/
def PmDesc.get (d : PmDesc) (w lo wd : Nat) : Nat := bitField (nth (0 : Word) d.words w).toNat lo wd
/-- `SLICE`. -/
def PmDesc.slice (d : PmDesc) : Nat := d.get 0 8 6
/-- `SRC_B`. -/
def PmDesc.srcB (d : PmDesc) : Bool := decide (d.get 0 16 1 = 1)
/-- `DST_B`. -/
def PmDesc.dstB (d : PmDesc) : Bool := decide (d.get 0 17 1 = 1)
/-- `SRC`. -/
def PmDesc.src (d : PmDesc) : Nat := d.get 1 0 32 + 2 ^ 32 * d.get 2 0 8
/-- `DST`. -/
def PmDesc.dst (d : PmDesc) : Nat := d.get 3 0 32 + 2 ^ 32 * d.get 4 0 8
/-- Bytes of the range. -/
def PmDesc.bytes (d : PmDesc) : Nat := 256 * d.get 5 0 21

/-- Whether a reserved bit of a descriptor is set. -/
def PmDesc.rsvd (d : PmDesc) : Bool :=
  decide (d.get 0 2 6 ≠ 0 ∨ d.get 0 14 2 ≠ 0 ∨ d.get 0 18 6 ≠ 0 ∨ d.get 2 8 24 ≠ 0 ∨ d.get 4 8 24 ≠ 0 ∨ d.get 5 21 11 ≠ 0
    ∨ d.get 6 20 12 ≠ 0 ∨ d.get 7 24 8 ≠ 0)

/-- The page that a MOVE names, if it is the source and belongs to the slice: its layer and page number. -/
def State.pmPage (s : State) (d : PmDesc) : Option (Nat × Nat) × State :=
  let sl := d.slice
  let sid := d.get 6 0 20
  let l := d.get 7 12 12
  let q := d.get 7 0 12
  let e := s.entryHome sid
  if s.ownsStream sl sid ∧ entState e ≠ 0 ∧ entGet e 0 3 6 = sl ∧ l < profLayers (s.stream sl).prof ∧ q < entPages e then
    let r := s.pte sl e l q
    (if pteValid r.1 ∧ pteOff r.1 = d.src ∧ pteB r.1 = d.srcB then some (l, q) else none, r.2)
  else (none, s)

/-- Whether a descriptor is ill-formed (R198): its operation, a reserved bit, an unaligned offset; `LINES` outside 1 to 1,048,576
too (DEDUCED, log entry 24). -/
def PmDesc.badForm (d : PmDesc) : Bool :=
  let op := d.get 0 0 2
  decide (op = 3) || d.rsvd || decide (d.get 5 0 21 = 0 ∨ 2 ^ 20 < d.get 5 0 21) || decide (d.dst % 256 ≠ 0)
    || (decide (op ≠ 2) && decide (d.src % 256 ≠ 0))

/-- Whether a line of a range that the descriptor uses fails translation (R183, R198). -/
def State.pmUnmapped (s : State) (d : PmDesc) : Bool :=
  !s.rangeOk d.slice d.dstB d.dst d.bytes || (decide (d.get 0 0 2 ≠ 2) && !s.rangeOk d.slice d.srcB d.src d.bytes)

/-- Whether a descriptor is refused (R198). -/
def State.pmRefused (s : State) (d : PmDesc) : Bool :=
  let op := d.get 0 0 2
  d.badForm || s.pmUnmapped d
    || (decide (op ≠ 2) && decide (d.srcB = d.dstB) && decide (d.src < d.dst + d.bytes ∧ d.dst < d.src + d.bytes))
    || (decide (op = 0) && (s.pmPage d).1.isNone)

/-- The refusal of a descriptor counted where a translation was refused (R315): its form is right and a line has no translation. -/
def State.pmCount (s : State) (d : PmDesc) : State :=
  if !d.badForm && s.pmUnmapped d then s.tally (SLC_REFUSE d.slice) else s

/-- The head of the queue given a result. -/
def State.pmSet (s : State) (r : Nat) : State :=
  match s.mem.pm with
  | [] => s
  | d :: t => { s with mem := { s.mem with pm := { d with res := some r } :: t } }

/-- Home contents of line `off`, with the marks of words in error; an error completion reads as words in error. -/
def State.homeLine (s : State) (sl : Nat) (tierB : Bool) (off : Nat) : List MByte × State :=
  match s.translate sl (tierWin tierB) off with
  | none => (List.replicate 256 (0, true), s)
  | some da =>
    let r := s.devRead tierB da 256 sl
    (r.1.getD (List.replicate 256 (0, true)), r.2)

/-- Lines copied by `read`, and whether any word was in error. -/
def State.pmLines (s : State) (d : PmDesc) (read : State → Nat → List MByte × State) : Bool × State :=
  (List.range (d.bytes / 256)).foldl (fun (acc : Bool × State) i =>
    let r := read acc.2 (d.src + 256 * i)
    (acc.1 || markedM r.1, (r.2.homeWrite d.slice d.dstB (d.dst + 256 * i) r.1).2)) (false, s)

/-- A staged line of a moved page named by its destination (R199). -/
def moveLine (d : PmDesc) (l : StLine) : StLine :=
  if l.tierB = d.srcB ∧ d.src ≤ l.off ∧ l.off < d.src + d.bytes then { l with tierB := d.dstB, off := d.dst + (l.off - d.src) } else l

/-- The descriptor at the head, if it waits to be performed and has operation `op`. -/
def State.pmHead (s : State) (op : Nat) : Option PmDesc :=
  match s.mem.pm with
  | [] => none
  | d :: _ => if d.res = none ∧ d.get 0 0 2 = op then some d else none

/-- The head of the queue marked as begun: its page is MOVING (R199 step 1). -/
def State.pmBegin (s : State) : State :=
  match s.mem.pm with
  | [] => s
  | d :: t => { s with mem := { s.mem with pm := { d with moving := true } :: t } }

/-- The page of a descriptor given a page-table entry (R199). -/
def State.pmEntry (s : State) (d : PmDesc) (v : Nat) : State :=
  let pg := s.pmPage d
  match pg.1 with
  | none => pg.2
  | some (l, q) => pg.2.setPte d.slice (s.entryHome (d.get 6 0 20)) l q v

/-- Whether the page mover may reach the tiers of a descriptor: both are open (R202). -/
def State.pmOpen (s : State) (d : PmDesc) : Bool :=
  let op := d.get 0 0 2
  (s.tierOpen false || decide (op ≠ 0)) && (s.tierOpen d.srcB || decide (op = 2)) && s.tierOpen d.dstB

/-- A MOVE at the head of the queue starts: its page is marked MOVING (R199 step 1, R216). A head that would be refused is not
started, nor one whose tiers are not open (R202). -/
def State.pmStart (s : State) : State :=
  match s.pmHead 0 with
  | none => s
  | some d =>
    if d.moving ∨ s.pmRefused d ∨ !s.pmOpen d then s
    else s.pmBegin.pmEntry d (pteMake d.src d.srcB + pteMoving)

/-- PAGE_MOVER_MOVE: steps 1 to 3 of R199: the page is MOVING, its lines are copied, and the page-table entry is switched; staged
lines of the page, a replay's too (R515), go on under the destination. -/
def State.pmMove (s0 : State) : State :=
  let s := s0.pmStart
  match s.pmHead 0 with
  | none => s
  | some d =>
    if !d.moving ∨ s.pmRefused d ∨ !s.pmOpen d then s
    else
      let r := s.pmLines d (fun st off => st.homeLine d.slice d.srcB off)
      let s1 := r.2.pmEntry d (pteMake d.dst d.dstB)
      let s2 := s1.onSlice d.slice (fun x => { x with
        committed := x.committed.map (moveLine d)
        steps := x.steps.map (fun p => { p with lines := p.lines.map (moveLine d) })
        early := x.early.map (fun p => { p with lines := p.lines.map (moveLine d) }) })
      let rs := s2.integ.replays.map (fun p => if p.slice = d.slice then { p with overlay := p.overlay.map (moveLine d) } else p)
      State.pmSet { s2 with integ := { s2.integ with replays := rs } } (if r.1 then 2 else 0)

/-- Whether the MOVE in progress holds a line back from draining: the line lies in the page that moves (R199). -/
def State.pmHolds (s : State) (sl : Nat) (l : StLine) : Bool :=
  match s.pmHead 0 with
  | none => false
  | some d => d.moving && decide (d.slice = sl ∧ l.tierB = d.srcB ∧ d.src ≤ l.off ∧ l.off < d.src + d.bytes) && !s.pmRefused d

/-! ### Engine writes -/

/-- The first line that may drain, and the others in order: one that no MOVE holds back (R199) of an open tier (R202). -/
def State.drainPick (s : State) (sl : Nat) : List StLine → Option (StLine × List StLine)
  | [] => none
  | l :: t =>
    if s.pmHolds sl l ∨ !s.tierOpen l.tierB then (State.drainPick s sl t).map (fun p => (p.1, l :: p.2)) else some (l, t)

/-- The oldest committed line of a slice that may drain goes to its home (R190, R199). -/
def State.drainLine (s : State) (sl : Nat) : State :=
  match s.drainPick sl (s.slice sl).committed with
  | none => s
  | some (l, rest) =>
    let s1 := l.chunks.foldl (fun a p => match p.2 with
      | none => a
      | some w => (a.homeWrite sl l.tierB (l.off + 16 * p.1) (wordsM [w])).2) s
    (s1.onSlice sl (fun x => { x with committed := rest })).refreshSlice sl

/-- The engine's own work in a step. -/
def engineId (sl n : Nat) : RunId := ⟨sl, n, 64, 1024, false⟩

/-- Committed lines of a slice leave staging: the oldest that may drain does, or the MOVE that holds them back is performed (R167,
R199; DEDUCED, log entry 119). -/
def State.drainOn (s : State) (sl : Nat) : State :=
  if (s.drainPick sl (s.slice sl).committed).isSome then s.drainLine sl else s.pmMove

/-- A staged write of the engine; while it finds no free line, committed lines drain (R167). -/
def State.engineWrite : Nat → State → Nat → Nat → Bool → Nat → List Byte → State
  | 0, s, _, _, _, _, _ => s
  | f + 1, s, sl, n, tierB, off, data =>
    let r := s.stageWrite (engineId sl n) 64 tierB off (cleanM data)
    match r.1 with
    | .done => r.2
    | .wait => State.engineWrite f (s.drainOn sl) sl n tierB off data
    | .error c => if causeRefused ≤ c then r.2.stepFail sl n (c - 2) else r.2

/-- A staged write of the engine. -/
def State.stmWrite (s : State) (sl n : Nat) (tierB : Bool) (off : Nat) (data : List Byte) : State :=
  s.engineWrite ((s.slice sl).committed.length + 2) sl n tierB off data

/-! ### Free rings (R217, R218) -/

/-- Pages in a free ring. -/
def StreamRt.level (r : StreamRt) (tierB : Bool) : Nat := if tierB then r.tailB - r.headB else r.tailA - r.headA

/-- The page at the head of a ring taken. -/
def State.takePage (s : State) (sl : Nat) (tierB : Bool) : Nat × State :=
  let r := s.stream sl
  let h := if tierB then r.headB else r.headA
  let v := s.stmRead8 sl (profFree r.prof tierB + 8 * (h % 2 ^ profFreeLog r.prof))
  (v.1 % 2 ^ 40, (v.2.onStream sl (fun x => if tierB then { x with headB := x.headB + 1 } else { x with headA := x.headA + 1 })).refreshRings sl)

/-- A page put at the tail of its tier's ring, or lost if that is full (R217). -/
def State.freePage (s : State) (sl : Nat) (tierB : Bool) (off : Nat) : State :=
  let r := s.stream sl
  if r.level tierB < 2 ^ profFreeLog r.prof then
    let t := if tierB then r.tailB else r.tailA
    let s1 := (s.homeWrite sl false (profFree r.prof tierB + 8 * (t % 2 ^ profFreeLog r.prof)) (cleanM (natToBytes 8 off))).2
    (s1.onStream sl (fun x => if tierB then { x with tailB := x.tailB + 1 } else { x with tailA := x.tailA + 1 })).refreshRings sl
  else s.stmEvent sl (STM_SLC_EVENT_PAGE_LOST sl)

/-- The values fixed for step `n` (R212). -/
def State.fixOf (s : State) (sl n : Nat) : Option StepFix := (s.stream sl).fixes.find? (fun f => decide (f.num = n))
/-- The values fixed for a slot in step `n`. -/
def State.slotFix (s : State) (sl n slot : Nat) : Option SlotFix :=
  (s.fixOf sl n).bind (fun f => f.slots.find? (fun x => decide (x.slot = slot)))
/-- A step's values changed. -/
def State.onFix (s : State) (sl n : Nat) (f : StepFix → StepFix) : State :=
  s.onStream sl (fun r => { r with fixes := r.fixes.map (fun x => if x.num = n then f x else x) })
/-- A slot's values changed. -/
def State.onSlot (s : State) (sl n slot : Nat) (f : SlotFix → SlotFix) : State :=
  s.onFix sl n (fun x => { x with slots := x.slots.map (fun y => if y.slot = slot then f y else y) })

/-- The nodes N of a slot (R212). -/
def SlotFix.nodes (x : SlotFix) : Nat := x.forced + x.draft.length
/-- Whether node `i` is present. -/
def SlotFix.present (x : SlotFix) (i : Nat) : Bool := decide (i < x.forced) || x.draft.contains i
/-- Whether a position or slot lies in the valid range (R219). -/
def SlotFix.valid (x : SlotFix) (q : Int) : Bool :=
  decide (0 ≤ q) && (decide (q < x.len) || x.present (q - x.len).toNat)

/-- A page allocated for layer `l`, page `q` of a stream (R218): tier-A ring first. `none` where both rings are empty. -/
def State.allocPage (s : State) (sl n : Nat) (e : List Byte) (l q : Nat) : Option Nat × State :=
  let r := s.stream sl
  if r.level false = 0 ∧ r.level true = 0 then (none, s.stmEvent sl (STM_SLC_EVENT_ALLOC_FAIL sl))
  else
    let b := decide (r.level false = 0)
    let p := s.takePage sl b
    let v := pteMake p.1 b
    (some v, (p.2.setPte sl e l q v).onFix sl n (fun f => { f with allocs := f.allocs ++ [pteAt e l q] }))

/-! ### KV accesses (R219 to R224) -/

/-- How a KV access is answered. -/
inductive KvAns where
  | data (l : List MByte)
  | done
  | hold
  | refuse
  | error (cause : Nat)
  deriving DecidableEq, Repr

/-- A KV selector (R221): slot, layer or table, anchor, start. -/
structure KvSel where
  slot   : Nat
  layer  : Nat
  anchor : Nat
  start  : Int
  deriving DecidableEq, Repr

/-- The selector in a record's `REMOTE`. -/
def kvSel (d : MoverRec) : KvSel :=
  let v := d.remote.toNat
  ⟨v % 2 ^ 12, v / 2 ^ 12 % 2 ^ 12, v / 2 ^ 24 % 8, signed 21 (v / 2 ^ 28)⟩

/-- The row size of a selector's anchor. -/
def kvRowSize (p : List Byte) (q : KvSel) : Nat :=
  if q.anchor = 3 then 256 else if q.anchor = 4 then leField p (0x8C + 16 * (q.layer % 4)) 4 else rowBytes p

/-- Whether an operation's selector and length are refused (R219, R222). -/
def kvRefused (p : List Byte) (q : KvSel) (write : Bool) (len : Nat) : Bool :=
  p.isEmpty || decide (5 ≤ q.anchor) || (write && decide (q.anchor ≠ 2))
    || (if q.anchor = 4 then decide (4 ≤ q.layer) else if q.anchor = 3 then false else decide (profLayers p ≤ q.layer))
    || decide (kvRowSize p q = 0) || decide (len % kvRowSize p q ≠ 0)

/-- The pieces of a byte range that lie in one row each: row, offset in it, length. -/
def kvPieces (rs a n : Nat) : List (Nat × Nat × Nat) :=
  (List.range ((a + n + rs - 1) / rs - a / rs)).map (fun i =>
    let lo := max a (rs * (a / rs + i))
    (a / rs + i, lo - rs * (a / rs + i), min (a + n) (rs * (a / rs + i) + rs) - lo))

/-- The META row (R224). -/
def metaRow (x : SlotFix) : List Byte :=
  let w := [x.word0, x.len, x.avail, x.forced, x.forced + x.drafts, x.drafts, x.budget, mapGet (fun _ => 0) x.tokens 0 - 1]
  w.flatMap (natToBytes 4) ++ List.replicate 224 0

/-- Bytes of a slice's tier memory in a piece of work's view. -/
def State.kvBytes (s : State) (id : RunId) (g : Nat) (tierB : Bool) (off n : Nat) : KvAns × State :=
  if !s.rangeOk id.slice tierB off n then (.refuse, s.tally (SLC_REFUSE id.slice))
  else if !s.tierOpen tierB then (.hold, s)
  else
    let r := s.viewRead id.slice (s.workView id g) tierB off n
    (match r.1 with | some d => .data d | none => .error causeData, r.2)

/-- One piece of a KV read: `m` bytes at offset `o` of row `i` of the operation. -/
def State.kvPiece (s : State) (id : RunId) (g : Nat) (q : KvSel) (i o m : Nat) : KvAns × State :=
  let p := (s.stream id.slice).prof
  match s.slotFix id.slice id.step q.slot with
  | none => (.data (zerosM m), s)
  | some x =>
    if x.nodes = 0 then (.data (zerosM m), s)
    else if q.anchor = 3 then (.data (cleanM (if i = 0 then ((metaRow x).drop o).take m else List.replicate m 0)), s)
    else if q.anchor = 4 then
      let node := q.start + i
      if node < 0 ∨ !x.present node.toNat then (.data (zerosM m), s)
      else
        match mapGet (fun _ => 0) x.tokens node.toNat with
        | 0 => (.hold, s)
        | v + 1 =>
          let base := leField p (0x80 + 16 * q.layer) 8
          if leField p (0x88 + 16 * q.layer) 4 ≤ v then
            (.data (zerosM m), s.countArith id.slice evFmtBad (blkStatus 4))
          else s.kvBytes id g (decide (base / 2 ^ 63 = 1)) (base % 2 ^ 40 + v * kvRowSize p q + o) m
    else
      let pos := q.start + i + (if q.anchor = 0 then 0 else x.len)
      if !x.valid pos then (.data (zerosM m), s)
      else
        let e := s.entryOf id.slice x.sid
        let r := s.pte id.slice e q.layer (pos.toNat / 256)
        if pteValid r.1 then r.2.kvBytes id g (pteB r.1) (pteOff r.1 + pos.toNat % 256 * rowBytes p + o) m
        else (.refuse, r.2)

/-- A KV read of `n` bytes from offset `a` of an operation. -/
def State.kvRead (s : State) (id : RunId) (g : Nat) (q : KvSel) (a n : Nat) : KvAns × State :=
  (kvPieces (kvRowSize (s.stream id.slice).prof q) a n).foldl (fun (acc : KvAns × State) pc =>
    match acc.1 with
    | .data l =>
      let r := acc.2.kvPiece id g q pc.1 pc.2.1 pc.2.2
      (match r.1 with | .data d => .data (l ++ d) | x => x, r.2)
    | _ => acc) (.data [], s)

/-- Bytes written to a slice's tier memory by a piece of work: staged, or at once for slice 0 (R164, R173). -/
def State.workWrite (s : State) (id : RunId) (g : Nat) (tierB : Bool) (off : Nat) (data : List MByte) : KvAns × State :=
  if !s.tierOpen tierB then (.hold, s)
  else if id.slice = 0 then
    if !s.rangeOk 0 tierB off data.length then (.refuse, s.tally (SLC_REFUSE 0))
    else
      let r := s.homeWrite 0 tierB off data
      (if r.1 then .error causeData else .done, r.2)
  else
    let r := s.stageWrite id g tierB off data
    (match r.1 with
      | .done => .done
      | .wait => .hold
      | .error c => if c = causeRefused then .refuse else .error c, r.2)

/-- One piece of a KV write (R218, R219): rows outside the slots of present nodes are dropped. A replay waits for the
page that its original allocates. -/
def State.kvPut (s : State) (id : RunId) (g : Nat) (q : KvSel) (i o : Nat) (data : List MByte) : KvAns × State :=
  let p := (s.stream id.slice).prof
  match s.slotFix id.slice id.step q.slot with
  | none => (.done, s)
  | some x =>
    let node := q.start + i
    if x.nodes = 0 ∨ node < 0 ∨ !x.present node.toNat then (.done, s)
    else
      let pos := x.len + node.toNat
      let e := s.entryOf id.slice x.sid
      let r := s.pte id.slice e q.layer (pos / 256)
      let put (st : State) (v : Nat) : KvAns × State :=
        st.workWrite id g (pteB v) (pteOff v + pos % 256 * rowBytes p + o) data
      if pteValid r.1 then put r.2 r.1
      else if id.replay then (.hold, s)
      else
        let al := r.2.allocPage id.slice id.step e q.layer (pos / 256)
        match al.1 with
        | none => (.refuse, al.2)
        | some v => put al.2 v

/-- A KV write of bytes from offset `a` of an operation. -/
def State.kvWrite (s : State) (id : RunId) (g : Nat) (q : KvSel) (a : Nat) (data : List MByte) : KvAns × State :=
  (kvPieces (kvRowSize (s.stream id.slice).prof q) a data.length).foldl (fun (acc : KvAns × State × Nat) pc =>
    match acc.1 with
    | .done =>
      let r := acc.2.1.kvPut id g q pc.1 pc.2.1 ((data.drop acc.2.2).take pc.2.2)
      (r.1, r.2, acc.2.2 + pc.2.2)
    | _ => acc) (.done, s, 0) |> (fun r => (r.1, r.2.1))

/-! ### Moves (R198, R220) -/

/-- A descriptor joins the page mover's queue of 256, and starts if it is the head; `false` where the queue is full. -/
def State.pmPush (s : State) (d : PmDesc) : Bool × State :=
  if s.mem.pm.length < 256 then
    (true, (State.put { s with mem := { s.mem with pm := s.mem.pm ++ [d] } } MEM_PM_STATUS_QUEUED (s.mem.pm.length + 1)).pmStart)
  else (false, s)

/-- A descriptor of the stream engine's: it waits while the queue is full (R220; DEDUCED, log entry 120). -/
def State.pmIssue (s : State) (d : PmDesc) : State :=
  if s.mem.pm.length < 256 ∧ s.mem.pmWait = [] then (s.pmPush d).2
  else { s with mem := { s.mem with pmWait := s.mem.pmWait ++ [d] } }

/-- The descriptors that wait take the room in the queue that there is. -/
def State.pmRefill (s : State) : State :=
  let k := 256 - s.mem.pm.length
  (s.mem.pmWait.take k).foldl (fun (a : State) d => (a.pmPush d).2)
    { s with mem := { s.mem with pmWait := s.mem.pmWait.drop k } }

/-- The words of a descriptor. -/
def pmWords (op sl : Nat) (srcB dstB : Bool) (src dst lines sid page : Nat) : List Word :=
  [op + 2 ^ 8 * sl + (if srcB then 2 ^ 16 else 0) + (if dstB then 2 ^ 17 else 0),
   src % 2 ^ 32, src / 2 ^ 32, dst % 2 ^ 32, dst / 2 ^ 32, lines, sid, page].map (BitVec.ofNat 32)

/-- A MOVE of one page queued to the other tier, while that tier's ring holds a page (R220). -/
def State.queueMove (s : State) (sl sid l q : Nat) (toB : Bool) : State :=
  let e := s.entryHome sid
  let r := s.pte sl e l q
  if pteValid r.1 ∧ pteB r.1 ≠ toB ∧ 0 < (r.2.stream sl).level toB
      ∧ !(r.2.mem.pm ++ r.2.mem.pmWait).any (fun d => d.words[6]? = some (BitVec.ofNat 32 sid) ∧ d.words[7]? = some (BitVec.ofNat 32 (l * 4096 + q))) then
    let pg := r.2.takePage sl toB
    let w := pmWords 0 sl (pteB r.1) toB (pteOff r.1) pg.1 (rowBytes (s.stream sl).prof) sid (l * 4096 + q)
    pg.2.pmIssue ⟨w, true, none, false⟩
  else r.2

/-- The pages of every layer of a stream in the order `ps` of page numbers: a MOVE of each that is in the other tier. -/
def State.queueMoves (s : State) (sl sid : Nat) (ps : List Nat) (toB : Bool) : State :=
  (List.range (profLayers (s.stream sl).prof)).foldl (fun a l =>
    ps.foldl (fun b q => b.queueMove sl sid l q toB) a) s

/-- The placement rule after a commit (R220): tier-A pages beyond the `HOT_PAGES` most recent, oldest first. -/
def State.coolPages (s : State) (sl sid : Nat) : State :=
  let e := s.entryHome sid
  let hot := entGet e 0 16 16
  let used := (entLen e + 255) / 256
  if entState e = 0 ∨ hot = 0 ∨ used ≤ hot then s else (s.readEntry sl sid).queueMoves sl sid (List.range (used - hot)) true

/-- The placement rule for each stream of a slice (R220). -/
def State.coolAll (s : State) (sl : Nat) : State :=
  if s.flag (STM_SLC_CTRL_ENABLE sl) then
    (List.range (s.get (SLC_STRM_COUNT_VALUE sl))).foldl (fun a i => a.coolPages sl (s.get (SLC_STRM_BASE_VALUE sl) + i)) s
  else s

end Sys2Proof.Machine
end

