-- ==== Sys2Proof/Machine/Tiers.lean ====
section
/-! DEFINITION. The memory tiers' commands: the extent table (R184), mover reads and writes (R166, R190, R218, R219),
draining (R190), refresh (R192), scrubbing (R204), start-up (R202), the page mover (R198 to R201) and injections (R208). -/

namespace Sys2Proof.Machine

/-! ### The extent table (R184) -/

/-- The four fields of an entry's value: `EXT`, `SPREAD`, `TIER_B`, `VALID`. -/
structure XtVal where
  ext    : Nat
  spread : Bool
  tierB  : Bool
  valid  : Bool
  deriving DecidableEq, Repr

/-- An entry's value from its word. -/
def xtVal (v : Word) : XtVal :=
  ⟨v.toNat % 4096, decide (v.toNat / 4096 % 2 = 1), decide (v.toNat / 8192 % 2 = 1), decide (v.toNat / 2 ^ 31 % 2 = 1)⟩

/-- Whether entry `i` lies in a window of a slice outside FREE. -/
def State.xtLocked (s : State) (i : Nat) : Bool :=
  (List.range 64).any (fun sl => s.taken sl &&
    [Window.a, .b, .img, .stage, .save].any (fun w => decide (s.winBase sl w ≤ i ∧ i < s.winBase sl w + s.winCount sl w)))

/-- Whether two entries' backing meets (R184). -/
def xtClash (n o : XtVal) : Bool :=
  o.valid &&
    (if n.spread then
      (if o.spread then decide (o.ext % 2048 = n.ext % 2048)
        else !o.tierB && decide (o.ext % 288 = n.ext % 512))
    else
      (if o.spread then !n.tierB && decide (n.ext % 288 = o.ext % 512)
        else decide (o.tierB = n.tierB ∧ o.ext = n.ext)))

/-- Whether an entry is refused by itself: its range, kind or column 287. -/
def xtBad (n : XtVal) : Bool :=
  if n.spread then n.tierB || decide (2048 ≤ n.ext) || decide (287 ≤ n.ext % 512)
  else if n.tierB then decide (3072 ≤ n.ext)
  else decide (1152 ≤ n.ext) || decide (n.ext % 288 = 287)

/-- XT_WRITE: entry `i` written (R184). -/
def State.xtWrite (s : State) (i : Nat) (v : Word) : State :=
  let n := xtVal v
  let key := (MEM_XT_VALID i).key
  let lock := s.xtLocked i
  let clash := n.valid && (lock || xtBad n ||
    (List.range 4224).any (fun j => decide (j ≠ i) && xtClash n (xtVal (s.reg (MEM_XT_VALID j).key))))
  if lock then
    let s1 := s.writeCodes key v true
    if clash then s1.event MEM_EVENT_XT_CONFLICT 1 else s1
  else if clash then (s.event MEM_EVENT_XT_CONFLICT 1).noteRsvd key v
  else s.writeCodes key v false

/-! ### Mover requests to the tiers -/

/-- The step of a mover's request whose data are delivered marked becomes suspect at once (R204). -/
def State.markedReply (s : State) (t c : Nat) (l : List MByte) : State :=
  match (s.tile t).ctx c with
  | some o => if markedM l then s.errorEffect t (s.opId t o) o.pos causeData else s
  | none => s

/-- What a tier request of a mover is answered: `hold` leaves everything as it was. -/
def State.postKv (s0 : State) (t c idx : Nat) (r : KvAns × State) : State :=
  match r.1 with
  | .data l => (r.2.post t c idx l causeNone).markedReply t c l
  | .done => r.2.post t c idx [] causeNone
  | .hold => s0
  | .refuse => r.2.post t c idx [] causeRefused
  | .error e => r.2.post t c idx [] e

/-- Whether the tiers that an operation reaches are open; until then its requests are held (R202). -/
def State.opOpen (s : State) (o : MvOp) : Bool :=
  if o.desc.op = 3 ∨ o.desc.op = 4 then s.tierOpen (decide (o.desc.remote.toNat / 2 ^ 63 = 1)) else s.tierOpen false && s.tierOpen true

/-- A pseudo-channel of tier A (32 × stack + 2 × channel + pseudo-channel) or a channel of tier B (4 × controller +
channel) fails (R206). -/
def State.channelFail (s : State) (tierB : Bool) (n : Nat) : State :=
  if tierB then
    if s.mem.failB.contains n then s
    else
      let f := MEM_MCB_STATUS_CH_FAIL (n / 4)
      let s1 := State.put { s with mem := { s.mem with failB := n :: s.mem.failB } } f (Nat.lor (s.get f) (2 ^ (n % 4)))
      (s1.event MEM_EVENT_CH_FAIL 1).fire 52 (n / 4) 4 0 0
  else if s.mem.failA.contains n then s
  else
    let f := MEM_HBM_STATUS_CH_FAIL (n / 32)
    let s1 := State.put { s with mem := { s.mem with failA := n :: s.mem.failA } } f (Nat.lor (s.get f) (2 ^ (n % 32 / 2)))
    (s1.event MEM_EVENT_CH_FAIL 1).fire 44 (n / 32) (n / 64) 0 0

/-- The parity retries of a request's command are exhausted at a device address: its pseudo-channel or channel fails
(R204, R206). -/
def State.parityFail (s : State) (tierB : Bool) (a : Nat) : State :=
  if !inTier tierB a then s
  else s.channelFail tierB (if tierB then 4 * mcbOf a + a % 256 / 64 else 32 * stackOf a + 2 * channelOf a + pseudoOf a)

/-- TIER_READ_REQUEST: request `k` of context `c`, a `TIER_RD` or `KV_RD`, is served in the slice's view (R166, R219). -/
def State.tierRead (s : State) (t c k : Nat) : State :=
  match s.reqAt t c k with
  | none => s
  | some (o, q) =>
    if q.reply.isSome ∨ !s.opOpen o then s
    else
      let id := s.opId t o
      let g := groupOf t
      if o.desc.op = 3 then
        s.postKv t c q.idx (s.kvBytes id g (decide (o.desc.remote.toNat / 2 ^ 63 = 1)) q.addr q.len)
      else if o.desc.op = 5 then
        let sel := kvSel o.desc
        if kvRefused (s.stream id.slice).prof sel false o.desc.len.toNat then s.post t c q.idx [] causeRefused
        else s.postKv t c q.idx (s.kvRead id g sel q.off q.len)
      else s

/-- A staged write of a mover that waits for a line is marked so (R167). -/
def State.markWait (s : State) (t c : Nat) : State := s.onOp t c (fun o => { o with waiting := true })

/-- TIER_WRITE_REQUEST: request `k` of context `c`, a `TIER_WR` or `KV_WR`, is staged or performed (R164, R190, R218). -/
def State.tierWrite (s : State) (t c k : Nat) : State :=
  match s.reqAt t c k with
  | none => s
  | some (o, q) =>
    if q.reply.isSome ∨ !s.opOpen o then s
    else
      let id := s.opId t o
      let g := groupOf t
      let go (r : KvAns × State) : State := if r.1 = .hold then s.markWait t c else s.postKv t c q.idx r
      if o.desc.op = 4 then go (s.workWrite id g (decide (o.desc.remote.toNat / 2 ^ 63 = 1)) q.addr q.data)
      else if o.desc.op = 6 then
        let sel := kvSel o.desc
        if kvRefused (s.stream id.slice).prof sel true o.desc.len.toNat then s.post t c q.idx [] causeRefused
        else go (s.kvWrite id g sel q.off q.data)
      else s

/-- STAGED_WRITE_RETRY: a staged write that found no line is made again (R167). -/
def State.stagedRetry (s : State) (t c k : Nat) : State :=
  match (s.tile t).ctx c with
  | none => s
  | some o => if o.waiting then (s.onOp t c (fun p => { p with waiting := false })).tierWrite t c k else s

/-! ### Refresh, scrubbing, start-up -/

/-- REFRESH_DUE: the refresh of a bank is deferred while a TC0 request for the bank waits, up to the device's limit, and
else performed with those deferred before (R192; DESIGN CHOICE, log entry 19). -/
def State.refreshDue (s : State) (ctrl bank : Nat) (tc0 : Bool) : State :=
  let k := 1024 * ctrl + bank
  let n := mapGet (fun _ => 0) s.mem.refresh k
  let n1 := if tc0 ∧ n < Config.refreshLimit ctrl then n + 1 else 0
  { s with mem := { s.mem with refresh := mapSet (fun _ => 0) s.mem.refresh k n1 } }

/-- SCRUB_READ: patrol scrubbing of code word `w` of an enabled, open tier (R204). -/
def State.scrub (s : State) (tierB : Bool) (w : Nat) : State :=
  let on := if tierB then s.flag MEM_SCRUB_CFG_B_EN else s.flag MEM_SCRUB_CFG_A_EN
  if on && s.tierOpen tierB && inTier tierB (16 * w) && !s.chanFailed tierB (16 * w) then
    (s.memInject tierB (16 * w)).decodeWord tierB w 0
  else s

/-- Once both tiers are open the warden reports the part ready for admission, by a record of kind BOOT (R404, R495; when it does so is a
DESIGN CHOICE, log entry 131). -/
def State.readyReport (s : State) : State :=
  if s.tierOpen false && s.tierOpen true then (s.wardenLog 12 0 0 s.holTemp 0).sendNewest else s

/-- TIER_INIT_COMPLETE: every word of the tier is zero with valid check bits and the tier opens (R202). -/
def State.tierInit (s : State) (tierB : Bool) (dead : BitVec 16) : State :=
  if s.tierOpen tierB then s
  else
    let per := if tierB then 4 else 32
    let bad := (List.range (if tierB then 16 else 8)).filter dead.getLsbD
    let s1 := bad.foldl (fun a c => (List.range per).foldl (fun b i => b.channelFail tierB (per * c + i)) a) s
    if tierB then (((s1.setTier true memEmpty).put MEM_INIT_B_DONE 1).tierOpened true).readyReport
    else (((s1.setTier false memEmpty).put MEM_INIT_A_DONE 1).tierOpened false).readyReport

/-! ### The page mover (R198 to R201) -/

/-- A line of committed data as another requester sees it (R166, R200). -/
def State.commitLine (s : State) (sl : Nat) (tierB : Bool) (off : Nat) : List MByte × State :=
  let r := s.viewRead sl (s.viewLines sl false) tierB off 256
  (r.1.getD (List.replicate 256 (0, true)), r.2)

/-- Whether the destination holds a committed line not yet drained. -/
def State.pmBlocked (s : State) (d : PmDesc) : Bool :=
  (s.slice d.slice).committed.any (fun l => decide (l.tierB = d.dstB ∧ d.dst ≤ l.off ∧ l.off < d.dst + d.bytes))

/-- PAGE_MOVER_COPY (R200): it waits while its destination holds a committed line not yet drained. -/
def State.pmCopy (s : State) : State :=
  match s.pmHead 1 with
  | none => s
  | some d =>
    if s.pmRefused d ∨ s.pmBlocked d ∨ !s.pmOpen d then s
    else
      let r := s.pmLines d (fun st off => st.commitLine d.slice d.srcB off)
      r.2.pmSet (if r.1 then 2 else 0)

/-- PAGE_MOVER_ZERO (R200). -/
def State.pmZero (s : State) : State :=
  match s.pmHead 2 with
  | none => s
  | some d =>
    if s.pmRefused d ∨ !s.pmOpen d then s
    else (s.pmLines d (fun st _ => (zerosM 256, st))).2.pmSet 0

/-- A manager's descriptor reports its tag and its result (R198, R201). -/
def State.pmReport (s : State) (d : PmDesc) (res : Nat) : State :=
  if d.stm then s
  else ((s.put MEM_PM_STATUS_TAG (d.get 0 24 8)).put MEM_PM_STATUS_RESULT res).event MEM_EVENT_PM_DONE 1

/-- A descriptor leaves the queue; a manager's reports its result (R198, R201), and a MOVE's source page returns to its
ring (R199, R220). -/
def State.pmPop (s : State) (d : PmDesc) (res : Nat) : State :=
  let s0 := if d.moving ∧ res = 1 then s.pmEntry d (pteMake d.src d.srcB) else s
  let s1 := State.put { s0 with mem := { s0.mem with pm := s0.mem.pm.tail } } MEM_PM_STATUS_QUEUED (s.mem.pm.length - 1)
  let s2 := if d.get 0 0 2 = 0 ∧ (res = 0 ∨ res = 2) then s1.freePage d.slice d.srcB d.src
    else if d.get 0 0 2 = 0 ∧ d.stm ∧ (s1.live d.slice : Bool) then s1.freePage d.slice d.dstB d.dst else s1
  (s2.pmReport d res).pmRefill.pmStart

/-- PAGE_MOVER_COMPLETE: the head, performed or refused, completes (R201). -/
def State.pmComplete (s : State) : State :=
  match s.mem.pm with
  | [] => s
  | d :: _ =>
    match d.res with
    | some r => s.pmPop d r
    | none => if s.pmRefused d ∧ (s.pmOpen d ∨ d.get 0 0 2 ≠ 0) then (s.pmCount d).pmPop d 1 else s

/-- SUBMIT (R198, R201). -/
def State.pmSubmit (s : State) : State :=
  let w := (List.range 8).map (fun i => s.reg (MEM_PM_DESC_WORD i).key)
  let r := s.pmPush ⟨w, false, none, false⟩
  if r.1 then r.2 else s.put MEM_PM_STATUS_FULL 1

/-! ### Meanings -/

/-- XT_WRITE. -/
def execXtWrite (i : Fin 4224) (v : Word) (s : State) : Answer := .next (s.xtWrite i v)
/-- TIER_READ_REQUEST, with what went wrong on the way (R204, R206). -/
def execTierReadRequest (t : Fin 1024) (c k : Fin 16) (x : ReadTrouble) (s : State) : Answer :=
  let s1 : State := match x.link with
    | none => s
    | some m => s.tally (MEM_MCB_LINK_CE m)
  match x.fail with
  | none => .next (s1.tierRead t c k)
  | some f => .next ((s1.parityFail f.1 f.2.toNat).tierRead t c k)
/-- TIER_WRITE_REQUEST. -/
def execTierWriteRequest (t : Fin 1024) (c k : Fin 16) (s : State) : Answer := .next (s.tierWrite t c k)
/-- STAGED_WRITE_RETRY. -/
def execStagedWriteRetry (t : Fin 1024) (c k : Fin 16) (s : State) : Answer := .next (s.stagedRetry t c k)
/-- DRAIN_COMMITTED_LINE. -/
def execDrainCommittedLine (sl : Fin 64) (s : State) : Answer := .next (s.drainLine sl)
/-- REFRESH_DUE. -/
def execRefreshDue (ctrl : Fin 24) (bank : Fin 1024) (tc0 : Bool) (s : State) : Answer := .next (s.refreshDue ctrl bank tc0)
/-- SCRUB_READ. -/
def execScrubRead (tierB : Bool) (w : BitVec 36) (s : State) : Answer := .next (s.scrub tierB w.toNat)
/-- TIER_INIT_COMPLETE; bit i of `dead` is set where stack or device i failed its start-up. -/
def execTierInitComplete (tierB : Bool) (dead : BitVec 16) (s : State) : Answer := .next (s.tierInit tierB dead)
/-- SUBMIT. -/
def execSubmit (s : State) : Answer := .next s.pmSubmit
/-- PAGE_MOVER_MOVE. -/
def execPageMoverMove (s : State) : Answer := .next s.pmMove
/-- PAGE_MOVER_COPY. -/
def execPageMoverCopy (s : State) : Answer := .next s.pmCopy
/-- PAGE_MOVER_ZERO. -/
def execPageMoverZero (s : State) : Answer := .next s.pmZero
/-- PAGE_MOVER_COMPLETE. -/
def execPageMoverComplete (s : State) : Answer := .next s.pmComplete
/-- TC0_PEAK_CLR (R28). -/
def execTc0PeakClr (d : Fin 4) (s : State) : Answer := .next (s.put (MEM_TC0_PEAK_PEAK d) 0)
/-- MEM_INJECT_ARM: `v` is the value written to `MEM_INJECT` (R208). -/
def execMemInjectArm (v : Word) (s : State) : Answer :=
  .next ((s.writeCodes (MEM_INJECT_ARM).key v false).putIf (decide (2 ^ 31 ≤ v.toNat)) MEM_INJECT_ARM 1)

end Sys2Proof.Machine
end

