-- ==== Sys2Proof/Machine/DravselTarget.lean ====
section
/-! DEFINITION. Dravsel at the target: the checks of R363, the application of requests to tier memory and scratchpads
(R372 to R377), the duplicate window (R387, R388), and requests that wait (R373, R375, R376). -/

namespace Sys2Proof.Machine

/-! ### Checks (R362, R363) -/

/-- The operations of a request: RD. -/
def opRd : Nat := 0
/-- WR. -/
def opWr : Nat := 1
/-- RED. -/
def opRed : Nat := 2
/-- ATOM. -/
def opAtom : Nat := 3
/-- MCW. -/
def opMcw : Nat := 4

/-- The kinds of a region: TILE. -/
def kindTile : Nat := 2
/-- The base of a region: an offset, or the first logical tile. -/
def State.regionBase (s : State) (r : Nat) : Nat :=
  let lo := s.get (DRV_REGION_BASE_LO_BASE r)
  if s.get (DRV_REGION_CFG_KIND r) = kindTile then lo % 1024
  else lo / 4096 * 4096 + 2 ^ 32 * s.get (DRV_REGION_BASE_HI_BASE r)

/-- Whether chunk `i` of a request's line is covered. -/
def maskBit (p : Packet) (i : Nat) : Bool := decide (p.mask / 2 ^ i % 2 = 1)
/-- The bytes a request reaches from its address: those up to its last covered chunk, or an atomic's word. -/
def reqLen (p : Packet) : Nat :=
  if p.op = opAtom then 8
  else (((List.range 8).filter (maskBit p)).getLast?.map (fun i => 16 * (i + 1))).getD 0

/-- Whether `SIZE` is in the range of its kind. -/
def sizeOk (kind size : Nat) : Bool :=
  if kind = kindTile then decide (20 ≤ size ∧ size ≤ 26) else decide (12 ≤ size ∧ size ≤ 40)

/-- Whether a request is a floating ADD (R371). -/
def floatAdd (p : Packet) : Bool :=
  decide (p.op = opRed ∧ p.fop % 16 = 0 ∧ (p.fop / 16 = 0 ∨ p.fop / 16 = 1 ∨ p.fop / 16 = 3 ∨ p.fop / 16 = 4))

/-- Whether a request is a void: a read of nothing (R396). -/
def isVoid (p : Packet) : Bool := decide (p.op = opRd ∧ p.mask = 0 ∧ p.staged = false)

/-- The rank of a device in a slice's commit group (R375). -/
def State.rankOf (s : State) (sl d : Nat) : Nat := ((s.commitGroup sl).findIdx? (fun x => decide (x = d))).getD 64

/-- The records of a slice's steps that have staged effects, released or not. -/
def State.stepRecs (s : State) (sl : Nat) : List StepRt := (s.slice sl).steps ++ (s.slice sl).early
/-- The record of a step, or a fresh one. -/
def State.stepRec (s : State) (sl n : Nat) : StepRt :=
  ((s.stepRecs sl).find? (fun r => decide (r.num = n))).getD (StepRt.fresh n)
/-- A step's record changed; one is made for a step not yet released. -/
def State.onStepRec (s : State) (sl n : Nat) (f : StepRt → StepRt) : State :=
  let g (r : StepRt) : StepRt := if r.num = n then f r else r
  if (s.stepRecs sl).any (fun r => decide (r.num = n)) then
    s.onSlice sl (fun x => { x with steps := x.steps.map g, early := x.early.map g })
  else s.onSlice sl (fun x => { x with early := x.early ++ [f (StepRt.fresh n)] })
/-- Whether a step is released. -/
def State.released (s : State) (sl n : Nat) : Bool := (s.slice sl).steps.any (fun r => decide (r.num = n))

/-- The key of a line of a region in `ranks`. -/
def rankKey (p : Packet) : Nat := fabRegion p.addr * 2 ^ 33 + fabOffset p.addr / 128
/-- The next rank of a request's line in a step. -/
def State.nextRank (s : State) (sl n : Nat) (p : Packet) : Nat := mapGet (fun _ => 0) (s.stepRec sl n).ranks (rankKey p)

/-- Whether a rank has contributed to a request's line in a step (R375). -/
def State.ranked (s : State) (sl n rank : Nat) (p : Packet) : Bool :=
  decide (rank < s.nextRank sl n p)
    || s.drv.reorder.any (fun h => decide (h.slice = sl ∧ h.step = n ∧ h.pkt.src = p.src ∧ rankKey h.pkt = rankKey p))

/-- The physical tile, logical tile and scratchpad byte that offset `o` of a TILE region names (R362). -/
def State.tileTarget (s : State) (sl base o : Nat) : Option (Nat × Nat × Nat) :=
  let lt := base + o / 2 ^ 20
  (s.placeOf sl (lt / 16)).map (fun g => (tileAt g (lt % 16), lt, o % 2 ^ 20))

/-- The check of R363: the code of the first failure, or the request as it is to be applied. A byte that lies in no tile's region
fails TRANSLATE before the image is looked at (DEDUCED, log entry 127). -/
def State.fabCheck (s : State) (p : Packet) : Nat ⊕ Held :=
  let r := fabRegion p.addr
  let o := fabOffset p.addr
  let kind := s.get (DRV_REGION_CFG_KIND r)
  let size := s.get (DRV_REGION_CFG_SIZE r)
  let len := reqLen p
  let held (sl n base : Nat) : Held := ⟨p, sl, n, kind, base, s.flag (DRV_REGION_CFG_GATE r), s.get (DRV_REGION_BASE_HI_ARRIVE r)⟩
  match s.regionOwner r with
  | none => .inl 1
  | some sl =>
    let base := s.regionBase r
    let rank := s.rankOf sl p.src
    let step := s.tagStep sl p.step
    let n := step.getD 0
    if !s.flag (DRV_REGION_CFG_VALID r) || decide (kind = 3) then .inl 1
    else if p.key ≠ s.get (DRV_REGION_KEY_KEY r) then .inl 2
    else if !sizeOk kind size || decide (2 ^ size < o + len) || decide (p.op = opAtom ∧ o % 8 ≠ 0) then .inl 3
    else if s.get (DRV_REGION_CFG_PERM r) / 2 ^ p.op % 2 = 0 then .inl 4
    else if (p.staged && (!(s.commitGroup sl).contains p.src || decide (s.member p.src = memJoining ∨ s.member s.self = memJoining)))
        || (!p.staged && (decide (kind = kindTile) || floatAdd p)) then .inl 5
    else if floatAdd p && (!s.flag (DRV_REGION_CFG_ORDERED r) || decide (s.get (DRV_REGION_CFG_NRANK r) < rank)
        || (step.isSome && s.ranked sl n rank p)) then .inl 6
    else if p.staged && step.isNone then .inl 7
    else if kind = kindTile then
      (if 0xC0000 < o % 2 ^ 20 + len ∨ (sl = 0 ∧ (o % 2 ^ 20 < 0x80000 ∨ 0xBC000 < o % 2 ^ 20 + len)) then .inl 8
      else if s.get (PLN_SLICE_IMG_STATE sl) = 2 then
        match s.tileTarget sl base o with
        | none => .inl 8
        | some (t, _, b) =>
          if s.rowOk t (decide (sl = 0)) (b / 256 : Nat) && s.rowOk t (decide (sl = 0)) ((b + len - 1) / 256 : Nat) then
            (if s.member p.src = memFenced then .inl 10 else .inr (held sl n base))
          else .inl 8
      else .inl 9)
    else if len ≠ 0 ∧ !s.rangeOk sl (decide (kind = 1)) (base + o) len then .inl 8
    else if s.member p.src = memFenced then .inl 10
    else .inr (held sl n base)

/-- A refusal noted at the target (R363, R315). -/
def State.noteRefusal (s : State) (p : Packet) (code : Nat) : State :=
  let s1 := (s.tally DRV_REFUSE).drvEvent DRV_EVENT_REFUSED
  let s2 := if s1.flag DRV_REFUSE_REC_VALID then s1 else
    (((s1.put DRV_REFUSE_REC_SRC_DEV p.src).put DRV_REFUSE_REC_REGION (fabRegion p.addr)).put DRV_REFUSE_REC_CODE code).put
      DRV_REFUSE_REC_VALID 1
  match s2.regionOwner (fabRegion p.addr) with
  | some sl => if code = 2 ∨ (code = 8 ∧ s2.get (DRV_REGION_CFG_KIND (fabRegion p.addr)) ≠ kindTile) then s2.tally (SLC_REFUSE sl) else s2
  | none => s2

/-! ### Arithmetic (R374, R377) -/

/-- One element reduced: operation, type, target element, contribution. -/
def redElem (oper ty t c : Nat) : Nat :=
  let w (x : Nat) : Word := BitVec.ofNat 32 x
  if ty = 1 then
    (if oper = 0 then
      (floatEncode fmtBF16 .nearest (addVal (floatDecode fmtBF16 t) (floatDecode fmtBF16 c))).1
    else ((if oper = 1 then fmax else fmin) (w (t * 2 ^ 16)) (w (c * 2 ^ 16))).toNat / 2 ^ 16)
  else if ty = 2 then
    (if oper = 0 then (t + c) % 2 ^ 32
    else if decide ((w t).toInt < (w c).toInt) = decide (oper = 1) then c else t)
  else
    let x : Word := if ty = 3 then toFP32 (floatDecode fmtE4M3 c) else if ty = 4 then toFP32 (floatDecode fmtE5M2 c) else w c
    ((if oper = 0 then fadd else if oper = 1 then fmax else fmin) (w t) x).toNat

/-- The contribution's bytes for a target chunk: 16, or four FP8 elements. -/
def redPart (fop : Nat) (body : List MByte) (i : Nat) : List MByte :=
  if fopFp8 fop then (body.drop (4 * i)).take 4 else (body.drop (16 * i)).take 16

/-- Chunk `i` of a line reduced; a word in error on either side leaves the result in error. -/
def redChunk (fop : Nat) (old part : List MByte) : List MByte :=
  let oper := fop % 16
  let ty := fop / 16
  let eb := if ty = 1 then 2 else 4
  let cb := if fopFp8 fop then 1 else eb
  let bad := markedM old || markedM part
  let out := (List.range (16 / eb)).flatMap (fun j =>
    natToBytes eb (redElem oper ty (bytesToNat (bytesM ((old.drop (eb * j)).take eb))) (bytesToNat (bytesM ((part.drop (cb * j)).take cb)))))
  out.map (fun b => (b, bad))

/-- The new value of an atomic's word (R377). -/
def atomNew (oper old operand cmp : Nat) : Nat :=
  if oper = 8 then (old + operand) % 2 ^ 64
  else if oper = 9 then operand
  else if old = cmp then operand else old

/-! ### Application (R373 to R377) -/

/-- The lines that step `n` of a slice sees: committed, then those of its uncommitted steps up to `n` (R373). -/
def State.stepView (s : State) (sl n : Nat) : List StLine :=
  let n0 := s.get64 (DSP_SLC_STEP_LO_STEP sl) (DSP_SLC_STEP_HI_STEP sl)
  (s.slice sl).committed ++ (List.range (n - n0 + 1)).flatMap (fun i =>
    ((s.stepRecs sl).filter (fun r => decide (r.num = n0 + i))).flatMap (fun r => r.lines))

/-- Whether a request's effects are staged: a request of a step, to a slice that stages (R173, R373). -/
def Held.stages (h : Held) : Bool := h.pkt.staged && decide (h.slice ≠ 0)

/-- The view that a request is served with (R373). -/
def State.heldView (s : State) (h : Held) : List StLine :=
  if h.stages then s.stepView h.slice h.step else s.viewLines h.slice false

/-- Bytes `o` to `o + n - 1` of a request's region; `none` is an error completion. -/
def State.fabRead (s : State) (h : Held) (o n : Nat) : Option (List MByte) × State :=
  if h.kind = kindTile then
    match s.tileTarget h.slice h.base o with
    | none => (none, s)
    | some (t, lt, b) =>
      if !s.groupOn (groupOf t) then (none, s.fire 9 t (t / 256) h.slice 0) else
      let r := s.spadRead t (decide (h.slice = 0)) b n
      (some r.1, r.2.journal ⟨h.slice, h.step, lt / 16, lt, false⟩ (.access lt (s.tile t).run.issued false b n []))
  else s.viewRead h.slice (s.heldView h) (decide (h.kind = 1)) (h.base + o) n

/-- Bytes written to a request's region: to a scratchpad, into the step's staging, or home (R189, R373). -/
def State.fabWrite (s : State) (h : Held) (o : Nat) (data : List MByte) : State :=
  if h.kind = kindTile then
    match s.tileTarget h.slice h.base o with
    | none => s
    | some (t, lt, b) =>
      if !s.groupOn (groupOf t) then s.fire 9 t (t / 256) h.slice 0 else
      let s1 := s.journal ⟨h.slice, h.step, lt / 16, lt, false⟩ (.access lt (s.tile t).run.issued true b data.length data)
      (s1.spadWrite t (decide (h.slice = 0)) b data).2
  else if h.stages then
    let s1 := s.onStepRec h.slice h.step (fun r => r)
    (s1.stageWith (s1.heldView h) (engineId h.slice h.step) 64 (decide (h.kind = 1)) (h.base + o) data).2
  else (s.homeWrite h.slice (decide (h.kind = 1)) (h.base + o) data).2

/-- The covered chunks of a request's line. -/
def reqChunks (p : Packet) : List Nat := (List.range 8).filter (maskBit p)

/-- A line's covered chunks written. -/
def State.fabStore (s : State) (h : Held) : State :=
  (reqChunks h.pkt).foldl (fun a i => a.fabWrite h (fabOffset h.pkt.addr + 16 * i) ((h.pkt.body.drop (16 * i)).take 16)) s

/-- A line's covered chunks reduced (R374). -/
def State.fabReduce (s : State) (h : Held) : State :=
  (reqChunks h.pkt).foldl (fun a i =>
    let o := fabOffset h.pkt.addr + 16 * i
    let r := a.fabRead h o 16
    r.2.fabWrite h o (redChunk h.pkt.fop (r.1.getD (List.replicate 16 (0, true))) (redPart h.pkt.fop h.pkt.body i))) s

/-- The decode operands whose logit range holds offset `off` of the slice's tier A: that of 4,096 slots (R227, R228). -/
def logitOps (p : List Byte) (off : Nat) : List Nat :=
  (List.range 64).filter (fun i => decide (opKind p i ≠ 0) && decide (opOff p i 2 ≤ off
    ∧ off < opOff p i 2 + 4096 * opField p i 4 16 7 * (opField p i 4 0 16 * 256)))

/-- A line counts for a gated region (R376) and for the decode operands whose logits it carries (R228). -/
def State.arrive (s : State) (h : Held) : State :=
  let r := fabRegion h.pkt.addr
  let gated := h.gate
  let ops := if h.kind = 0 ∧ s.flag (STM_SLC_CTRL_ENABLE h.slice) then
      logitOps (s.stream h.slice).prof (h.base + fabOffset h.pkt.addr) else []
  if h.pkt.staged ∧ (gated ∨ ops ≠ []) then
    s.onStepRec h.slice h.step (fun x => { x with
      arrivals := if gated then mapSet (fun _ => 0) x.arrivals r (mapGet (fun _ => 0) x.arrivals r + 1) else x.arrivals
      expect := ops.foldl (fun m i => mapSet (fun _ => 0) m i (mapGet (fun _ => 0) m i + 1)) x.expect })
  else s

/-- The body of an RD's RESP: chunks outside `MASK` zero; an error completion gives words in error. -/
def State.fabLine (s : State) (h : Held) : List MByte × State :=
  (List.range 8).foldl (fun (acc : List MByte × State) i =>
    if maskBit h.pkt i then
      let r := acc.2.fabRead h (fabOffset h.pkt.addr + 16 * i) 16
      (acc.1 ++ r.1.getD (List.replicate 16 (0, true)), r.2)
    else (acc.1 ++ zerosM 16, acc.2)) ([], s)

/-- What became of a request. -/
inductive FabOut where
  | ok (body : List MByte)
  | refuse (code : Nat)
  | busy
  | held
  deriving DecidableEq, Repr

/-- Staging lines that a staged request to a tier region needs and does not find (R373). -/
def State.fabNoRoom (s : State) (h : Held) : Bool :=
  let off := (h.base + fabOffset h.pkt.addr) / 256 * 256
  let have1 := (s.stepRec h.slice h.step).lines.any (fun l => decide (l.tierB = decide (h.kind = 1) ∧ l.off = off))
  h.stages && decide (h.kind ≠ kindTile) && decide (h.pkt.op ≠ opRd) && !have1 && !s.lineFree h.slice

/-- Whether a gated read must wait (R376), under the region's entry as its check found it (R364). -/
def State.gateShut (s : State) (h : Held) : Bool :=
  h.pkt.staged && h.gate
    && decide (mapGet (fun _ => 0) (s.stepRec h.slice h.step).arrivals (fabRegion h.pkt.addr) < h.arrive)

/-- A request performed, its turn and its step having come. -/
def State.fabPerform (s : State) (h : Held) : FabOut × State :=
  let p := h.pkt
  if p.op = opRd then
    let r := s.fabLine h
    (.ok r.1, r.2)
  else if p.op = opAtom then
    let o := fabOffset p.addr
    let r := s.fabRead h o 8
    let old := r.1.getD (List.replicate 8 (0, true))
    let v := atomNew (p.fop % 16) (bytesToNat (bytesM old)) (bytesToNat (bytesM (p.body.take 8))) (bytesToNat (bytesM ((p.body.drop 8).take 8)))
    let s1 := if markedM old then r.2 else r.2.fabWrite h o (cleanM (natToBytes 8 v))
    (.ok (old ++ zerosM 8), s1.refreshSlice h.slice)
  else
    let s1 := if p.op = opRed then s.fabReduce h else s.fabStore h
    (.ok [], (s1.arrive h).refreshSlice h.slice)

/-- Room in the hold store, which the reorder store shares (R373). -/
def State.holdRoom (s : State) : Bool := decide (s.drv.hold.length + s.drv.reorder.length < 8192)

/-- A checked request applied, made to wait, or turned away for want of room (R373, R375, R376). While its tier is not open it goes
unanswered, and its source sends it again (R202; DEDUCED, log entry 122). -/
def State.fabApply (s : State) (h : Held) : FabOut × State :=
  let p := h.pkt
  if h.kind ≠ kindTile ∧ !s.tierOpen (decide (h.kind = 1)) then (.held, s)
  else if h.kind = kindTile ∧ !s.released h.slice h.step then
    (if s.holdRoom then (.held, s.onDrv (fun r => { r with hold := r.hold ++ [h] })) else (.busy, s))
  else if p.op = opRd ∧ s.gateShut h then (.held, s.onDrv (fun r => { r with gated := r.gated ++ [h] }))
  else if s.fabNoRoom h then (.busy, s)
  else if floatAdd p then
    let rank := s.rankOf h.slice p.src
    if rank = s.nextRank h.slice h.step p then
      let r := s.fabPerform h
      (r.1, r.2.onStepRec h.slice h.step (fun x => { x with ranks := mapSet (fun _ => 0) x.ranks (rankKey p) (rank + 1) }))
    else if s.holdRoom then (.held, s.onDrv (fun r => { r with reorder := r.reorder ++ [h] }))
    else (.busy, s)
  else s.fabPerform h

/-! ### The duplicate window (R387, R388) -/

/-- The key of a source's window on a flow. -/
def winKey (p : Packet) : Nat := 2 * p.src + (if p.flow = flowCtrl then 1 else 0)
/-- A window. -/
def State.win (s : State) (p : Packet) : Win := mapGet (fun _ => Win.fresh) s.drv.wins (winKey p)

/-- F advanced past the numbers applied. -/
def winAdvance : Nat → Win → Win
  | 0, w => w
  | n + 1, w =>
    if w.applied.contains w.f then
      winAdvance n { w with f := (w.f + 1) % 2 ^ 32, applied := w.applied.filter (fun q => decide (q ≠ w.f)) }
    else w

/-- A number entered as applied, refused or not. -/
def winEnter (seq : Nat) (refused : Bool) (w : Win) : Win :=
  let w1 := winAdvance (w.applied.length + 1)
    { w with applied := w.applied ++ [seq], refused := if refused then w.refused ++ [seq] else w.refused }
  { w1 with refused := w1.refused.filter (fun q => decide ((w1.f + 2 ^ 32 - q) % 2 ^ 32 ≤ 4096 ∨ (q + 2 ^ 32 - w1.f) % 2 ^ 32 < 4096)) }

/-- The device address of a request's outcome slot (R388). -/
def slotAddr (p : Packet) : Nat :=
  (287 + 288 * (p.src % 4)) * 2 ^ 28 + 224 * 2 ^ 20 + 32768 * (p.src / 4) + 8 * (p.seq % 4096)

/-- An outcome slot written. -/
def State.setSlot (s : State) (p : Packet) (v : List MByte) : State := (s.devWrite false (slotAddr p) v).2
/-- An outcome slot read; an error completion gives bytes in error. -/
def State.slotOf (s : State) (p : Packet) : List MByte × State :=
  let r := s.devRead false (slotAddr p) 8 0
  (r.1.getD (List.replicate 8 (0, true)), r.2)

/-- Whether a window holds a number as applied or has passed it. -/
def Win.has (w : Win) (seq : Nat) : Bool := w.applied.contains seq || decide (2 ^ 31 ≤ (seq + 2 ^ 32 - w.f) % 2 ^ 32)

/-- A number of a window entered, its outcome kept; a replayed request enters nothing (R388). -/
def State.enterWin (s : State) (p : Packet) (out : FabOut) : State :=
  if (s.win p).has p.seq then s else
  let refused := match out with | .refuse _ => true | _ => false
  let s1 := s.onDrv (fun r => { r with
    wins := mapSet (fun _ => Win.fresh) r.wins (winKey p) (winEnter p.seq refused (mapGet (fun _ => Win.fresh) r.wins (winKey p))) })
  match out with
  | .refuse code => if p.flow = flowCtrl then s1 else s1.setSlot p (cleanM (natToBytes 8 code))
  | .ok body => if p.op = opAtom ∧ p.typ = pktReq then s1.setSlot p (body.take 8) else s1
  | _ => s1

/-- NACK BUSY (R373). -/
def State.sayBusy (s : State) (p : Packet) : State := (s.tally DRV_BUSY).answer p pktNack 15 []

/-- A request's outcome entered and answered (R386, R387). -/
def State.fabFinish (s : State) (p : Packet) (out : FabOut) : State :=
  match out with
  | .busy => s.sayBusy p
  | .held => s
  | .refuse code => ((s.enterWin p out).noteRefusal p code).answer p pktNack code []
  | .ok body =>
    let s1 := s.enterWin p out
    if p.typ = pktReq ∧ (p.op = opRd ∨ p.op = opAtom) then s1.answer p pktResp 0 body else s1.answer p pktAck 0 []

/-- Contributions whose turn has come, applied in ascending rank (R375). -/
def State.fabChain : Nat → State → State
  | 0, s => s
  | f + 1, s =>
    match s.drv.reorder.find? (fun h => decide (s.rankOf h.slice h.pkt.src = s.nextRank h.slice h.step h.pkt) && !s.fabNoRoom h) with
    | none => s
    | some h =>
      let s1 := s.onDrv (fun r => { r with reorder := r.reorder.filter (fun x => decide (x ≠ h)) })
      let r := s1.fabApply h
      State.fabChain f (r.2.fabFinish h.pkt r.1)

/-- A request checked, applied and answered. A void is checked like any other read, and reads nothing (R363, R396). -/
def State.fabServe (s : State) (p : Packet) : State :=
  match s.fabCheck p with
  | .inl code => s.fabFinish p (.refuse code)
  | .inr h =>
    let r := s.fabApply h
    let s1 := r.2.fabFinish p r.1
    s1.fabChain s1.drv.reorder.length

/-- Whether two packets are copies of one request. -/
def samePkt (p q : Packet) : Bool := decide (p.src = q.src ∧ p.flow = q.flow ∧ p.seq = q.seq)

/-- Whether a copy of a request waits at this target. -/
def State.waits (s : State) (p : Packet) : Bool :=
  (s.drv.hold ++ s.drv.reorder ++ s.drv.gated).any (fun h => samePkt h.pkt p)

/-- A duplicate answered again (R388); a read is served again, held or gated as its region and step have it now. -/
def State.fabReplay (s0 : State) (p : Packet) : State :=
  let s := s0.tally DRV_DUP
  if p.flow = flowCtrl then s.answer p pktAck 0 []
  else if (s.win p).refused.contains p.seq then
    let r := s.slotOf p
    r.2.answer p pktNack (bytesToNat (bytesM (r.1.take 1)) % 16) []
  else if p.op = opAtom then
    let r := s.slotOf p
    r.2.answer p pktResp 0 (r.1 ++ zerosM 8)
  else if p.op = opRd then
    (if s.waits p then s
    else
      match s.fabCheck p with
      | .inl code => (s.noteRefusal p code).answer p pktNack code []
      | .inr h =>
        let r := s.fabApply h
        r.2.fabFinish p r.1)
  else s.answer p pktAck 0 []

/-- Waiting copies of a request dropped. -/
def State.dropWaiting (s : State) (p : Packet) : State :=
  let keep (l : List Held) : List Held := l.filter (fun h => !samePkt h.pkt p)
  s.onDrv (fun r => { r with hold := keep r.hold, reorder := keep r.reorder, gated := keep r.gated })

/-- A request past its epoch check handled by its window (R387); `serve` applies one that is new. -/
def State.windowed (s : State) (p : Packet) (serve : State → State) : State :=
  let w := s.win p
  let d := (p.seq + 2 ^ 32 - w.f) % 2 ^ 32
  if !(decide (p.flow = flowOf s.self ∧ p.typ = pktReq) || decide (p.flow = flowCtrl ∧ p.typ = pktCtrl)) then s.stale
  else if 2 ^ 31 ≤ d then (if (w.f + 2 ^ 32 - p.seq) % 2 ^ 32 ≤ 4096 then s.fabReplay p else s.stale)
  else if 4096 ≤ d then s.stale
  else if w.applied.contains p.seq then s.fabReplay p
  else if s.waits p then (if isVoid p then serve (s.dropWaiting p) else s)
  else serve s

/-- A packet of a device that the epoch has fenced (R398, R403): a request is refused with the first code that R363 finds, FENCED at the
last, and a commit message is dropped. No window is kept for it and no answer goes to it (DEDUCED, log entry 130). -/
def State.fencedRefuse (s : State) (p : Packet) : State :=
  if p.typ = pktCtrl then s.drvEvent DRV_EVENT_CTRL_DROP
  else match s.fabCheck p with
  | .inl code => s.noteRefusal p code
  | .inr _ => s.noteRefusal p 10

/-- The epoch check of a request (R400). -/
def State.epochChecked (s : State) (p : Packet) (serve : State → State) : State :=
  let d := (s.get DRV_EPOCH_EPOCH + 2 ^ 16 - p.epoch) % 2 ^ 16
  if !s.admitted then s.stale
  else if d = 0 ∨ d = 1 then (if s.member p.src = memFenced then s.fencedRefuse p else s.windowed p serve)
  else if d = 65535 then s.sayBusy p
  else s.stale

/-- A packet taken in on a port, or from the loopback (R359); `none` where it did not arrive. A packet whose check bits
fail is dropped (`DET_090`). -/
def State.takeIn (s : State) (port : Option Nat) (ok : Bool) (p : Packet) : Option State × State :=
  match port with
  | none =>
    if s.drv.loop.contains p ∧ p.dst = s.self then (some (s.onDrv (fun r => { r with loop := r.loop.erase p })), s) else (none, s)
  | some q =>
    if !s.portUp q then (none, s)
    else
      let inj := !p.body.isEmpty && (s.drvInj 2 q || s.drvInj 3 q)
      if ok && !inj then (some s, s)
      else
        let s1 := if inj then s.put DRV_INJECT_ARM 0 else s
        (none, s1.fire 90 q 4 0 0)

/-- A packet for this part handled by `f` once it is in. -/
def State.onPacket (s : State) (port : Option Nat) (ok : Bool) (p : Packet) (f : State → State) : State :=
  let r := s.takeIn port ok p
  match r.1 with
  | none => r.2
  | some s1 => if p.dst = s1.self then f s1 else s1

/-- A request of operation `op` received. -/
def State.recvReq (s : State) (op : Nat) (port : Option Nat) (ok : Bool) (p : Packet) : State :=
  if p.typ = pktReq ∧ p.op = op then s.onPacket port ok p (fun a => a.epochChecked p (fun b => b.fabServe p)) else s

/-- HELD_REQUEST_RELEASE: held request `k` is served once its step is released (R373). -/
def State.heldRelease (s : State) (k : Nat) : State :=
  match s.drv.hold[k]? with
  | none => s
  | some h =>
    if s.released h.slice h.step then
      let s1 := s.onDrv (fun r => { r with hold := r.hold.eraseIdx k })
      let r := s1.fabApply h
      let s2 := r.2.fabFinish h.pkt r.1
      s2.fabChain s2.drv.reorder.length
    else s

/-- GATED_READ_ANSWER: waiting read `k` of a gated region is answered once its count has come (R376). -/
def State.gatedAnswer (s : State) (k : Nat) : State :=
  match s.drv.gated[k]? with
  | none => s
  | some h =>
    if s.gateShut h then s
    else
      let s1 := s.onDrv (fun r => { r with gated := r.gated.eraseIdx k })
      let r := s1.fabPerform h
      r.2.fabFinish h.pkt r.1

/-! ### Meanings -/

/-- REQ_RD. -/
def execReqRd (port : Option (Fin 12)) (ok : Bool) (p : Packet) (s : State) : Answer := .next (s.recvReq opRd (port.map Fin.val) ok (packetFit p))
/-- REQ_WR. -/
def execReqWr (port : Option (Fin 12)) (ok : Bool) (p : Packet) (s : State) : Answer := .next (s.recvReq opWr (port.map Fin.val) ok (packetFit p))
/-- REQ_RED. -/
def execReqRed (port : Option (Fin 12)) (ok : Bool) (p : Packet) (s : State) : Answer := .next (s.recvReq opRed (port.map Fin.val) ok (packetFit p))
/-- REQ_ATOM. -/
def execReqAtom (port : Option (Fin 12)) (ok : Bool) (p : Packet) (s : State) : Answer := .next (s.recvReq opAtom (port.map Fin.val) ok (packetFit p))
/-- REQ_MCW. -/
def execReqMcw (port : Option (Fin 12)) (ok : Bool) (p : Packet) (s : State) : Answer := .next (s.recvReq opMcw (port.map Fin.val) ok (packetFit p))
/-- HELD_REQUEST_RELEASE. -/
def execHeldRequestRelease (k : Fin 8192) (s : State) : Answer := .next (s.heldRelease k)
/-- GATED_READ_ANSWER. -/
def execGatedReadAnswer (k : BitVec 32) (s : State) : Answer := .next (s.gatedAnswer k.toNat)

end Sys2Proof.Machine
end

