-- ==== Sys2Proof/Machine/DravselSource.lean ====
section
/-! DEFINITION. Dravsel at the source: the requests that the mover issues (R94, R361, R370, R372, R378, R385), deferred
lines (R164, R169, R402), answers (R386, R389), timers (R391 to R393), and the mover's request issue. -/

namespace Sys2Proof.Machine

/-! ### Binding (R361, R405) -/

/-- The lowest-numbered redirect entry in force that matches a fabric address applied to it (R405). -/
def State.redirect (s : State) (a : Nat) : Nat :=
  let d := fabDev a
  let r := fabRegion a
  match s.drv.redir.find? (fun e => decide (e.oldDev = d ∧ e.regBase ≤ r ∧ r < e.regBase + e.count)) with
  | none => a
  | some e => e.newDev * 2 ^ 52 + (e.newBase + (r - e.regBase)) % 4096 * 2 ^ 40 + fabOffset a

/-- The fabric addresses that an operation's range starts at: one, or one for each member of a multicast group (R378). -/
def State.fabBases (s : State) (d : MoverRec) : List Nat :=
  let a := d.remote.toNat
  if d.op = 10 then (s.mcast d.mgroup.toNat).map (fun m => s.redirect (m * 2 ^ 52 + a % 2 ^ 52)) else [s.redirect a]

/-- Whether a record names a key of the slice's range (R361). -/
def State.keyOk (s : State) (sl : Nat) (d : MoverRec) : Bool := decide (d.keyidx.toNat < s.get (SLC_KEYS_COUNT sl))
/-- The key that a record names. -/
def State.keyFor (s : State) (sl : Nat) (d : MoverRec) : Nat := s.get (DRV_KEYLIST_KEY ((s.get (SLC_KEYS_BASE sl) + d.keyidx.toNat) % 4096))

/-- Whether a record's multicast group may be used (R378). -/
def State.mgroupOk (s : State) (sl : Nat) (d : MoverRec) : Bool :=
  decide (d.op ≠ 10) || decide (d.mgroup.toNat ≠ 0 ∧ s.get (SLC_MCAST_BASE sl) ≤ d.mgroup.toNat
    ∧ d.mgroup.toNat < s.get (SLC_MCAST_BASE sl) + s.get (SLC_MCAST_COUNT sl))

/-- An operation's key and addresses as its first packet takes them. -/
def State.bindOp (s : State) (o : MvOp) : MvOp :=
  match o.bkey with
  | some _ => o
  | none => { o with bkey := some (s.keyFor o.slice o.desc), bdst := s.fabBases o.desc }

/-! ### Packets of a unit (R370) -/

/-- The operation code of a fabric kind (R368). -/
def kindOp (op : Nat) : Nat := if op = 7 then opRd else if op = 8 then opWr else if op = 9 then opRed else if op = 11 then opAtom else opMcw

/-- The mask of chunks `lo` to `lo + n` bytes of a line. -/
def lineMask (lo n : Nat) : Nat :=
  (List.range 8).foldl (fun m i => if lo ≤ 16 * i ∧ 16 * i < lo + n then m + 2 ^ i else m) 0

/-- The request that unit `i` of an operation makes of the range that starts at fabric address `base`. -/
def unitPacket (d : MoverRec) (i base key step : Nat) (staged tc0 : Bool) (data : List MByte) : Packet :=
  let pc := moverPiece d i
  let a := base + pc.1
  let m := moverScale d
  let o := a % 128
  let op := kindOp d.op.toNat
  let body := if op = opRd then [] else if op = opAtom then data
    else zerosM (o / m) ++ data ++ zerosM (128 / m - o / m - data.length)
  ⟨pktReq, op, d.fop.toNat, 0, 15, staged, tc0, 0, 0, fabDev a, if op = opAtom then 0 else lineMask o (m * pc.2.2), 0,
    if op = opAtom then a else a / 128 * 128, key, if staged then step % 2 ^ 16 else 0,
    if op = opMcw then d.mgroup.toNat else 0, 0, body⟩

/-! ### Deferred lines (R164, R169, R402) -/

/-- The key of a deferred line: its operation's, or the one read as its first packet is formed (R361). -/
def State.defKey (s : State) (l : DefLine) : Nat := l.key.getD (s.keyFor l.slice l.desc)

/-- The requests of a deferred line. -/
def State.defPackets (s : State) (l : DefLine) : List Packet :=
  (s.fabBases l.desc).map (fun b => unitPacket l.desc l.idx b (s.defKey l) 0 false false (wordsM l.data))

/-- The lines that wait behind a line of their operation take its key (R361). -/
def takeKey (l : DefLine) (key : Nat) (x : DefLine) : DefLine :=
  if x.slice = l.slice ∧ x.ofOp = l.ofOp then { x with key := some key } else x

/-- A deferred effect dropped because its destination is fenced (R402). -/
def State.deferDrop (s : State) : State := (s.tally DRV_DEFER_DROP).drvEvent DRV_XPORT_EVENT_DEFER_DROP

/-- A deferred line's request sent, or dropped where its destination is fenced. -/
def State.sendDef (s : State) (l : DefLine) (p : Packet) : State :=
  if s.member p.dst = memFenced then s.deferDrop else s.sendOrWait p (.deferred l.slice)

/-- Deferred lines leave in order while the first of them may (R169, R385). -/
def State.defDrain : Nat → State → State
  | 0, s => s
  | n + 1, s =>
    match s.drv.defq with
    | [] => s
    | l :: rest =>
      let ps := s.defPackets l
      if s.admitted && ps.all (fun p => decide (s.member p.dst = memFenced) || s.mayGo p) then
        let s1 := s.onDrv (fun r => { r with defq := rest.map (takeKey l (s.defKey l)) })
        State.defDrain n (ps.foldl (fun a p => a.sendDef l p) s1)
      else s

/-- The requests that wait, and every deferred line that can leave, do (R169, R385). -/
def State.drainDeferred (s : State) : State := s.drainWaiting.defDrain s.drv.defq.length

/-- A committed step's fabric lines join those that wait (R169). -/
def State.deferFab (s : State) (sl : Nat) (e : Deferred) (d : MoverRec) (idx : Nat) (data : List CWord) : State :=
  s.onDrv (fun r => { r with defq := r.defq ++ [⟨sl, (e.ltile, e.pos / 2 ^ 20), none, d, idx, data⟩] })

/-! ### Answers (R386, R389) -/

/-- A unit is complete when no request of it is left. -/
def State.unitDone (s : State) (o : Origin) (data : List MByte) (cause : Nat) : State :=
  match o with
  | .unit t c pos idx slice =>
    match (s.tile t).ctx c with
    | none => s
    | some p =>
      if p.pos ≠ pos ∨ p.slice ≠ slice then s
      else
        let s1 := s.onOp t c (fun q => { q with cause := if q.cause = causeNone then cause else q.cause })
        if s1.drv.pend.any (fun x => decide (x.origin = o) && !x.void) || s1.drv.waitq.any (fun x => decide (x.origin = o)) then s1 else s1.post t c idx data cause
  | _ => s

/-- A request answered (R386): its record ends, its device is SUSPECT no more. -/
def State.settle (s : State) (x : Pend) : State :=
  let s1 := s.onDrv (fun r => { r with pend := (r.pend.filter (fun y => !y.same x)).map (fun y =>
    if y.pkt.dst = x.pkt.dst then { y with spent := false } else y) })
  (s1.put (DRV_DEST_STATUS_SUSPECT x.pkt.dst) 0).refreshDest x.pkt.dst

/-- The first answer to a request that this part has a record of; a later one is ignored (R386). A void's answer is
counted and completes nothing (R396). -/
def State.answered (s : State) (p : Packet) (f : State → Pend → State) : State :=
  match s.pendOf p.src p.flow p.seq with
  | none => s
  | some x =>
    let s1 := s.settle x
    let s2 := if x.void then s1.tally DRV_VOID else f s1 x
    s2.drainDeferred

/-- The data that a RESP brings for a request: the covered chunks of the line, or the old value of an atomic. -/
def respData (req resp : Packet) : List MByte :=
  if req.op = opAtom then resp.body.take 8
  else (reqChunks req).flatMap (fun i => (resp.body.drop (16 * i)).take 16)

/-- ACK received. -/
def State.recvAck (s : State) (port : Option Nat) (ok : Bool) (p : Packet) : State :=
  if p.typ = pktAck then s.onPacket port ok p (fun a => a.answered p (fun b x => b.unitDone x.origin [] causeNone)) else s
/-- RESP received. -/
def State.recvResp (s : State) (port : Option Nat) (ok : Bool) (p : Packet) : State :=
  if p.typ = pktResp then
    s.onPacket port ok p (fun a => a.answered p (fun b x => b.unitDone x.origin (respData x.pkt p) causeNone))
  else s
/-- NACK with a refusal code received. -/
def State.recvRefusal (s : State) (port : Option Nat) (ok : Bool) (p : Packet) : State :=
  if p.typ = pktNack ∧ p.code ≠ 15 then
    s.onPacket port ok p (fun a => a.answered p (fun b x => b.unitDone x.origin [] causeRefused))
  else s
/-- NACK BUSY received (R392). -/
def State.recvBusy (s : State) (port : Option Nat) (ok : Bool) (p : Packet) : State :=
  if p.typ = pktNack ∧ p.code = 15 then
    s.onPacket port ok p (fun a => match a.pendOf p.src p.flow p.seq with
      | none => a
      | some x => a.setPend { x with busy := true })
  else s

/-! ### Timers (R391 to R393) -/

/-- The flow of a request towards a device. -/
def flowTo (d : Nat) (ctrl : Bool) : Nat := if ctrl then flowCtrl else flowOf d

/-- BUSY_RESEND: the request goes again on the same port choice (R392). -/
def State.busyResend (s : State) (d : Nat) (ctrl : Bool) (seq : Nat) : State :=
  match s.pendOf d (flowTo d ctrl) seq with
  | none => s
  | some x => if x.busy then s.resend x x.attempt else s

/-- RTO_EXPIRY: the next attempt, or after the fourth the destination is SUSPECT (R391, R393). -/
def State.rtoExpiry (s : State) (d : Nat) (ctrl : Bool) (seq : Nat) : State :=
  match s.pendOf d (flowTo d ctrl) seq with
  | none => s
  | some x =>
    if x.busy ∨ x.spent then s
    else if x.attempt < 3 then s.nextAttempt x
    else
      let was := s.flag (DRV_DEST_STATUS_SUSPECT d)
      let s1 := ((s.setPend { x with spent := true }).put (DRV_DEST_STATUS_SUSPECT d) 1).drvEvent DRV_XPORT_EVENT_SUSPECT
      if was then s1 else s1.fire 91 d 4 0 0

/-- XPORT_PROBE (R393). -/
def State.xportProbe (s : State) (v : Word) : State := (s.writeCodes (DRV_XPORT_PROBE_DEV).key v false).resendAll (v.toNat % 4096)

/-! ### The mover's requests (R94) -/

/-- What a fabric operation's next unit does. -/
inductive FabPlan where
  /-- The operation is not sent and ends in ERROR. -/
  | stop (cause : Nat)
  /-- The line is held until commit. -/
  | defer
  /-- The line's requests. -/
  | send (ps : List Packet)
  deriving DecidableEq, Repr

/-- How a fabric operation proceeds (R361, R168, R164, R372, R378). -/
def State.fabPlan (s : State) (o : MvOp) (data : List MByte) : FabPlan :=
  let op := o.desc.op.toNat
  let sl := o.slice
  let members := s.commitGroup sl
  let inGroup := o.bdst.all (fun b => members.contains (fabDev b))
  if !s.keyOk sl o.desc || !s.mgroupOk sl o.desc then .stop causeRefused
  else if op = 11 ∧ !inGroup then .stop causeNotStage
  else if !inGroup ∧ op ≠ 7 ∧ sl ≠ 0 then .defer
  else .send (o.bdst.map (fun b => unitPacket o.desc o.next b (o.bkey.getD 0) o.step inGroup (decide (sl = 0)) data))

/-- Whether context `c` can issue its next request now: for a fabric line, while R385 lets every copy of it go. -/
def State.canIssue (s : State) (t c : Nat) : Bool :=
  match (s.tile t).ctx c with
  | none => false
  | some o =>
    decide (ctxState moverTotal (s.tile t) c = 1) &&
      (decide (o.desc.op.toNat < 7) || (s.opId t o).replay ||
        (match s.fabPlan (s.bindOp o) [] with
          | .stop _ => true
          | .defer => s.lineFree o.slice || decide ((s.slice o.slice).committed = [])
          | .send ps => ps.all s.mayGo))

/-- An operation that is not sent: nothing more of it issues, and its entry ends in ERROR. -/
def stopOp (cause : Nat) (o : MvOp) : MvOp := { o with next := moverTotal o.desc, cause := cause }

/-- A fabric unit issued. -/
def State.fabIssue (s0 : State) (t c : Nat) (o0 : MvOp) : State :=
  let o := s0.bindOp o0
  let s := s0.onOp t c (fun _ => o)
  match s.fabPlan o [] with
  | .stop cause => s.onOp t c (stopOp cause)
  | .defer =>
    if (s.opId t o).replay then (s.makeRequest t c o).1
    else if !s.lineFree o.slice then
      (s.dspEvent o.slice (DSP_SLC_EVENT_STAGE_FULL o.slice)).onOp t c (stopOp causeStage)
    else
      let r := s.makeRequest t c o
      let e : Deferred := ⟨1, o.ltile, o.pos * 2 ^ 20 + o.next, .fab o.desc o.next (toCWords r.2.data)⟩
      let s1 := r.1.onSlice o.slice (fun x => { x with steps := x.steps.map (fun q =>
        if q.num = o.step then { q with deferred := q.deferred ++ [e] } else q) })
      (s1.post t c o.next [] causeNone).refreshSlice o.slice
  | .send _ =>
    let r := s.makeRequest t c o
    if (s.opId t o).replay then r.1
    else
      match s.fabPlan o r.2.data with
      | .send [] => r.1.post t c o.next [] causeNone
      | .send ps => ps.foldl (fun a p => a.sendOrWait p (.unit t c o.pos o.next o.slice)) r.1
      | _ => r.1

/-- MOVER_REQUEST_ISSUE: the first context after the one that issued last that is READY and can issue does (R94). -/
def State.requestIssue (s : State) (t : Nat) : State :=
  match (s.tile t).ctxOrder.find? (fun c => s.canIssue t c) with
  | none => s
  | some c =>
    match (s.tile t).ctx c with
    | none => s
    | some o =>
      let s1 := if o.desc.op.toNat < 7 then (s.makeRequest t c o).1 else s.fabIssue t c o
      (s1.onTile t (fun x => { x with lastCtx := c })).refreshTile t

/-! ### Meanings -/

/-- MOVER_REQUEST_ISSUE. -/
def execMoverRequestIssue (t : Fin 1024) (s : State) : Answer := .next (s.requestIssue t)
/-- ACK. -/
def execAck (port : Option (Fin 12)) (ok : Bool) (p : Packet) (s : State) : Answer := .next (s.recvAck (port.map Fin.val) ok (packetFit p))
/-- RESP. -/
def execResp (port : Option (Fin 12)) (ok : Bool) (p : Packet) (s : State) : Answer := .next (s.recvResp (port.map Fin.val) ok (packetFit p))
/-- NACK_REFUSAL. -/
def execNackRefusal (port : Option (Fin 12)) (ok : Bool) (p : Packet) (s : State) : Answer :=
  .next (s.recvRefusal (port.map Fin.val) ok (packetFit p))
/-- NACK_BUSY. -/
def execNackBusy (port : Option (Fin 12)) (ok : Bool) (p : Packet) (s : State) : Answer := .next (s.recvBusy (port.map Fin.val) ok (packetFit p))
/-- BUSY_RESEND. -/
def execBusyResend (d : Fin 4096) (ctrl : Bool) (seq : Word) (s : State) : Answer := .next (s.busyResend d ctrl seq.toNat)
/-- RTO_EXPIRY. -/
def execRtoExpiry (d : Fin 4096) (ctrl : Bool) (seq : Word) (s : State) : Answer := .next (s.rtoExpiry d ctrl seq.toNat)
/-- XPORT_PROBE. -/
def execXportProbe (v : Word) (s : State) : Answer := .next (s.xportProbe v)

end Sys2Proof.Machine
end

