-- ==== Sys2Proof/Machine/TileRegs.lean ====
section
/-! DEFINITION. The background test and row repair of a scratchpad (R101 to R103), and the writes of a tile's registers
and of the plain's group marks that have a behaviour of their own (R96, R105 to R107). -/

namespace Sys2Proof.Machine

/-! ### Background test (R101, R102) -/

/-- Rows of a chunk (R101): chunk 192 is the spare rows. -/
def chunkRow (c : Nat) : Nat := 16 * c

/-- A row that fails the march test moves to the lowest-numbered spare row with no valid entry, with a repair record; without a
spare the row stays, the tile is degraded and its group retired (R102). A spare row that fails, and a row already moved, only set `ROW_FAIL`
(DESIGN CHOICE, log entry 105). -/
def State.rowFail (s0 : State) (t row : Nat) : State :=
  let s := s0.put (TIL_BIST_STATUS_ROW_FAIL t) 1
  if 3072 ≤ row ∨ s.physRow t row ≠ row then s
  else
    match (List.range 16).find? (fun i => !s.flag (TIL_REPAIR_MAP_VALID t i)) with
    | some i =>
      let data := (s.tile t).spad.readWords (16 * row) 16
      let s1 := s.onTile t (fun x => { x with spad := x.spad.writeWords (16 * (3072 + i)) data })
      let s2 := (s1.put (TIL_REPAIR_MAP_ROW t i) row).put (TIL_REPAIR_MAP_VALID t i) 1
      ((s2.put (TIL_BIST_STATUS_SPARES_FREE t) (s2.get (TIL_BIST_STATUS_SPARES_FREE t) - 1)).fire 10 t (t / 256)
        (s2.get (TIL_STATE_OWNER t)) row).pushRepair 2 t (s2.get (TIL_STATE_OWNER t)) row
    | none =>
      let g := groupOf t
      let r := s.integ.retired ||| BitVec.ofNat 64 (2 ^ g)
      let s1 := { s with integ := { s.integ with retired := r } }
      (s1.put (TIL_STATE_DEGRADED t) 1).fire 11 t (t / 256) (s1.get (TIL_STATE_OWNER t)) row

/-- The chunk that the test takes next: a queued one, or the next in order (R101). -/
def State.nextChunk (s : State) (t : Nat) : Nat := ((s.tile t).chunkQ.head?).getD (s.get (TIL_BIST_STATUS_CHUNK t))

/-- The end of a chunk: the order goes on, a pass ends after chunk 192 (R101). `CHUNK` is the next chunk in order, whatever queued chunk is
taken in between (DESIGN CHOICE, log entry 106). -/
def State.chunkEnd (s : State) (t : Nat) (queued : Bool) : State :=
  let c := s.get (TIL_BIST_STATUS_CHUNK t)
  if queued then s
  else if c = 192 then (s.put (TIL_BIST_STATUS_CHUNK t) 0).put (TIL_BIST_STATUS_PASS_DONE t) 1
  else s.put (TIL_BIST_STATUS_CHUNK t) (c + 1)

/-- SPAD_BIST_CHUNK: one chunk copied with correction, which counts what it finds (R90), march-tested and copied back; `fails` are the rows that
fail (DESIGN CHOICE, log entry 17). The test is no step's read: no step becomes suspect (DEDUCED, log entry 17). -/
def State.spadBist (s : State) (t : Nat) (fails : BitVec 16) : State :=
  if s.groupOn (groupOf t) && s.flag (TIL_BIST_CTRL_BG_EN t) then
    let c := s.nextChunk t
    let ws := (s.tile t).spad.readWords (16 * chunkRow c) 256
    let queued := !(s.tile t).chunkQ.isEmpty
    let s0 := s.onTile t (fun x => { x with chunkQ := x.chunkQ.drop 1 })
    let s1 := ((List.range 16).foldl (fun a i => a.spadCount t (chunkRow c + i) 0 16) s0).onTile t (fun x => { x with spad := x.spad.writeWords (16 * chunkRow c) ws, testBuf := memEmpty })
    let s2 := (List.range 16).foldl (fun a i => if fails.getLsbD i then a.rowFail t (chunkRow c + i) else a) s1
    s2.chunkEnd t queued
  else s

/-! ### Register writes -/

/-- HW_CLR: the high-water mark of the selected tile restarts at the entries in use (R96). -/
def State.hwClr (s : State) : State :=
  let t := s.winTile
  s.ifTile t (fun a => a.put (TIL_SCB_STATUS_HIGH_WATER t) (a.get (TIL_SCB_STATUS_IN_USE t)))

/-- TIL_BIST_RESTART: a new pass starts at chunk 0 after the chunk in progress, of which the model has none between
commands (R101). -/
def State.tilRestart (s : State) : State :=
  let t := s.winTile
  s.ifTile t (fun a => a.put (TIL_BIST_STATUS_CHUNK t) 0)

/-- REPAIR_MAP_WRITE: accepted while the tile's `MODE` is OFF or IDLE, also while its group is off (R104, R106). -/
def State.repairWrite (s : State) (i : Nat) (v : Word) : State :=
  let t := s.winTile
  let m := s.get (TIL_STATE_MODE t)
  if !s.present (groupOf t) then s.put (fPwrOff (tileStatus t)) 1
  else if m = modeOff ∨ m = modeIdle then
    let s1 := s.writeCodes (TIL_REPAIR_MAP_ROW t i).key v false
    let used := ((List.range 16).filter (fun j => s1.flag (TIL_REPAIR_MAP_VALID t j))).length
    s1.put (TIL_BIST_STATUS_SPARES_FREE t) (16 - used)
  else (s.put (fLockWr (tileStatus t)) 1).noteRsvd (TIL_REPAIR_MAP_ROW t i).key v

/-- TILE_INJECT_ARM: `POINT` and `BIT` taken and the injection armed (R107). -/
def State.tileArm (s : State) (v : Word) : State :=
  let t := s.winTile
  s.ifTile t (fun a =>
    (a.writeCodes (TIL_INJECT_ARM t).key v false).putIf (v.getLsbD 31) (TIL_INJECT_ARM t) 1)

/-- The write of one bit of the group marks (R105): 1 for an absent group is ignored, a change for a granted group is
ignored and noted. -/
def State.markGroup (s : State) (g : Nat) (b : Bool) : State :=
  if b = s.marked g then s
  else if b && !s.present g then s
  else if (s.holder g).isSome then s.lockWr 0
  else
    let s1 := s.putPairBit PLN_RADIO_GROUPS_LO_LEND PLN_RADIO_GROUPS_HI_LEND g b
    (groupTiles g).foldl (fun a t => a.putB (TIL_STATE_LEND t) b) s1

/-- RADIO_GROUPS_WRITE: locked while slice 0 exists (R105). -/
def State.radioGroups (s : State) (hi : Bool) (v : Word) : State :=
  let f := if hi then PLN_RADIO_GROUPS_HI_LEND else PLN_RADIO_GROUPS_LO_LEND
  if s.taken 0 then (if s.reg f.key = v then s else s.lockWr 0)
  else (List.range 32).foldl (fun a i => a.markGroup ((if hi then 32 else 0) + i) (v.getLsbD i)) s

/-! ### Meanings -/

/-- SPAD_BIST_CHUNK. -/
def execSpadBistChunk (t : Fin 1024) (fails : BitVec 16) (s : State) : Answer := .next (s.spadBist t fails)
/-- HW_CLR. -/
def execHwClr (s : State) : Answer := .next s.hwClr
/-- TIL_BIST_RESTART. -/
def execTilBistRestart (s : State) : Answer := .next s.tilRestart
/-- REPAIR_MAP_WRITE. -/
def execRepairMapWrite (n : Fin 16) (v : Word) (s : State) : Answer := .next (s.repairWrite n v)
/-- TILE_INJECT_ARM. -/
def execTileInjectArm (v : Word) (s : State) : Answer := .next (s.tileArm v)
/-- RADIO_GROUPS_WRITE. -/
def execRadioGroupsWrite (hi : Bool) (v : Word) (s : State) : Answer := .next (s.radioGroups hi v)

end Sys2Proof.Machine
end

