-- ==== Sys2Proof/Machine/PlanImage.lean ====
section
/-! DEFINITION. Plan images as byte strings (R110 to R138): the header, the section table, the records of each section,
and the CHECK stage. -/

namespace Sys2Proof.Machine

/-- A failure of a load: code (R141), section index, record index. -/
structure LoadErr where
  code : Nat
  sect : Nat
  idx  : Nat
  deriving DecidableEq, Repr

/-- A failure if a condition holds. -/
def errIf (c : Bool) (code sect idx : Nat) : Option LoadErr := if c then some ⟨code, sect, idx⟩ else none

/-- The first failure of a list of checks. -/
def firstErr (l : List (Option LoadErr)) : Option LoadErr := l.findSome? (fun e => e)

/-- The section index of the header, table or signature. -/
def sectNone : Nat := 0x3FF

/-- A little-endian number of `n` bytes at offset `off`. -/
def leAt (img : List Byte) (off n : Nat) : Nat := bytesToNat ((img.drop off).take n)

/-- A section-table entry (R112). -/
structure Sect where
  idx    : Nat
  typ    : Nat
  lgroup : Nat
  off    : Nat
  len    : Nat
  nrec   : Nat
  crc    : Nat
  rsvd   : Bool
  deriving DecidableEq, Repr

/-- PLACEMENT. -/
def tPlacement : Nat := 1
/-- SEGMENT. -/
def tSegment : Nat := 2
/-- SELECTOR. -/
def tSelector : Nat := 3
/-- VARIANT. -/
def tVariant : Nat := 4
/-- TILE_FUNC. -/
def tTileFunc : Nat := 0x10
/-- ROUTE. -/
def tRoute : Nat := 0x11
/-- SCHEDULE. -/
def tSchedule : Nat := 0x12
/-- ADDR. -/
def tAddr : Nat := 0x13
/-- ROUTING. -/
def tRouting : Nat := 0x14
/-- INIT. -/
def tInit : Nat := 0x15

/-! ### Header fields (R111) -/

/-- Whether the image is for slice 0. -/
def hRadio (img : List Byte) : Bool := decide (leAt img 9 1 % 2 = 1)
/-- Whether the image is partial. -/
def hPartial (img : List Byte) : Bool := decide (leAt img 9 1 / 2 % 2 = 1)
/-- Whether the image is signed. -/
def hSigned (img : List Byte) : Bool := decide (leAt img 0xA 2 % 2 = 1)
/-- `N_SECT`. -/
def hSects (img : List Byte) : Nat := leAt img 0x1C 2
/-- `N_LGROUPS`. -/
def hGroups (img : List Byte) : Nat := leAt img 0x1E 1
/-- `N_SLOTS`. -/
def hSlots (img : List Byte) : Nat := leAt img 0x1F 1
/-- `N_SEG`. -/
def hSegs (img : List Byte) : Nat := leAt img 0x20 2
/-- `N_SEL`. -/
def hSels (img : List Byte) : Nat := leAt img 0x22 1
/-- `MAX_SEG_TCLK`. -/
def hMaxSeg (img : List Byte) : Nat := leAt img 0x24 4
/-- `SIG_OFF`. -/
def hSigOff (img : List Byte) : Nat := leAt img 0x28 4
/-- `GEN`. -/
def hGen (img : List Byte) : Nat := leAt img 0x2C 4
/-- `IMAGE_ID`. -/
def hImageId (img : List Byte) : Nat := leAt img 0xC 4

/-- The section table. -/
def sections (img : List Byte) : List Sect :=
  (List.range (hSects img)).map (fun i =>
    let e := 0x100 + 32 * i
    ⟨i, leAt img e 2, leAt img (e + 2) 1, 256 * leAt img (e + 4) 4, leAt img (e + 8) 4, leAt img (e + 12) 4,
      leAt img (e + 16) 4, decide (leAt img (e + 3) 1 = 0 ∧ leAt img (e + 20) 12 = 0)⟩)

/-- Record `k` of `size` bytes of a section, as a number with word 0 lowest. -/
def recAt (img : List Byte) (sc : Sect) (size k : Nat) : Nat := leAt img (sc.off + size * k) size
/-- A field of a record. -/
def rf (r w lo wd : Nat) : Nat := bitField r (32 * w + lo) wd

/-- The image-wide section of a type. -/
def wideSect (ss : List Sect) (typ : Nat) : Option Sect := ss.find? (fun x => decide (x.typ = typ))
/-- A group's section of a type. -/
def groupSect (ss : List Sect) (typ lg : Nat) : Option Sect := ss.find? (fun x => decide (x.typ = typ ∧ x.lgroup = lg))

/-! ### CHECK (R110 to R113, R138, R141) -/

/-- The record size of a section of fixed size. -/
def recSize (typ : Nat) : Option Nat :=
  match typ with
  | 1 => some 8 | 2 => some 16 | 3 => some 32 | 4 => some 2 | 0x10 => some 32 | 0x11 => some 32 | 0x13 => some 32
  | 0x14 => some 8 | _ => none

/-- Whether a type is image-wide. -/
def isWide (typ : Nat) : Bool := decide (1 ≤ typ ∧ typ ≤ 4)
/-- Whether a type is a group section. -/
def isGroup (typ : Nat) : Bool := decide (0x10 ≤ typ ∧ typ ≤ 0x15)

/-- The record count an entry must have, where R113 fixes it. -/
def nrecOk (img : List Byte) (x : Sect) : Bool :=
  (match recSize x.typ with | some z => decide (x.len = z * x.nrec) | none => true)
  && (match x.typ with
    | 1 => decide (x.nrec = hGroups img) | 2 => decide (x.nrec = hSegs img) | 3 => decide (x.nrec = hSels img)
    | 0x10 => decide (x.nrec = 16) | 0x12 => decide (x.nrec = 16) | 0x14 => decide (x.nrec = 16)
    | 0x15 => decide (1 ≤ x.nrec ∧ x.nrec ≤ 16) | _ => true)

/-- An entry of the table is in bounds, in order, aligned, of a known type, and within the multiplicity of R113 as far
as the entries before it. `lo` is the end of the part before it. -/
def entryOk (img : List Byte) (before : List Sect) (lo hi : Nat) (x : Sect) : Bool :=
  (isWide x.typ || isGroup x.typ) && x.rsvd && decide (x.len ≠ 0 ∧ lo ≤ x.off ∧ x.off + x.len ≤ hi) && nrecOk img x
  && (if isWide x.typ then decide (x.lgroup = 0xFF) && !before.any (fun y => decide (y.typ = x.typ))
        && (!hPartial img || decide (x.typ = tPlacement))
      else decide (x.lgroup < 64) && (hPartial img || decide (x.lgroup < hGroups img))
        && !before.any (fun y => decide (y.typ = x.typ ∧ y.lgroup = x.lgroup)))

/-- The table's entries in order. -/
def entriesOk (img : List Byte) (hi : Nat) : List Sect → Nat → List Sect → Bool
  | _, _, [] => true
  | before, lo, x :: t => entryOk img before lo hi x && entriesOk img hi (before ++ [x]) ((x.off + x.len + 255) / 256 * 256) t

/-- The logical groups that must have their sections: all of a full image, those of PLACEMENT in a partial one. -/
def wantGroups (img : List Byte) (ss : List Sect) : List Nat :=
  if hPartial img then
    match wideSect ss tPlacement with
    | some x => (List.range x.nrec).map (fun k => rf (recAt img x 8 k) 0 0 6)
    | none => []
  else List.range (hGroups img)

/-- Every section that R113 requires is there. -/
def allThere (img : List Byte) (ss : List Sect) : Bool :=
  (wideSect ss tPlacement).isSome
  && (hPartial img || ((wideSect ss tSegment).isSome
      && decide ((wideSect ss tSelector).isSome = decide (0 < hSels img))
      && decide ((wideSect ss tVariant).isSome = decide (0 < hSels img))))
  && (wantGroups img ss).all (fun lg => [0x10, 0x12, 0x13, 0x14].all (fun t => (groupSect ss t lg).isSome))
  && ss.all (fun x => isWide x.typ || (wantGroups img ss).contains x.lgroup)

/-- Reserved header fields are 0, and the counts are in range (R111). -/
def headerRsvd (img : List Byte) : Bool :=
  decide (leAt img 9 1 < 4 ∧ leAt img 0xA 2 < 2 ∧ leAt img 0x23 1 = 0 ∧ leAt img 0x34 200 = 0)

/-- The section table holds (R110, R113). R141 names no code for a set reserved field of the header: the model takes it into
this check (SECT_TABLE; DEDUCED, log entry 40). -/
def tableOk (img : List Byte) : Bool :=
  let n := hSects img
  let hi := img.length - (if hSigned img then 256 else 0)
  let ss := sections img
  headerRsvd img && decide (1 ≤ n ∧ n ≤ 1024 ∧ 0x100 + 32 * n ≤ hi) && decide (1 ≤ hGroups img ∧ hGroups img ≤ 64)
  && decide (hSlots img ≤ 64 ∧ hSels img ≤ 64) && (hPartial img || decide (1 ≤ hSegs img ∧ hSegs img ≤ 4096))
  && decide ((hPartial img = true ∨ hGen img = 0) ∧ (hSigned img = true ∨ hSigOff img = 0))
  && entriesOk img hi [] ((0x100 + 32 * n + 255) / 256 * 256) ss && allThere img ss

/-- CHECK but for the signature: the first failure in the order of R141. `len` is `LEN`. -/
def checkImage (img : List Byte) (len : Nat) : Option LoadErr :=
  firstErr
    [errIf (decide (len ≠ leAt img 0x18 4 ∨ img.length ≠ 256 * len ∨ len = 0)) 0x02 sectNone 0,
     errIf (decide (leAt img 0 4 ≠ 0x4E4C505A)) 0x03 sectNone 0,
     errIf (decide (leAt img 5 1 ≠ 1)) 0x04 sectNone 0,
     errIf (decide (leAt img 6 2 ≠ 0x8840 ∨ leAt img 8 1 ≠ 0xB1)) 0x05 sectNone 0,
     errIf (decide (crc32c (img.take 0xFC) ≠ leAt img 0xFC 4)) 0x06 sectNone 0,
     errIf (!tableOk img) 0x07 sectNone 0,
     firstErr ((sections img).map (fun x =>
       errIf (decide (crc32c ((img.drop x.off).take x.len) ≠ x.crc)) 0x08 x.idx 0))]

/-! ### Records -/

/-- Whether the bits of a number outside the fields listed (as lowest bit and width) are all 0. -/
def onlyFields (r : Nat) (fs : List (Nat × Nat)) : Bool :=
  decide (fs.foldl (fun a f => bitPut a f.1 f.2 0) r = 0)

/-- A tile function record (R117), raw. -/
structure TileFn where
  role   : Nat
  region : Nat
  ctx    : Nat
  scb    : Nat
  soff   : Nat
  slen   : Nat
  afirst : Nat
  acount : Nat
  srMax  : Nat
  rsvd   : Bool
  deriving DecidableEq, Repr

/-- A TILE_FUNC record read. -/
def tileFnOf (r : Nat) : TileFn :=
  ⟨rf r 0 0 2, rf r 0 8 8, rf r 0 16 5, rf r 0 21 7, rf r 1 0 32, rf r 2 0 32, rf r 3 0 16, rf r 3 16 16, rf r 4 0 11,
    onlyFields r [(0, 2), (8, 20), (32, 32), (64, 32), (96, 32), (128, 11)]⟩

/-- The TILE_FUNC records of a logical group. -/
def tileFns (img : List Byte) (ss : List Sect) (lg : Nat) : List TileFn :=
  match groupSect ss tTileFunc lg with
  | some x => (List.range 16).map (fun p => tileFnOf (recAt img x 32 p))
  | none => []

/-- A ROUTE record read (R119). -/
def routeOf (r : Nat) : RouteRec :=
  ⟨rf r 0 0 10, rf r 0 10 10, rf r 0 20 7, rf r 1 0 8, rf r 1 8 8, rf r 1 16 8, rf r 1 24 6, rf r 2 0 7, rf r 2 8 7,
    rf r 4 0 128⟩

/-- The routes of a logical group. -/
def routesOf (img : List Byte) (ss : List Sect) (lg : Nat) : List RouteRec :=
  match groupSect ss tRoute lg with
  | some x => (List.range x.nrec).map (fun k => routeOf (recAt img x 32 k))
  | none => []

/-- A SEGMENT record read (R133). -/
def segOf (r : Nat) : SegRec :=
  ⟨rf r 0 12 8, decide (rf r 0 21 1 = 1), rf r 1 0 32, rf r 2 0 20, rf r 2 20 10, rf r 3 0 20⟩

/-- The segments of an image. -/
def segsOf (img : List Byte) (ss : List Sect) : List SegRec :=
  match wideSect ss tSegment with
  | some x => (List.range x.nrec).map (fun k => segOf (recAt img x 16 k))
  | none => []

/-- A SELECTOR record read (R134). -/
def selOf (r : Nat) : SelRec :=
  ⟨rf r 0 6 3, rf r 0 9 2, rf r 0 11 3, rf r 0 14 6, decide (rf r 0 20 1 = 1), rf r 1 0 12, rf r 1 12 10, rf r 2 0 32,
    rf r 3 0 5, rf r 3 5 5, rf r 4 0 32, rf r 5 0 32, rf r 6 0 13⟩

/-- The selectors of an image. -/
def selsOf (img : List Byte) (ss : List Sect) : List SelRec :=
  match wideSect ss tSelector with
  | some x => (List.range x.nrec).map (fun k => selOf (recAt img x 32 k))
  | none => []

/-- The variant table of an image (R134), raw entries. -/
def vtOf (img : List Byte) (ss : List Sect) : List Nat :=
  match wideSect ss tVariant with
  | some x => (List.range x.nrec).map (fun k => recAt img x 2 k)
  | none => []

/-- The number of directory entries (R128). -/
def ndirOf (segs : List SegRec) : Nat :=
  segs.foldl (fun a g => max (max a (g.dirBase + g.nVar + 1)) (if g.resume = 0xFFFFF then 0 else g.resume + 1)) 1

/-- The bytes of a tile's directory (R128). -/
def dirBytes (nd : Nat) : Nat := (4 * nd + 15) / 16 * 16

/-- The ADDR records of a logical group. -/
def addrRecs (img : List Byte) (ss : List Sect) (lg : Nat) : List (BitVec 256) :=
  match groupSect ss tAddr lg with
  | some x => (List.range x.nrec).map (fun k => BitVec.ofNat 256 (recAt img x 32 k))
  | none => []

/-- The INIT records of a section from byte `at` on (R128), with the failure of the first one that breaks. -/
def initRecs (img : List Byte) (x : Sect) (lg : Nat) : Nat → Nat → Nat → List InitRec × Option LoadErr
  | 0, _, _ => ([], none)
  | fuel + 1, pos, k =>
    if x.len ≤ pos then ([], none)
    else
      let h := leAt img (x.off + pos) 8
      let n := bitField h 24 20
      if x.len < pos + 8 ∨ bitField h 44 20 ≠ 0 ∨ x.len < pos + 8 + n then ([], some ⟨0x16, x.idx, k⟩)
      else
        let r : InitRec := ⟨lg, bitField h 0 4, bitField h 4 20, (img.drop (x.off + pos + 8)).take n⟩
        let q := initRecs img x lg fuel (pos + 8 + n) (k + 1)
        (r :: q.1, q.2)

/-- The INIT records of a logical group. -/
def initsOf (img : List Byte) (ss : List Sect) (lg : Nat) : List InitRec × Option LoadErr :=
  match groupSect ss tInit lg with
  | some x => initRecs img x lg (x.len + 1) 0 0
  | none => ([], none)

/-- The store of the tile at position `p` of logical group `lg`. -/
def storeOf (img : List Byte) (ss : List Sect) (nd lg p : Nat) : TileStore :=
  let f := nth (tileFnOf 0) (tileFns img ss lg) p
  let sched := (groupSect ss tSchedule lg).map (fun x => x.off)
  let base := sched.getD 0 + f.soff
  let routing := match groupSect ss tRouting lg with
    | some x => BitVec.ofNat 64 (recAt img x 8 p)
    | none => 0
  ⟨true, hRadio img, 16 * lg + p, f.region, f.ctx, f.scb,
    (List.range nd).map (fun j => leAt img (base + 4 * j) 4),
    (List.range ((f.slen - dirBytes nd) / 16)).map (fun j => BitVec.ofNat 128 (leAt img (base + dirBytes nd + 16 * j) 16)),
    ((addrRecs img ss lg).drop f.afirst).take f.acount, routing, f.srMax⟩

/-- The sections of logical group `lg`. -/
def groupSecOf (img : List Byte) (ss : List Sect) (nd lg sx sy : Nat) : GroupSec :=
  ⟨lg, sx, sy, (List.range 16).map (storeOf img ss nd lg), routesOf img ss lg, (initsOf img ss lg).1⟩

/-- The placement records: logical group, SX, SY. -/
def placements (img : List Byte) (ss : List Sect) : List (Nat × Nat × Nat) :=
  match wideSect ss tPlacement with
  | some x => (List.range x.nrec).map (fun k => let r := recAt img x 8 k; (rf r 0 0 6, rf r 0 6 3, rf r 0 9 3))
  | none => []

/-- The image read from its bytes; `nd` is its number of directory entries and `ox`, `oy` its origin. -/
def imageOf (img : List Byte) (nd ox oy : Nat) : Image :=
  let ss := sections img
  ⟨hRadio img, hPartial img, hImageId img, leAt img 0x10 8, hGen img, hMaxSeg img, hSlots img, ox, oy, nd,
    segsOf img ss, selsOf img ss, (vtOf img ss).map (fun v => v % 1024),
    (placements img ss).map (fun p => groupSecOf img ss nd p.1 p.2.1 p.2.2)⟩

/-- The physical group at grid coordinates (R115), if they lie in the grid. -/
def gridGroup (gx gy : Nat) : Option Nat :=
  if gx < 8 ∧ gy < 8 then some (16 * (2 * (gy / 4) + gx / 4) + 4 * (gy % 4) + gx % 4) else none
/-- The grid column of a group (R115). -/
def gridX (g : Nat) : Nat := g % 4 + 4 * (g / 16 % 2)
/-- The grid row of a group. -/
def gridY (g : Nat) : Nat := g % 16 / 4 + 4 * (g / 32)

end Sys2Proof.Machine
end

