-- ==== Sys2Proof/Machine/PlanValidate.lean ====
section
/-! DEFINITION. The VALIDATE stage of a plan load (R114 to R136, R146): placement, tile functions, routes and their
ownership, address tables, schedules, segments, selectors and INIT records, in section order (R141). -/

namespace Sys2Proof.Machine

/-- What VALIDATE works from: the image's bytes and sections, the loading slice, origin, number of directory entries,
the active image of a partial load, the placement of every logical group, and the placement before a partial load. -/
structure VCtx where
  img    : List Byte
  ss     : List Sect
  slice  : Nat
  ox     : Nat
  oy     : Nat
  nd     : Nat
  active : Option Image
  pmap   : List (Nat × Nat)
  pold   : List (Nat × Nat)
  deriving DecidableEq, Repr

/-- The physical group of a logical group. -/
def VCtx.phys (c : VCtx) (lg : Nat) : Option Nat := (c.pmap.find? (fun p => decide (p.1 = lg))).map (fun p => p.2)
/-- The logical group on a physical group. -/
def VCtx.logical (c : VCtx) (g : Nat) : Option Nat := (c.pmap.find? (fun p => decide (p.2 = g))).map (fun p => p.1)
/-- Whether a logical group is (re)loaded by this image. -/
def VCtx.loads (c : VCtx) (lg : Nat) : Bool := (groupSect c.ss tTileFunc lg).isSome

/-- The limits of a tile (R118): REGION, CTX, SCB, schedule bytes, ADDR records. -/
structure TileLim where
  region : Nat
  ctx    : Nat
  scb    : Nat
  sched  : Nat
  addr   : Nat
  deriving DecidableEq, Repr

/-- The limits of the tiles of a logical group (R118). -/
def State.tileLim (s : State) (c : VCtx) (lg : Nat) : TileLim :=
  if hRadio c.img then ⟨60, 4, 16, 65536, 1024⟩
  else if (c.phys lg).any s.marked then ⟨128, 12, 48, 196608, 3072⟩
  else ⟨192, 16, 64, 262144, 4096⟩

/-- The region in units of 4 KiB of a logical tile of the image, or of the active image for a group kept. -/
def VCtx.regionUnits (c : VCtx) (lt : Nat) : Option Nat :=
  if c.loads (lt / 16) then some (nth (tileFnOf 0) (tileFns c.img c.ss (lt / 16)) (lt % 16)).region
  else c.active.bind (fun im => (im.groups.find? (fun g => decide (g.lgroup = lt / 16))).map (fun g =>
    (nth TileStore.empty g.stores (lt % 16)).region))

/-- Whether a byte range lies in the region of a logical tile (R570). -/
def VCtx.inRegion (c : VCtx) (lt a n : Nat) : Bool :=
  let lo := if hRadio c.img then 0x80000 else 0
  match c.regionUnits lt with
  | some u => decide (lo ≤ a ∧ a + n ≤ lo + 4096 * u)
  | none => false

/-! ### Placement (R115, R116) -/

/-- Whether record `k` of PLACEMENT is refused, given the records before it. -/
def State.placeBad (s : State) (c : VCtx) (ps : List (Nat × Nat × Nat)) (k : Nat) (raw : Nat) : Bool :=
  let p := nth (0, 0, 0) ps k
  let before := ps.take k
  let g (q : Nat × Nat × Nat) : Option Nat := gridGroup (c.ox + q.2.1) (c.oy + q.2.2)
  let kept := c.pmap.filter (fun q => !c.loads q.1)
  decide (4096 ≤ raw) || before.any (fun q => decide (q.1 = p.1))
  || (!hPartial c.img && decide (hGroups c.img ≤ p.1))
  || (match g p with
    | none => true
    | some pg =>
      before.any (fun q => decide (g q = some pg)) || kept.any (fun q => decide (q.2 = pg))
      || !s.present pg || s.quarantined pg
      || (if hRadio c.img then !s.marked pg else !s.granted c.slice pg))

/-- The PLACEMENT section. -/
def State.valPlacement (s : State) (c : VCtx) (x : Sect) : Option LoadErr :=
  let ps := placements c.img c.ss
  firstErr ((List.range x.nrec).map (fun k => errIf (s.placeBad c ps k (recAt c.img x 8 k)) 0x10 x.idx k))

/-! ### Tile functions (R117, R118) -/

/-- The TILE_FUNC section. A directory larger than the schedule store is refused by CAPACITY (R118); a reloaded tile whose
schedule is shorter than the active image's directory has another number of entries (PARTIAL, R146; DEDUCED, log entry
109), and in a full image one shorter than its directory lies outside it (REGION). -/
def State.valTileFunc (s : State) (c : VCtx) (x : Sect) : Option LoadErr :=
  let lim := s.tileLim c x.lgroup
  let slen := ((groupSect c.ss tSchedule x.lgroup).map (fun y => y.len)).getD 0
  firstErr ((List.range 16).map (fun p =>
    let f := tileFnOf (recAt c.img x 32 p)
    firstErr
      [errIf (!f.rsvd || decide (1 < f.role ∨ f.region = 0 ∨ lim.region < f.region)) 0x12 x.idx p,
       errIf (decide (lim.ctx < f.ctx ∨ lim.scb < f.scb)) 0x13 x.idx p,
       errIf (decide (lim.sched < f.slen ∨ lim.sched < dirBytes c.nd ∨ lim.addr < f.acount)) 0x1C x.idx p,
       errIf (decide (1024 < f.srMax)) 0x1A x.idx p,
       errIf (decide (f.soff % 16 ≠ 0 ∨ f.slen % 16 ≠ 0 ∨ slen < f.soff + f.slen)) 0x12 x.idx p,
       errIf (decide (f.slen < dirBytes c.nd)) (if hPartial c.img then 0x1B else 0x12) x.idx p]))

/-! ### Routes (R20, R119 to R121) -/

/-- A step of a route over the 32 × 32 grid of tiles: north, east, south, west; `none` leaves the plain. -/
def hopTo (xy : Nat × Nat) (h : Nat) : Option (Nat × Nat) :=
  match h with
  | 0 => if xy.2 = 0 then none else some (xy.1, xy.2 - 1)
  | 1 => if xy.1 = 31 then none else some (xy.1 + 1, xy.2)
  | 2 => if xy.2 = 31 then none else some (xy.1, xy.2 + 1)
  | _ => if xy.1 = 0 then none else some (xy.1 - 1, xy.2)

/-- Whether a hop crosses a saddle link. -/
def crosses (a b : Nat × Nat) : Bool := decide (a.1 / 16 ≠ b.1 / 16 ∨ a.2 / 16 ≠ b.2 / 16)

/-- The walk of a route (R120): the output ports passed with their latencies L_i, the seam crossings, and the tile it
ends at; `none` where a hop is refused. -/
def VCtx.walkFrom (c : VCtx) (r : RouteRec) : Nat → Nat → Nat × Nat → List Nat → Option (List (Nat × Nat) × List Nat × (Nat × Nat))
  | 0, _, xy, seams => some ([], seams, xy)
  | fuel + 1, i, xy, seams =>
    if i = r.nhops then some ([], seams, xy)
    else
      let h := bitField r.hops (2 * i) 2
      match hopTo xy h with
      | none => none
      | some nx =>
        let cr := crosses xy nx
        let edge := if h % 2 = 0 then xy.1 else xy.2
        if (cr && decide (edge % 2 = 1)) || ((gridGroup (nx.1 / 4) (nx.2 / 4)).bind c.logical).isNone then none
        else
          let port := (4 * (32 * xy.2 + xy.1) + h, 2 + 2 * i + 14 * seams.length)
          (VCtx.walkFrom c r fuel (i + 1) nx (if cr then seams ++ [i] else seams)).map (fun q => (port :: q.1, q.2))

/-- Whether a route's walk holds under the placement, and the ports it passes (R120). -/
def VCtx.walk (c : VCtx) (r : RouteRec) : Option (List (Nat × Nat)) :=
  match c.phys (r.src / 16) with
  | none => none
  | some g =>
    let xy := (4 * gridX g + r.src % 4, 4 * gridY g + r.src % 16 / 4)
    match c.walkFrom r 65 0 xy [] with
    | none => none
    | some (ports, seams, nx) =>
      let lt := ((gridGroup (nx.1 / 4) (nx.2 / 4)).bind c.logical).map (fun lg => 16 * lg + 4 * (nx.2 % 4) + nx.1 % 4)
      let want := [r.seam0, r.seam1].filter (fun v => decide (v ≠ 127))
      if lt = some r.dst ∧ seams = want ∧ seams.length ≤ 2 ∧ (r.seam0 ≠ 127 ∨ r.seam1 = 127) then some ports else none

/-- The cycles mod 128 that a route owns at a port of latency `l` (R121), as a bit set. -/
def ownSet (r : RouteRec) (l : Nat) : Nat :=
  (List.range 128).foldl (fun a t => if (t + 128 * r.period - (r.offset + l) % (128 * r.period)) % r.period < r.width then a + 2 ^ t else a) 0

/-- A reservation of a port by one pass of a route. `route` is the route's source tile and identifier (R119). -/
structure Claim where
  route : Nat
  port : Nat
  own  : Nat
  deriving DecidableEq, Repr

/-- The claims of a route. -/
def claimsOf (r : RouteRec) (ports : List (Nat × Nat)) : List Claim := ports.map (fun p => ⟨2 ^ 16 * r.src + r.id, p.1, ownSet r p.2⟩)

/-- Whether a route's claims conflict with those of other routes (R121): a common cycle, or more than 16 routes at a port. A
route that passes a port twice is one of the 16. -/
def claimBad (made new : List Claim) : Bool :=
  new.any (fun n =>
    let same := made.filter (fun m => decide (m.port = n.port))
    decide (16 ≤ (same.map (fun m => m.route)).eraseDups.length) || same.any (fun m => decide (Nat.land m.own n.own ≠ 0)))

/-- Whether a record's fields are in range (R119). Bit 7 of word 2, which the table does not list, is taken as reserved:
set, it is refused (DEDUCED, log entry 110). -/
def VCtx.routeFieldsOk (c : VCtx) (lg raw : Nat) (r : RouteRec) : Bool :=
  onlyFields raw [(0, 27), (32, 30), (64, 7), (72, 7), (128, 128)]
  && decide (1 ≤ r.nhops ∧ r.nhops ≤ 64 ∧ r.src / 16 = lg)
  && [1, 2, 4, 8, 16, 32, 64, 128].contains r.period && decide (r.offset < r.period ∧ 1 ≤ r.width ∧ r.width ≤ r.period)
  && (c.phys (r.dst / 16)).isSome

/-- The routes of groups that a partial load keeps. -/
def VCtx.keptRoutes (c : VCtx) : List RouteRec :=
  match c.active with
  | none => []
  | some im => (im.groups.filter (fun g => !c.loads g.lgroup)).flatMap (fun g => g.routes)

/-- Whether a partial load moves a logical group (R146). -/
def VCtx.moves (c : VCtx) (lg : Nat) : Bool :=
  decide (c.phys lg ≠ (c.pold.find? (fun p => decide (p.1 = lg))).map (fun p => p.2))

/-- The claims of the routes kept: those that end in a moved group are walked again from their source under the new
placement, and their ownership is checked again; the others stand as they were (R146). `none` if one is refused. -/
def VCtx.keptClaims (c : VCtx) : Option (List Claim) :=
  let old : VCtx := { c with pmap := c.pold }
  let stay := c.keptRoutes.filter (fun r => !c.moves (r.dst / 16))
  (c.keptRoutes.filter (fun r => c.moves (r.dst / 16))).foldl (fun acc r =>
    acc.bind (fun cl => (c.walk r).bind (fun ps => if claimBad cl (claimsOf r ps) then none else some (cl ++ claimsOf r ps))))
    (some (stay.flatMap (fun r => claimsOf r ((old.walk r).getD []))))

/-- The routes of all groups of the image before record `k` of group `lg`'s section, in section order. -/
def VCtx.routesBefore (c : VCtx) (x : Sect) (k : Nat) : List RouteRec :=
  ((c.ss.filter (fun y => decide (y.typ = tRoute ∧ y.idx < x.idx))).flatMap (fun y => routesOf c.img c.ss y.lgroup))
    ++ (routesOf c.img c.ss x.lgroup).take k

/-- The claims of routes that hold. -/
def VCtx.claims (c : VCtx) (rs : List RouteRec) : List Claim := rs.flatMap (fun r => claimsOf r ((c.walk r).getD []))

/-- The ROUTE section. -/
def VCtx.valRoute (c : VCtx) (x : Sect) : Option LoadErr :=
  let kept := c.keptRoutes
  firstErr ((List.range x.nrec).map (fun k =>
    let raw := recAt c.img x 32 k
    let r := routeOf raw
    let before := kept ++ c.routesBefore x k
    let dup := before.any (fun q => decide (q.id = r.id ∧ (q.src = r.src ∨ q.dst = r.dst)))
    let outOld := c.active.bind (fun im => (im.groups.flatMap (fun g => g.routes)).find? (fun q => decide (q.src = r.src ∧ q.id = r.id)))
    firstErr
      [errIf (!c.routeFieldsOk x.lgroup raw r || dup) 0x14 x.idx k,
       errIf (c.active.isSome && !c.loads (r.dst / 16) && decide (outOld ≠ some r)) 0x1B x.idx k,
       match c.walk r with
       | none => some ⟨0x14, x.idx, k⟩
       | some ps => errIf (claimBad (c.keptClaims.getD [] ++ c.claims (c.routesBefore x k)) (claimsOf r ps)) 0x14 x.idx k]))

/-! ### ROUTING and ADDR (R122 to R127, R370, R371) -/

/-- A path field of a ROUTING record (R122). -/
def pathOk (diag : Bool) (f : Nat) : Bool :=
  decide (f / 256 = 0) && (if diag then decide (f % 4 ≠ 1) else decide (f % 4 ≤ 1))

/-- The ROUTING section. -/
def VCtx.valRouting (c : VCtx) (x : Sect) : Option LoadErr :=
  firstErr ((List.range 16).map (fun p =>
    let r := recAt c.img x 8 p
    errIf (!(decide (r / 2 ^ 48 = 0) && pathOk false (bitField r 0 16) && pathOk false (bitField r 16 16)
      && pathOk true (bitField r 32 16))) 0x16 x.idx p))

/-- `FOP` of a reduction or an atomic (R371). -/
def fopOk (op fop : Nat) : Bool :=
  if op = 9 then decide (fop % 16 ≤ 2 ∧ fop / 16 ≤ 4) else if op = 11 then [8, 9, 10].contains fop else decide (fop = 0)

/-- Whether a MOVER record is allowed for a logical tile (R126, R370, R570). -/
def VCtx.moverOk (c : VCtx) (lt : Nat) (r : BitVec 256) : Bool :=
  let d := moverOf r
  let op := d.op.toNat
  let len := d.len.toNat
  let off := d.remote.toNat % 2 ^ 40
  decide (op ≤ 12) && fopOk op d.fop.toNat && onlyFields r.toNat [(0, 16), (32, 20), (64, 32), (128, 64), (192, 16)]
  && (decide (op = 12) ||
    (decide (1 ≤ len ∧ len ≤ 786432) && c.inRegion lt d.laddr.toNat len
    && (decide (op ≠ 0) || c.inRegion lt (d.remote.toNat % 2 ^ 20) len)
    && (decide (op ≠ 1 ∧ op ≠ 2) || c.inRegion (d.remote.toNat / 2 ^ 20 % 1024) (d.remote.toNat % 2 ^ 20) len)
    && (decide (op < 7) || decide (op = 11) ||
      decide (d.laddr.toNat % 16 = 0 ∧ len % 16 = 0 ∧ off % 16 = 0
        ∧ off + (if op = 9 ∧ 3 ≤ d.fop.toNat / 16 then 4 * len else len) ≤ 2 ^ 40))
    && (decide (op ≠ 11) || decide (len = 16 ∧ d.laddr.toNat % 16 = 0 ∧ off % 8 = 0))))

/-- Whether an AG record is allowed (R124). -/
def agOk (r : BitVec 256) : Bool :=
  let f := recField r 1 12 5
  onlyFields r.toNat [(0, 7), (32, 22), (64, 13), (80, 13), (96, 13), (112, 13)]
  && decide (1 ≤ f ∧ f ≤ 15) && (decide (recField r 1 17 1 = 0) || decide (f = 11))
  && (decide (recField r 1 18 1 = 0) || decide (4 ≤ f ∧ f ≤ 10))

/-- Whether record `k` of a tile's ADDR records is allowed (R123, R124, R126, R127). -/
def VCtx.addrOk (c : VCtx) (lt : Nat) (recs : List (BitVec 256)) (k : Nat) : Bool :=
  let r := nth 0 recs k
  match recField r 0 0 4 with
  | 0 => agOk r && !(recs.take k).any (fun q => decide (recField q 0 0 4 = 0 ∧ recField q 0 4 3 = recField r 0 4 3))
  | 1 => c.moverOk lt r
  | 2 =>
    let n := nth 0 recs (k + 1)
    onlyFields r.toNat [(0, 4), (8, 5), (32, 192)] && decide (recField n 0 0 4 = 3 ∧ recField n 0 8 5 = recField r 0 8 5)
      && !(recs.take k).any (fun q => decide (recField q 0 0 4 = 2 ∧ recField q 0 8 5 = recField r 0 8 5))
  | 3 =>
    let b := nth 0 recs (k - 1)
    onlyFields r.toNat [(0, 4), (8, 5), (32, 192)]
      && decide (0 < k ∧ recField b 0 0 4 = 2 ∧ recField b 0 8 5 = recField r 0 8 5)
  | _ => false

/-- The ADDR section: every record of every tile, then ranges past the section (R123), for which the record named is the
one after the last (DEDUCED, log entry 111). -/
def VCtx.valAddr (c : VCtx) (x : Sect) : Option LoadErr :=
  let fns := tileFns c.img c.ss x.lgroup
  let all := addrRecs c.img c.ss x.lgroup
  let bad (k p : Nat) : Bool :=
    let f := nth (tileFnOf 0) fns p
    decide (f.afirst ≤ k ∧ k < f.afirst + f.acount)
      && !c.addrOk (16 * x.lgroup + p) ((all.drop f.afirst).take f.acount) (k - f.afirst)
  firstErr
    [firstErr ((List.range x.nrec).map (fun k =>
       errIf (decide (4 ≤ recField (nth 0 all k) 0 0 4) || (List.range 16).any (bad k)) 0x16 x.idx k)),
     errIf (fns.any (fun f => decide (x.nrec < f.afirst + f.acount))) 0x16 x.idx x.nrec]

/-! ### Schedules (R53, R128 to R132, R566 to R569) -/

/-- Whether a pair of operand formats is one of R53. -/
def pairOk (a w : Nat × Bool × Bool) : Bool :=
  decide (a.2.2 = w.2.2) &&
  (if a.1 = 2 ∨ a.1 = 3 ∨ w.1 = 2 ∨ w.1 = 3 then decide (a.1 = w.1)
    else if 4 ≤ a.1 ∧ a.1 ≤ 8 then decide (4 ≤ w.1 ∧ w.1 ≤ 8)
    else decide (9 ≤ a.1 ∧ a.1 ≤ 11 ∧ 9 ≤ w.1 ∧ w.1 ≤ 11 ∧ (a.1 ≠ 11 ∨ w.1 ≠ 11)))

/-- Whether an opcode is assigned (R131). -/
def vopOk (op : Nat) : Bool :=
  decide (op ≤ 0x0C ∨ (0x10 ≤ op ∧ op ≤ 0x1C) ∨ (0x20 ≤ op ∧ op ≤ 0x2B) ∨ (0x30 ≤ op ∧ op ≤ 0x34) ∨ op = 0x38
    ∨ (0x40 ≤ op ∧ op ≤ 0x45) ∨ op = 0x48 ∨ op = 0x50)

/-- Whether `MEN` may be set with an opcode (R566). -/
def menOk (v : VecSlot) : Bool :=
  let op := v.op.toNat
  decide ((1 ≤ op ∧ op ≤ 0x2B) ∨ op = 0x38 ∨ op = 0x48 ∨ op = 0x50 ∨ op = 0x43 ∨ op = 0x41 ∨ op = 0x45
    ∨ (op = 0x40 ∧ v.fmt.toNat ≤ 1))

/-- Whether a vector slot holds R566 to R569. -/
def vecOk (perms : List Nat) (v : VecSlot) : Bool :=
  let op := v.op.toNat
  let f := v.fmt.toNat
  vopOk op && (!v.men || menOk v)
  && (if [0x09, 0x0A, 0x0B, 0x1B, 0x1C].contains op then decide (v.vd.toNat < 8)
      else if op = 0x40 ∨ op = 0x41 then
        decide (v.vb.toNat ≤ 1 ∧ (f ≤ 12 ∨ f = 15)) && (decide (op = 0x40 ∨ v.vb = 0) || [0, 9, 10, 11, 12].contains f)
      else if op = 0x44 ∨ op = 0x45 then decide (v.vb.toNat ≤ 1)
      else if op = 0x42 ∨ op = 0x43 then decide (4 ≤ f ∧ f ≤ 10)
      else if 0x30 ≤ op ∧ op ≤ 0x34 then decide (f ≤ 1)
      else if op = 0x38 then perms.contains v.vb.toNat
      else true)

/-- Whether a bundle holds R132 but for what needs its body. `lo`, `n` are the tile's scoreboard entries. -/
def bundleOk (st : TileStore) (lo n : Nat) (b : BitVec 128) : Bool :=
  let p := bunPort b
  let perms := (st.addr.filter (fun r => decide (recField r 0 0 4 = 2))).map (fun r => recField r 0 8 5)
  let inScb (e : Nat) : Bool := decide (lo ≤ e ∧ e < lo + n)
  let desc := bunField b 2 0 12
  decide (bunField b 0 27 1 = 0 ∧ bunField b 0 30 2 = 0 ∧ bunField b 2 27 5 = 0 ∧ bunField b 3 30 2 = 0)
  && vecOk perms (bunVec b)
  && (decide (p.pop = 0) || (agRecord st p.ag.toNat).isSome)
  && (decide (bunField b 2 12 1 = 0) || decide (desc < st.addr.length ∧ recField (nth 0 st.addr desc) 0 0 4 = 1))
  && (decide (bunField b 2 19 1 = 0) || inScb (bunField b 2 13 6))
  && (decide (bunField b 2 26 1 = 0) || inScb (bunField b 2 20 6))
  && (decide (p.pop ≠ 3) ||
    (match agRecord st p.ag.toNat with
      | some r =>
        let n := 32 / max 8 (fmtWidth (recField r 1 12 5))
        decide (p.arg.toNat < 32 ∧ p.arg.toNat % n = 0)
      | none => false))

/-- The walk of a body: `none` if it holds, else the code and the bundle at fault. `stack` holds the counters of the open
loops, `wf` the format of the last `WLD`, `sr` the `SR` of the drain in progress, which a `DRN` with LAST ends (R60). An
IDLE tile's body is one bundle with `SEG_END` and every other field 0; another is refused by SCHEDULE (R117; DEDUCED, log
entry 112). -/
def bodyWalk (st : TileStore) (idle : Bool) : List (BitVec 128) → Nat → List Nat → Option (Nat × Bool × Bool) → Option Bool → Option (Nat × Nat)
  | [], k, _, _, _ => some (0x15, k - 1)
  | b :: t, k, stack, wf, sr =>
    let p := bunPort b
    let loop := bunField b 3 0 2
    let lc := bunField b 3 2 2
    let fmt := (agRecord st p.ag.toNat).map agFmt
    let stack1 := if loop % 2 = 1 then lc :: stack else stack
    let begBad := decide (loop % 2 = 1) && (stack.contains lc || decide (4 ≤ stack.length))
    let endBad := decide (2 ≤ loop) && decide (stack1.head? ≠ some lc)
    let stack2 := if 2 ≤ loop then stack1.drop 1 else stack1
    let wf1 := if p.pop = 2 then fmt else wf
    let pairBad := decide (p.pop = 1) && (match fmt, wf with | some a, some w => !pairOk a w | _, _ => false)
    let srBad := decide (p.pop = 3) && (match sr with | some q => decide (q ≠ p.sr) | none => false)
    let idleBad := idle && decide (b.toNat % 2 ^ 96 ≠ 0 ∨ bunField b 3 0 20 ≠ 0 ∨ bunField b 3 28 1 ≠ 1 ∨ bunField b 3 29 1 ≠ 0)
    let done := decide (bunField b 3 28 1 = 1)
    if begBad || endBad || srBad || idleBad || (done && !stack2.isEmpty) then some (0x15, k)
    else if pairBad then some (0x17, k)
    else if done then none
    else bodyWalk st idle t (k + 1) stack2 wf1 (if p.pop = 3 ∧ !p.swap then some p.sr else none)

/-- The SCHEDULE section. -/
def VCtx.valSchedule (c : VCtx) (x : Sect) : Option LoadErr :=
  let lo := if hRadio c.img then 48 else 0
  let tf := ((groupSect c.ss tTileFunc x.lgroup).map (fun y => y.idx)).getD sectNone
  firstErr ((List.range 16).map (fun p =>
    let st := storeOf c.img c.ss c.nd x.lgroup p
    let f := nth (tileFnOf 0) (tileFns c.img c.ss x.lgroup) p
    let unit0 := (f.soff + dirBytes c.nd) / 16
    firstErr
      [errIf (st.bundles.any (fun b => decide (bunField b 2 12 1 = 1)) && decide (f.ctx = 0 ∨ f.scb = 0)) 0x13 tf p,
       firstErr ((List.range st.bundles.length).map (fun k =>
         errIf (!bundleOk st lo f.scb (nth 0 st.bundles k)) 0x15 x.idx (unit0 + k))),
       firstErr ((List.range st.dir.length).map (fun j =>
         errIf (decide (2 ^ 24 ≤ nth 0 st.dir j ∨ st.bundles.length ≤ nth 0 st.dir j % 2 ^ 24)) 0x15 x.idx (f.soff / 16 + j / 4))),
       firstErr (st.dir.map (fun e =>
         (bodyWalk st (decide (f.role = 0)) (st.bundles.drop e) e [] none none).map (fun q => ⟨q.1, x.idx, unit0 + q.2⟩)))]))

/-! ### Segments and selectors (R133 to R136, R241) -/

/-- The SEGMENT section. -/
def VCtx.valSegment (c : VCtx) (x : Sect) : Option LoadErr :=
  let segs := segsOf c.img c.ss
  firstErr
    [errIf (!hRadio c.img && decide (62400 < hMaxSeg c.img)) 0x18 x.idx 0,
     firstErr ((List.range x.nrec).map (fun k =>
       let raw := recAt c.img x 16 k
       let g := segOf raw
       let fixed := decide (g.slot = 0xFF)
       errIf (!onlyFields raw [(0, 20), (21, 1), (32, 32), (64, 30), (96, 20)] || decide (rf raw 0 0 12 ≠ k)
         || decide (g.last ≠ decide (k + 1 = x.nrec)) || decide (hMaxSeg c.img < g.len)
         || (if fixed then decide (g.nVar ≠ 0)
             else decide (hSlots c.img ≤ g.slot) || (segs.take k).any (fun q => decide (q.slot = g.slot ∧ q.nVar ≠ g.nVar))))
         0x18 x.idx k))]

/-- Whether selector `k` is allowed, given those before it (R134, R136, R241). -/
def VCtx.selOk (c : VCtx) (x : Sect) (k : Nat) : Bool :=
  let raw := recAt c.img x 32 k
  let q := selOf raw
  let segs := segsOf c.img c.ss
  let vt := vtOf c.img c.ss
  let lanes := q.lanes + 1
  let mine := (vt.drop q.vtOff).take q.vtLen
  let slots := (List.range lanes).map (fun i => q.firstSlot + i)
  let taken := ((selsOf c.img c.ss).take k).flatMap (fun o => (List.range (o.lanes + 1)).map (fun i => o.firstSlot + i))
  onlyFields raw [(0, 21), (32, 22), (64, 32), (96, 10), (128, 32), (160, 32), (192, 13)]
  && decide (rf raw 0 0 6 = k ∧ q.src ≤ 3 ∧ q.mode ≤ 2 ∧ (lanes ≤ 2 ∨ q.src = 0) ∧ (lanes ≤ 1 ∨ q.src ≤ 1))
  && (decide (q.mode ≠ 0) || decide (1 ≤ q.bits ∧ q.bits ≤ 12))
  && decide (1 ≤ q.vtLen ∧ q.vtLen ≤ 4096 ∧ q.vtOff + q.vtLen ≤ vt.length ∧ q.resSeg < hSegs c.img)
  && mine.all (fun v => decide (v < 1024))
  && (decide (q.src ≠ 0) || (decide (q.srcArg % 4 = 0) && c.inRegion q.srcTile q.srcArg (4 * lanes)))
  && (decide (q.src ≠ 1) || decide (q.srcArg / 2 ^ 18 % 4 + lanes ≤ 4))
  && (decide (q.src ≠ 3) || decide (q.srcArg / 2 ^ 12 % 16 ≤ 5))
  && slots.all (fun n => decide (n < hSlots c.img) && !taken.contains n)
  && slots.all (fun n => (List.range segs.length).all (fun i =>
      let g := nth (segOf 0) segs i
      decide (g.slot ≠ n) || (mine.all (fun v => decide (v ≤ g.nVar)) && decide (decide (i ≤ q.resSeg) = q.next))))

/-- The SELECTOR section, and slots that no lane fills (R136). -/
def VCtx.valSelector (c : VCtx) (x : Sect) : Option LoadErr :=
  let filled := (selsOf c.img c.ss).flatMap (fun o => (List.range (o.lanes + 1)).map (fun i => o.firstSlot + i))
  firstErr
    [firstErr ((List.range x.nrec).map (fun k => errIf (!c.selOk x k) 0x19 x.idx k)),
     errIf ((segsOf c.img c.ss).any (fun g => decide (g.slot ≠ 0xFF) && !filled.contains g.slot)) 0x19 x.idx x.nrec]

/-- Segments that use slots in an image without selectors (R136). -/
def VCtx.valNoSelector (c : VCtx) (x : Sect) : Option LoadErr :=
  if hSels c.img = 0 then
    firstErr ((List.range x.nrec).map (fun k => errIf (decide ((segOf (recAt c.img x 16 k)).slot ≠ 0xFF)) 0x19 x.idx k))
  else none

/-- The VARIANT section (R134). -/
def VCtx.valVariant (_c : VCtx) (x : Sect) : Option LoadErr := errIf (decide (65536 < x.nrec)) 0x19 x.idx 65536

/-- The INIT section (R128). -/
def VCtx.valInit (c : VCtx) (x : Sect) : Option LoadErr :=
  let q := initsOf c.img c.ss x.lgroup
  firstErr
    [firstErr ((List.range q.1.length).map (fun k =>
       let r := nth ⟨0, 0, 0, []⟩ q.1 k
       errIf (decide (r.addr % 16 ≠ 0 ∨ r.data.length % 16 ≠ 0) || !c.inRegion (16 * x.lgroup + r.pos) r.addr r.data.length)
         0x16 x.idx k)), q.2]

/-! ### The stage -/

/-- One section's records. The routes of a partial load's kept groups are checked under the new placement once it holds;
such a failure belongs to no section of the image (R146; DEDUCED, log entry 109). -/
def State.valSection (s : State) (c : VCtx) (x : Sect) : Option LoadErr :=
  match x.typ with
  | 1 => firstErr [s.valPlacement c x, errIf (hPartial c.img && c.keptClaims.isNone) 0x14 sectNone 0]
  | 2 => firstErr [c.valSegment x, c.valNoSelector x]
  | 3 => c.valSelector x
  | 4 => c.valVariant x
  | 0x10 => s.valTileFunc c x
  | 0x11 => c.valRoute x
  | 0x12 => c.valSchedule x
  | 0x13 => c.valAddr x
  | 0x14 => c.valRouting x
  | 0x15 => c.valInit x
  | _ => none

/-- The active image of a slice. -/
def State.activeImage (s : State) (sl : Nat) : Option Image :=
  if s.get (PLN_SLICE_IMG_STATE sl) = 2 then (s.slice sl).image else none

/-- The conditions of R146 that the header and placement decide. -/
def State.partialBad (s : State) (img : List Byte) (sl : Nat) : Bool :=
  match s.activeImage sl with
  | none => true
  | some im =>
    hRadio img || decide (hImageId img ≠ im.imageId ∨ hGen img ≠ im.gen + 1)
    || (placements img (sections img)).any (fun p => !im.groups.any (fun g => decide (g.lgroup = p.1)))

/-- The context of a load: the origin, directory entries and placement of a full image, or those that a partial image
takes from the active one (R128, R146). -/
def State.loadCtx (s : State) (img : List Byte) (sl ox oy : Nat) : VCtx :=
  let ss := sections img
  let place (o : Nat × Nat) : List (Nat × Nat) := (placements img ss).filterMap (fun p =>
    (gridGroup (o.1 + p.2.1) (o.2 + p.2.2)).map (fun g => (p.1, g)))
  if hPartial img then
    match s.activeImage sl with
    | none => ⟨img, ss, sl, 0, 0, 1, none, [], []⟩
    | some im =>
      let old := (s.slice sl).place.map (fun q => (q.1, q.2 - 1))
      let kept := old.filter (fun q => !(placements img ss).any (fun p => decide (p.1 = q.1)))
      ⟨img, ss, sl, im.ox, im.oy, im.ndir, some im, place (im.ox, im.oy) ++ kept, old⟩
  else ⟨img, ss, sl, ox, oy, ndirOf (segsOf img ss), none, place (ox, oy), []⟩

/-- VALIDATE (R141): the image-wide conditions, then the sections in order. -/
def State.validate (s : State) (img : List Byte) (sl ox oy : Nat) : Option LoadErr :=
  let c := s.loadCtx img sl ox oy
  firstErr
    [errIf (decide (hRadio img ≠ decide (sl = 0))) 0x11 sectNone 0,
     errIf (hPartial img && s.partialBad img sl) 0x1B sectNone 0,
     errIf (!hPartial img && (s.slice sl).image.isSome) 0x1D sectNone 0,
     firstErr (c.ss.map (s.valSection c))]

end Sys2Proof.Machine
end

