-- ==== Sys2Proof/Machine/GroupOps.lean ====
section
/-! DEFINITION. Operations on tile groups shared by loading, dispatch, pre-emption, radio windows and destruction:
power (R34, R526), clearing of contexts and regions (R98, R99, R175), and the stores of an image (R118, R141). -/

namespace Sys2Proof.Machine

/-- `STAGE` values: IDLE. -/
def stIdle : Nat := 0
/-- FETCH. -/
def stFetch : Nat := 1
/-- CHECK. -/
def stCheck : Nat := 2
/-- VALIDATE. -/
def stValidate : Nat := 3
/-- WRITE. -/
def stWrite : Nat := 4
/-- LOADED. -/
def stLoaded : Nat := 5
/-- ACTIVE. -/
def stActive : Nat := 6
/-- FAILED. -/
def stFailed : Nat := 7

/-- A group switched on (R526): the contexts, registers and movers of its tiles are clear, an unmarked group's
scratchpads zeroed, and the group IDLE. -/
def State.powerOnGroup (s : State) (g : Nat) : State :=
  if s.groupOn g || !s.present g then s
  else
    let keep := s.marked g
    let fresh (x : Tile) : Tile :=
      { Tile.reset with
        spad := if keep then x.spad else memEmpty
        store := x.store, rstore := x.rstore, saved := none, chunkQ := x.chunkQ, keptInt := x.keptInt }
    let s1 := s.putPairBit PWR_DOM_TG_LO_ON PWR_DOM_TG_HI_ON g true
    let s2 := (groupTiles g).foldl (fun a t => (a.onTile t fresh).refreshTile t) s1
    let s3 := s2.onGroup g (fun r => { r with idleAt := s.raw })
    if s3.get (DSP_GRP_STATE_STATE g) = grpSaved then s3 else s3.setGroupState g grpIdle modeIdle

/-- A group switched off (R526): an unmarked group's scratchpads are lost. A SAVED group stays SAVED (R344). -/
def State.powerOffGroup (s : State) (g : Nat) : State :=
  if !s.groupOn g then s
  else
    let keep := s.marked g
    let s1 := s.putPairBit PWR_DOM_TG_LO_ON PWR_DOM_TG_HI_ON g false
    let s2 := (groupTiles g).foldl (fun a t =>
      a.onTile t (fun x => { Tile.reset with
        spad := if keep then x.spad else memEmpty, store := x.store, rstore := x.rstore, chunkQ := x.chunkQ, keptInt := x.keptInt })) s1
    if s2.get (DSP_GRP_STATE_STATE g) = grpSaved then s2
    else s2.setGroupState g grpOff modeOff

/-- Accumulators, weight registers, staging and VC0 buffers cleared (R175, R339). -/
def clearContext (x : Tile) : Tile := { x with cx := TileCtx.empty, ej := [] }

/-- INIT data written into a tile (R128). -/
def writeInit (phys : Nat → Nat) (gs : GroupSec) (p : Nat) (x : Tile) : Tile :=
  (gs.init.filter (fun r => decide (r.pos = p))).foldl (fun y r =>
    let put (m : Memory) (i : Nat) : Memory :=
      let a := r.addr + 16 * i
      m.writeWord ((256 * phys (a / 256) + a % 256) / 16) ⟨(r.data.drop (16 * i)).take 16, false⟩
    { y with spad := (List.range (r.data.length / 16)).foldl put y.spad }) x

/-- A group's sections written on physical group `g`: stores, and INIT data if asked. -/
def State.writeGroup (s : State) (gs : GroupSec) (g : Nat) (withInit : Bool) : State :=
  (List.range 16).foldl (fun a p =>
    let t := tileAt g p
    let a1 := a.onTile t (writeStores gs p)
    if withInit then a1.onTile t (writeInit (a1.physRow t) gs p) else a1) s

/-- The stores of a kind emptied on a group's tiles. -/
def State.dropStores (s : State) (g : Nat) (radio : Bool) : State :=
  (groupTiles g).foldl (fun a t => a.onTile t (fun x =>
    if radio then { x with rstore := TileStore.empty } else { x with store := TileStore.empty })) s

/-- A group's sealed contents written to zeros, and its SEAL bit cleared (R467, R469): tenant region, accumulators, weight
registers and handover area. Slice 0's run on a lent group keeps its own context. -/
def State.wipeGroup (s : State) (g : Nat) : State :=
  let lent := decide (s.get (DSP_GRP_STATE_STATE g) = grpLent)
  let s1 := (groupTiles g).foldl (fun a t =>
    (a.clearTenant t).onTile t (fun x => if lent then { x with saved := none } else { clearContext x with saved := none })) s
  s1.putPairBit HOL_SEAL_GROUPS_LO_SEAL HOL_SEAL_GROUPS_HI_SEAL g false

/-- The sealed groups of a slice. -/
def State.sealedOf (s : State) (sl : Nat) : List Nat :=
  (List.range 64).filter (fun g => s.granted sl g && s.pairBit HOL_SEAL_GROUPS_LO_SEAL HOL_SEAL_GROUPS_HI_SEAL g)

end Sys2Proof.Machine
end

