-- ==== Sys2Proof/Machine/CycOps.lean ====
section
/-! DEFINITION. Operations shared by dispatch, the cyclic schedule, replay and epochs: commit messages (R170, R379), steps
run again (R172), guards and runs (R334, R337, R338), and the handover of a group (R339 to R341). -/

namespace Sys2Proof.Machine

/-! ### The dispatcher's state -/

/-- A slice's dispatcher goes to a state; while it is PREEMPTED or STALLED, that is the state it goes back to. Only `RETRY` and
`RUN` 0 leave FAULTED (R160). -/
def State.dspTo (s : State) (sl st : Nat) : State :=
  let cur := s.get (DSP_SLC_STATE_STATE sl)
  if cur = dspFaulted then s
  else if cur = dspPreempted then s.onSlice sl (fun x => { x with resumeSt := st })
  else if cur = dspStalled then s.onSlice sl (fun x => { x with stallSt := st })
  else s.put (DSP_SLC_STATE_STATE sl) st

/-- Progress of a slice ends STALLED (R160, R174). -/
def State.progress (s : State) (sl : Nat) : State :=
  s.putIf (decide (s.get (DSP_SLC_STATE_STATE sl) = dspStalled)) (DSP_SLC_STATE_STATE sl) (s.slice sl).stallSt

/-- Whether a partial reload in its WRITE holds a slice (R147). -/
def State.holdFor (s : State) (sl : Nat) : Bool :=
  decide (s.get PLN_LOAD_STATUS_STAGE = stWrite) && hPartial s.loader.bytes && decide (s.loader.slice = sl)

/-- A READY slice at a step boundary is HELD for the loader's WRITE, unless it is being saved (R147, R160, R349). -/
def State.settleHold (s : State) (sl : Nat) : State :=
  s.putIf (s.holdFor sl && decide (s.get (DSP_SLC_STATE_STATE sl) = dspReady ∧ (s.slice sl).steps = [] ∧ (s.slice sl).rerun = 0)
    && !s.flag (DSP_SLC_SAVE_SAVE_PEND sl)) (DSP_SLC_STATE_STATE sl) dspHeld

/-- A slice has no step left: READY, or STOPPED where `RUN` is 0 (R160). -/
def State.dspIdle (s : State) (sl : Nat) : State :=
  (if s.flag (DSP_SLC_CTRL_RUN sl) then s.dspTo sl dspReady else (s.endSave sl).dspTo sl dspStopped).settleHold sl

/-- A slice leaves HELD or FAULTED: to READY, or to STOPPED where `RUN` is 0 (R160). -/
def State.dspRestart (s : State) (sl : Nat) : State :=
  (if s.flag (DSP_SLC_CTRL_RUN sl) then s.put (DSP_SLC_STATE_STATE sl) dspReady
    else (s.endSave sl).put (DSP_SLC_STATE_STATE sl) dspStopped).settleHold sl

/-- `UNCOMMITTED` and the marks of the slice's groups follow its uncommitted steps. -/
def State.refreshMarks (s : State) (sl : Nat) : State :=
  let x := s.slice sl
  x.place.foldl (fun a p =>
    if p.2 = 0 then a
    else
      let g := p.2 - 1
      let cur := x.steps.filter (fun r => decide (r.num = (a.group g).step))
      (a.putB (DSP_GRP_STATE_SAMPLED g) (cur.any (fun r => r.sampled.contains p.1))).putB (DSP_GRP_STATE_SUSPECT g)
        (x.steps.any (fun r => r.suspect.contains p.1))) (s.refreshSlice sl)

/-! ### Commit messages and reruns -/

/-- READY. -/
def ctrlReady : Nat := 1
/-- RERUN. -/
def ctrlRerun : Nat := 2

/-- A commit message for step `n` to the other members of a slice's commit group that `keep` names (R170, R379). -/
def State.sendCtrl (s : State) (sl code n : Nat) (keep : Nat → Bool) : State :=
  let g := s.get (DSP_SLC_CTRL_COMMIT_MGROUP sl)
  if g = 0 then s
  else ((s.mcast g).filter (fun d => decide (d ≠ s.self) && keep d)).foldl (fun a d =>
    a.sendOrWait ⟨pktCtrl, 0, 0, flowCtrl, 15, false, false, 0, a.self, d, 0, 0, 0, 0, n % 2 ^ 16, g, code, []⟩ .ctrl) s

/-- Step `n` and any later uncommitted one of a slice are discarded and run again (R170, R172); with `tell` the commit group
hears of it. Of a step that is not released yet, what members have staged early is dropped. -/
def State.rerunSteps (s : State) (sl n : Nat) (tell : Bool) : State :=
  let k := ((s.slice sl).steps.filter (fun r => stepFrom n r.num)).length
  if !(s.slice sl).steps.any (fun r => decide (r.num = n)) then
    if stepFrom (s.slice sl).nextRelease n then
      ((s.dropReorder sl n).onSlice sl (fun x => { x with early := x.early.filter (fun r => !stepFrom n r.num) })).refreshSlice sl
    else s
  else
    let s1 := (s.discardFrom sl n).onSlice sl (fun x => { x with rerun := x.rerun + k })
    let s2 := ((s1.tally (DSP_SLC_RERUNS sl)).dspEvent sl (DSP_SLC_EVENT_RERUN sl)).dspTo sl dspRunning
    if tell then s2.sendCtrl sl ctrlRerun n (fun _ => true) else s2

/-- Whether every sampled or suspect group of a step has its verdict (R169). -/
def StepRt.judged (r : StepRt) : Bool := (r.sampled ++ r.suspect).all (fun g => r.matched.contains g)

/-- A step that meets the first four conditions of R169 is reported ready to the commit group (R170). -/
def State.maybeReady (s : State) (sl : Nat) : State :=
  match (s.slice sl).steps with
  | [] => s
  | r :: _ =>
    if r.ended ∧ r.judged ∧ !r.readySent ∧ s.get (DSP_SLC_CTRL_COMMIT_MGROUP sl) ≠ 0 then
      (s.onStepRec sl r.num (fun q => { q with readySent := true })).sendCtrl sl ctrlReady r.num (fun _ => true)
    else s

/-! ### Guards and runs -/

/-- TCLK in MHz at a clock step (R535). -/
def tclkMHz (step : Nat) : Nat := nth 650 [1950, 1800, 1625, 1500, 1300, 1125, 975, 650] step
/-- A die's TCLK in MHz. -/
def State.dieMHz (s : State) (d : Nat) : Nat := tclkMHz (s.get (PWR_TCLK_STEP d))

/-- The slice whose image runs segments on a group: a replay's, or the tenant's whose ACTIVE image is placed there. -/
def State.runsOn (s : State) (g : Nat) : Option Nat :=
  match s.integ.replays.find? (fun r => decide (r.target = g)) with
  | some r => some r.slice
  | none =>
    let sl := s.get (DSP_GRP_STATE_SLICE g)
    if sl ≠ 0 ∧ s.get (PLN_SLICE_IMG_STATE sl) = 2 ∧ (s.sliceGroups sl).contains g then some sl else none

/-- Whether a group is borrowable (R334). -/
def State.borrowable (s : State) (g : Nat) : Bool := s.marked g && !s.granted 0 g

/-- G_g in ns (R337). -/
def State.guardNs (s : State) (g : Nat) : Nat :=
  if s.borrowable g then
    match (s.runsOn g).bind (fun sl => (s.slice sl).image) with
    | none => 0
    | some im =>
      let f := s.dieMHz (g / 16)
      (im.maxSeg * 1000 + f - 1) / f + s.get DSP_CYC_GUARD_PAD_NS
  else 0

/-- Word `w` of window `j` of bank `b` (R332). -/
def State.winWord (s : State) (b j w : Nat) : Nat := s.get (DSP_CYC_WIN_WORD b j w)
/-- Whether a window's record sets bit `g` of `GROUPS`. -/
def State.winNames (s : State) (b j g : Nat) : Bool := decide (s.winWord b j (g / 32) / 2 ^ (g % 32) % 2 = 1)
/-- Whether a bank names a group in some window. -/
def State.bankNames (s : State) (b g : Nat) : Bool := (List.range 1280).any (fun j => s.winNames b j g)

/-- `GUARD_NS` and `BORROW` of every group (R337). -/
def State.refreshGuards (s : State) : State :=
  (List.range 64).foldl (fun a g =>
    (a.put (DSP_GRP_GUARD_GUARD_NS g) (a.guardNs g)).putB (DSP_GRP_GUARD_BORROW g)
      (a.borrowable g && a.cyc.valid && a.bankNames (a.get DSP_CYC_CTRL_ACTIVE) g)) s

/-- Whether the window `i` windows on from the present one works on group `g` for slice 0: the table is in force at once or
from the next frame, and a pending bank from the next frame (R334 to R336). -/
def State.winAhead (s : State) (g i : Nat) : Bool :=
  let j := s.windowNow + i
  let act := s.get DSP_CYC_CTRL_ACTIVE
  let b := if 1280 ≤ j ∧ s.flag DSP_CYC_CTRL_PEND ∧ !s.cyc.skip then 1 - act else act
  s.flag DSP_CYC_CTRL_EN && (s.cyc.force || decide (1280 ≤ j)) && s.winNames b (j % 1280) g

/-- The time to the start of a group's next run, in units of 2^-32 ns, if it has one. -/
def State.toRun (s : State) (g : Nat) : Option Nat :=
  let swap := s.flag DSP_CYC_CTRL_PEND && !s.cyc.skip
  ((List.range 2560).find? (fun i => decide (0 < i) && s.winAhead g i
    && (!s.winAhead g (i - 1) || (swap && decide (s.windowNow + i = 1280))))).map (fun i =>
      (s.windowNow + i) * (15625 * 2 ^ 31) - s.inFrame)

/-- Whether `ns` nanoseconds pass before a group's next run. -/
def State.beforeRun (s : State) (g ns : Nat) : Bool :=
  match s.toRun g with
  | none => true
  | some d => decide (ns * 2 ^ 32 ≤ d)

/-! ### Handover -/

/-- A cyclic-table event: it raises the dispatcher interrupt of slice 0. -/
def State.cycEvent (s : State) (f : Fld) : State := s.event f 67

/-- A running segment on a borrowable group is cut (R339): nothing is dumped, and the step that it belongs to runs again, a
replay's too (DEDUCED, log entry 50). -/
def State.cutGroup (s : State) (g : Nat) : State :=
  let s1 := (groupTiles g).foldl (fun a t => a.onTile t clearContext) s
  let sn := match s1.replayOn g with
    | some r => (r.slice, r.step)
    | none => (s1.get (DSP_GRP_STATE_SLICE g), (s1.group g).step)
  let s2 := (s1.tally (DSP_SLC_CUTS sn.1)).tally DSP_CYC_CUTS
  (s2.rerunSteps sn.1 sn.2 true).cycEvent DSP_CYC_EVENT_CUT

/-- A group's context handed to the handover area, if it is live, and its tiles given to slice 0 (R99, R340). -/
def handOver (live : Bool) (x : Tile) : Tile :=
  let r := x.run
  { x with
    saved := if live then some (x.cx, r) else none
    cx := TileCtx.empty
    run := { TileRun.reset with radio := true } }

/-- A borrowable group lent to slice 0 at the start of its run (R340, R343). Its tiles show HANDOVER until slice 0's first
segment on it begins (R162; DEDUCED, log entry 116). -/
def State.lendGroup (s : State) (g : Nat) : State :=
  let st0 := s.get (DSP_GRP_STATE_STATE g)
  if st0 = grpLent then s.onGroup g (fun r => { r with retPend := false })
  else if s.quarantined g then s.cycEvent DSP_CYC_EVENT_SKIP
  else if st0 = grpSave ∨ st0 = grpRestore then s
  else
    let run := decide (st0 = grpRun)
    let s1 := s.powerOnGroup g
    let s2 := if run then s1.cutGroup g else s1
    let live := decide (st0 = grpBoundary)
    let st2 := s2.get (DSP_GRP_STATE_STATE g)
    let was := if st2 = grpOff then grpIdle else if st2 = grpRun then grpBoundary else st2
    let s3 := (groupTiles g).foldl (fun a t => a.onTile t (handOver live)) s2
    let s4 := s3.onGroup g (fun r => { r with before := was, dumped := live, retPend := false, running := false, rrunning := false, det := false })
    (s4.setGroupState g grpLent modeHandover).setGroupOwner g 0

/-- A tile given back: its context restored if it was dumped (R341). -/
def takeBack (x : Tile) : Tile :=
  match x.saved with
  | some (c, r) => { x with cx := c, run := r, saved := none, ej := [] }
  | none => { x with cx := TileCtx.empty, run := TileRun.reset, ej := [] }

/-- A lent group returned (R341). -/
def State.giveBack (s : State) (g : Nat) : State :=
  if s.get (DSP_GRP_STATE_STATE g) ≠ grpLent then s
  else
    let was := (s.group g).before
    let s1 := (groupTiles g).foldl (fun a t => a.onTile t takeBack) s
    let s2 := s1.onGroup g (fun r => { r with retPend := false, dumped := false, rrunning := false, stage := none, idleAt := s.raw })
    let s3 := s2.setGroupState g was (if was = grpBoundary then modeTenant else modeIdle)
    s3.setGroupOwner g (s3.get (DSP_GRP_STATE_SLICE g))

end Sys2Proof.Machine
end

