-- ==== Sys2Proof/Machine/LaneCode.lean ====
section
/-! DEFINITION. The encoding of a lane bundle (R249, R254, R258, R263): its four slots decoded from 128 bits, and encoded
into them. -/

namespace Sys2Proof.Machine

/-- A field of a slot. -/
def slotF (w : Word) (lo wd : Nat) : Nat := bitField w.toNat lo wd

/-- The M slot's operands (R249). -/
def decMul (w : Word) : LaneMul :=
  ⟨w.extractLsb' 25 2, w.extractLsb' 19 6, w.extractLsb' 13 6, w.getLsbD 12, w.getLsbD 11⟩
/-- The M slot's operation; `none` is refused. -/
def decMop (w : Word) : Option MulOp :=
  match slotF w 27 5 with
  | 0 => some .nop | 1 => some .mpy | 2 => some .mac | 3 => some .msu
  | 4 => some .cmpy | 5 => some .cmac | 6 => some .cmacj | 7 => some .aclr
  | _ => none

/-- The A slot's operands (R254). -/
def decAlu (w : Word) : LaneAlu := ⟨w.extractLsb' 20 6, w.extractLsb' 14 6, w.extractLsb' 8 6, w.extractLsb' 0 8⟩
/-- The A slot's operation; `none` is refused. -/
def decAop (w : Word) : Option AluOp :=
  match slotF w 26 6 with
  | 0 => some .nop | 1 => some .add | 2 => some .sub | 3 => some .and | 4 => some .or | 5 => some .xor
  | 6 => some .shl | 7 => some .shra | 8 => some .shrl | 9 => some .movi | 10 => some .movh
  | 11 => some .max | 12 => some .min | 13 => some .maxi | 14 => some .mini
  | 15 => some .cadd | 16 => some .csub | 17 => some .shc | 18 => some .nrm | 19 => some .nrmc
  | 20 => some .exth | 21 => some .extc | 22 => some .extw | 23 => some .xch | 24 => some .mov | 25 => some .rdf
  | _ => none

/-- The operands of an L-slot access (R258). -/
def decMem (w : Word) : LaneMem :=
  ⟨w.extractLsb' 22 6, w.extractLsb' 19 3, w.extractLsb' 16 3, w.extractLsb' 13 3, w.extractLsb' 11 2, w.getLsbD 10⟩
/-- An L-slot access, if its window and size are not refused. -/
def decAccess (f : LaneMem → LsOp) (wordOnly : Bool) (w : Word) : Option LsOp :=
  let o := decMem w
  if 4 < o.win.toNat ∨ o.sz = 3 ∨ (wordOnly ∧ o.sz ≠ 0) then none else some (f o)
/-- `MOVR` and `MOVV`, if kind and index are not refused. -/
def decMove (f : BitVec 6 → BitVec 2 → BitVec 3 → LsOp) (w : Word) : Option LsOp :=
  let kind : BitVec 2 := w.extractLsb' 20 2
  let idx : BitVec 3 := w.extractLsb' 17 3
  if kind = 3 ∨ (kind = 2 ∧ 3 < idx.toNat) then none else some (f (w.extractLsb' 22 6) kind idx)
/-- The L slot; `none` is refused. -/
def decLs (w : Word) : Option LsOp :=
  match slotF w 28 4 with
  | 0 => some .nop
  | 1 => decAccess .ld false w
  | 2 => decAccess .st false w
  | 3 => decAccess .aadd true w
  | 4 => decAccess .aswp true w
  | 5 => decAccess .amod false w
  | 6 => if slotF w 26 2 < 2 then some (.seti (w.getLsbD 26) (w.extractLsb' 23 3) (w.extractLsb' 0 16)) else none
  | 7 => decMove .movr w
  | 8 => decMove .movv w
  | _ => none

/-- The operands of `LOOP` (R263). -/
def decLoop (w : Word) : LaneLoopOp :=
  ⟨w.extractLsb' 26 2, w.getLsbD 25, w.getLsbD 24, w.extractLsb' 22 2, w.extractLsb' 0 16⟩
/-- The C slot; `none` is refused. -/
def decCtl (w : Word) : Option CtlOp :=
  match slotF w 28 4 with
  | 0 => some .nop
  | 1 => if (decLoop w).rsz = 3 then none else some (.loop false (decLoop w))
  | 2 => some (.endl (w.extractLsb' 26 2))
  | 3 => if (decLoop w).rsz = 3 then none else some (.loop true (decLoop w))
  | 4 => some .halt
  | 5 => some (.wait (w.extractLsb' 0 6))
  | 6 => some (.post (w.extractLsb' 0 6))
  | 7 => some .clrf
  | _ => none

/-- A bundle from its words C, L, A and M; `none` is refused. -/
def decBundle (c l a m : Word) : Option LaneBundle :=
  match decCtl c, decLs l, decAop a, decMop m with
  | some co, some lo, some ao, some mo => some ⟨co, slotF c 16 6, lo, ao, decAlu a, mo, decMul m⟩
  | _, _, _, _ => none

/-! ### The encoder -/

/-- The code of an M-slot operation. -/
def mopCode : MulOp → BitVec 5
  | .nop => 0 | .mpy => 1 | .mac => 2 | .msu => 3 | .cmpy => 4 | .cmac => 5 | .cmacj => 6 | .aclr => 7
/-- The code of an A-slot operation. -/
def aopCode : AluOp → BitVec 6
  | .nop => 0 | .add => 1 | .sub => 2 | .and => 3 | .or => 4 | .xor => 5 | .shl => 6 | .shra => 7 | .shrl => 8
  | .movi => 9 | .movh => 10 | .max => 11 | .min => 12 | .maxi => 13 | .mini => 14 | .cadd => 15 | .csub => 16
  | .shc => 17 | .nrm => 18 | .nrmc => 19 | .exth => 20 | .extc => 21 | .extw => 22 | .xch => 23 | .mov => 24 | .rdf => 25

/-- The M slot's word. -/
def encMul (op : MulOp) (m : LaneMul) : Word :=
  mopCode op ++ m.acc ++ m.va ++ m.vb ++ BitVec.ofBool m.ha ++ BitVec.ofBool m.hb ++ (0 : BitVec 11)
/-- The A slot's word. -/
def encAlu (op : AluOp) (a : LaneAlu) : Word := aopCode op ++ a.vd ++ a.va ++ a.vb ++ a.imm
/-- The word of an L-slot access. -/
def encAccess (lop : BitVec 4) (o : LaneMem) : Word :=
  lop ++ o.vr ++ o.ar ++ o.mr ++ o.win ++ o.sz ++ BitVec.ofBool o.pm ++ (0 : BitVec 10)
/-- The L slot's word. -/
def encLs : LsOp → Word
  | .nop => 0
  | .ld o => encAccess 1 o
  | .st o => encAccess 2 o
  | .aadd o => encAccess 3 o
  | .aswp o => encAccess 4 o
  | .amod o => encAccess 5 o
  | .seti m idx imm => (6 : BitVec 4) ++ (0 : BitVec 1) ++ BitVec.ofBool m ++ idx ++ (0 : BitVec 7) ++ imm
  | .movr vr kind idx => (7 : BitVec 4) ++ vr ++ kind ++ idx ++ (0 : BitVec 17)
  | .movv vr kind idx => (8 : BitVec 4) ++ vr ++ kind ++ idx ++ (0 : BitVec 17)
/-- The C slot's word. -/
def encCtl (idle : BitVec 6) : CtlOp → Word
  | .nop => (0 : BitVec 10) ++ idle ++ (0 : BitVec 16)
  | .loop one o => (if one then (3 : BitVec 4) else 1) ++ o.lc ++ BitVec.ofBool o.wrap ++ BitVec.ofBool o.rot ++ o.rsz ++ idle ++ o.count
  | .endl lc => (2 : BitVec 4) ++ lc ++ (0 : BitVec 4) ++ idle ++ (0 : BitVec 16)
  | .halt => (4 : BitVec 4) ++ (0 : BitVec 6) ++ idle ++ (0 : BitVec 16)
  | .wait ev => (5 : BitVec 4) ++ (0 : BitVec 6) ++ idle ++ (0 : BitVec 10) ++ ev
  | .post ev => (6 : BitVec 4) ++ (0 : BitVec 6) ++ idle ++ (0 : BitVec 10) ++ ev
  | .clrf => (7 : BitVec 4) ++ (0 : BitVec 6) ++ idle ++ (0 : BitVec 16)

/-- Whether a slot's word is what its decoding encodes to: no field that the operation does not have is set (R268). -/
def cleanSlots (b : LaneBundle) (c l a m : Word) : Bool :=
  decide (encCtl (BitVec.ofNat 6 b.idle) b.c = c ∧ encLs b.l = l ∧ encAlu b.aop b.a = a ∧ encMul b.mop b.m = m)

/-- Whether an A slot leaves every field that its operation does not use at 0, and `MAXI` and `MINI` have an even `VD`
(R254, R256). -/
def aluUnused (op : AluOp) (a : LaneAlu) : Bool :=
  let z := decide (a.va = 0 ∧ a.vb = 0 ∧ a.imm = 0)
  match op with
  | .nop => z && decide (a.vd = 0)
  | .add | .sub | .and | .or | .xor | .max | .min | .cadd | .csub | .shc => decide (a.imm = 0)
  | .maxi | .mini => decide (a.imm = 0) && decide (a.vd.toNat % 2 = 0)
  | .shl | .shra | .shrl | .xch => decide (a.vb = 0)
  | .movi => true
  | .movh => decide (a.imm.toNat % 16 = 0)
  | .nrm | .nrmc | .mov => decide (a.vb = 0 ∧ a.imm = 0)
  | .exth | .extc | .extw => decide (a.va = 0 ∧ a.vb = 0)
  | .rdf => z

/-- Whether a complex form names an accumulator pair (R249). -/
def mulPair (op : MulOp) (m : LaneMul) : Bool :=
  match op with
  | .cmpy | .cmac | .cmacj => decide (m.acc = 0 ∨ m.acc = 2)
  | _ => true

/-- A bundle that the loader accepts by itself (R268). -/
def laneBundleOk (c l a m : Word) : Bool :=
  match decBundle c l a m with
  | none => false
  | some b => cleanSlots b c l a m && aluUnused b.aop b.a && mulPair b.mop b.m

/-- The words of a bundle of 16 bytes. -/
def bundleWord (d : List Byte) (i : Nat) : Word := BitVec.ofNat 32 (bytesToNat ((d.drop (4 * i)).take 4))
/-- A bundle from its 16 bytes. -/
def bundleOf (d : List Byte) : Option LaneBundle := decBundle (bundleWord d 0) (bundleWord d 1) (bundleWord d 2) (bundleWord d 3)

/-- A bundle of no-operations. -/
def bundleNop : LaneBundle := ⟨.nop, 0, .nop, .nop, ⟨0, 0, 0, 0⟩, .nop, ⟨0, 0, 0, false, false⟩⟩

end Sys2Proof.Machine
end

