-- ==== Sys2Proof/Machine/Lane.lean ====
section
/-! DEFINITION. What a bundle does to the lanes of a cluster (R244 to R267): the M, A and L slots lane by lane, loops and
rotation, and the landing of results. -/

namespace Sys2Proof.Machine

/-! ### Lane state -/

/-- The size of a rotating region (R263). -/
def regionOf (rsz : BitVec 2) : Nat := 8 * 2 ^ rsz.toNat

/-- The physical register of a name (R266). -/
def ClusterRt.phys (x : ClusterRt) (n : Nat) : Nat :=
  match x.region with
  | none => n
  | some z =>
    let r := regionOf z
    if 64 - r ≤ n then 64 - r + (n - (64 - r) + x.rrb.toNat) % r else n

/-- Data register `n`, by name, of lane `l`. -/
def ClusterRt.reg (x : ClusterRt) (l n : Nat) : Word := mapGet (fun _ => 0) x.v (64 * l + x.phys (n % 64))
/-- An accumulator as an A-slot instruction reads it. -/
def ClusterRt.accOf (x : ClusterRt) (l k : Nat) : Int := (mapGet (fun _ => (0 : BitVec 40)) x.acc (4 * l + k % 4)).toInt
/-- An accumulator as an M-slot instruction reads it (R248). -/
def ClusterRt.accNow (x : ClusterRt) (l k : Nat) : Int := (mapGet (fun _ => (0 : BitVec 40)) x.accM (4 * l + k % 4)).toInt
/-- An address register. -/
def ClusterRt.addr (x : ClusterRt) (l i : Nat) : BitVec 14 := mapGet (fun _ => 0) x.a (8 * l + i)
/-- A modifier register. -/
def ClusterRt.modr (x : ClusterRt) (l i : Nat) : BitVec 16 := mapGet (fun _ => 0) x.m (8 * l + i)
/-- A window register. -/
def ClusterRt.win (x : ClusterRt) (l i : Nat) : Word := mapGet (fun _ => 0) x.w (4 * l + i)
/-- A lane's flags. -/
def ClusterRt.flag (x : ClusterRt) (l : Nat) : Word := mapGet (fun _ => 0) x.flags l
/-- A lane's flags replaced. -/
def ClusterRt.setFlag (x : ClusterRt) (l : Nat) (v : Word) : ClusterRt := { x with flags := mapSet (fun _ => 0) x.flags l v }
/-- A sticky flag bit set. -/
def ClusterRt.orFlag (x : ClusterRt) (l bit : Nat) : ClusterRt := x.setFlag l (x.flag l ||| BitVec.ofNat 32 (2 ^ bit))
/-- An address register written. -/
def ClusterRt.setAddr (x : ClusterRt) (l i : Nat) (v : BitVec 14) : ClusterRt := { x with a := mapSet (fun _ => 0) x.a (8 * l + i) v }

/-- A result of latency `lat` for a data register's name, bound to its physical register now (R246). -/
def ClusterRt.later (x : ClusterRt) (slot l n lat : Nat) (v : Word) : ClusterRt :=
  { x with pend := x.pend ++ [⟨x.clk + lat - 1, slot, l, false, x.phys (n % 64), v.toNat⟩] }
/-- An accumulator's new value: at once for the M slot, after `lat` for the others. -/
def ClusterRt.setAcc (x : ClusterRt) (l k lat : Nat) (z : Int) : ClusterRt :=
  let q := 4 * l + k % 4
  { x with
    accM := mapSet (fun _ => 0) x.accM q (BitVec.ofInt 40 z)
    pend := x.pend ++ [⟨x.clk + lat - 1, 0, l, true, k % 4, (BitVec.ofInt 40 z).toNat⟩] }

/-- One result written to its register. -/
def landOne (x : ClusterRt) (p : LanePend) : ClusterRt :=
  if p.isAcc then { x with acc := mapSet (fun _ => 0) x.acc (4 * p.lane + p.reg) (BitVec.ofNat 40 p.val) }
  else { x with v := mapSet (fun _ => 0) x.v (64 * p.lane + p.reg) (BitVec.ofNat 32 p.val) }

/-- The end of a BCLK: results that are due are written, the M slot's before the A slot's and those before the L slot's, so
that the last is kept (R247). -/
def ClusterRt.tick (x : ClusterRt) : ClusterRt :=
  let due := x.pend.filter (fun p => decide (p.due ≤ x.clk))
  let order := [0, 1, 2].flatMap (fun k => due.filter (fun p => decide (p.slot = k)))
  let y := order.foldl landOne x
  { y with pend := x.pend.filter (fun p => decide (x.clk < p.due)), clk := x.clk + 1 }

/-- Results still on their way, all landed. -/
def ClusterRt.settle : Nat → ClusterRt → ClusterRt
  | 0, x => x
  | n + 1, x => ClusterRt.settle n x.tick

/-! ### Multiply and accumulate (R249 to R253) -/

/-- The selected half of a register (R249). -/
def halfOf (w : Word) (hi : Bool) : Int := signed 16 (bitField w.toNat (if hi then 16 else 0) 16)

/-- Whether wrap mode is in force (R250). -/
def ClusterRt.wrapMode (x : ClusterRt) : Bool := (x.loops.head?.map (fun q => q.wrap)).getD false

/-- `fit40` (R250): the value kept, and whether it overflowed. -/
def fit40 (wrap : Bool) (z : Int) : Int × Bool :=
  if -(2 : Int) ^ 39 ≤ z ∧ z < (2 : Int) ^ 39 then (z, false)
  else if wrap then (signed 40 (intCode 40 z), true)
  else if z < 0 then (-(2 : Int) ^ 39, true)
  else ((2 : Int) ^ 39 - 1, true)

/-- An accumulator overflow noted (R250, R267). -/
def ClusterRt.aov (x : ClusterRt) (l k : Nat) : ClusterRt :=
  let f := x.flag l ||| BitVec.ofNat 32 (2 ^ (1 + k % 4))
  if f.getLsbD 5 then x.setFlag l f
  else
    let it := (x.loops.head?.map (fun q => q.iter)).getD 0
    x.setFlag l (BitVec.ofNat 32 (bitPut (bitPut (bitPut f.toNat 5 1 1) 6 2 k) 16 16 it))

/-- One bit of a value of width `w` inverted (R276, R277). -/
def flipInt (w bit : Nat) (z : Int) : Int := signed w (Nat.xor (intCode w z) (2 ^ (bit % w)))

/-- Terms added to accumulator `k` of lane `l` one after the other from `z0`, each through `fit40` (R250, R252). -/
def ClusterRt.addTerms (x : ClusterRt) (l k : Nat) (z0 : Int) (ts : List Int) : Int × ClusterRt :=
  ts.foldl (fun (q : Int × ClusterRt) t =>
    let r := fit40 q.2.wrapMode (q.1 + t)
    (r.1, if r.2 then q.2.aov l k else q.2)) (z0, x)

/-- A real form (R250): the product `p` taken with sign `sg`, from 0 or from the accumulator. `inj` is an armed injection's
point and bit (R277): 3 strikes the sum, 4 the product. -/
def ClusterRt.realMul (x : ClusterRt) (l : Nat) (m : LaneMul) (keep : Bool) (sg : Int) (inj : Option (Nat × Nat)) : ClusterRt :=
  let k := m.acc.toNat
  let p0 := halfOf (x.reg l m.va.toNat) m.ha * halfOf (x.reg l m.vb.toNat) m.hb
  let p := match inj with | some (4, b) => flipInt 32 b p0 | _ => p0
  let r := x.addTerms l k (if keep then x.accNow l k else 0) [sg * p]
  let z := match inj with | some (3, b) => flipInt 40 b r.1 | _ => r.1
  r.2.setAcc l k 2 z

/-- A complex form (R252): two terms for each accumulator of the pair. -/
def ClusterRt.complexMul (x : ClusterRt) (l : Nat) (m : LaneMul) (keep conj : Bool) (inj : Option (Nat × Nat)) : ClusterRt :=
  let k := m.acc.toNat / 2 * 2
  let a := x.reg l m.va.toNat
  let b := x.reg l m.vb.toNat
  let ia := halfOf a false
  let qa := halfOf a true
  let ib := halfOf b false
  let qb := halfOf b true
  let t0 := match inj with | some (4, bt) => flipInt 32 bt (ia * ib) | _ => ia * ib
  let re := if conj then [t0, qa * qb] else [t0, -(qa * qb)]
  let im := if conj then [qa * ib, -(ia * qb)] else [ia * qb, qa * ib]
  let r := x.addTerms l k (if keep then x.accNow l k else 0) re
  let i := r.2.addTerms l (k + 1) (if keep then x.accNow l (k + 1) else 0) im
  let z := match inj with | some (3, bt) => flipInt 40 bt r.1 | _ => r.1
  (i.2.setAcc l k 5 z).setAcc l (k + 1) 5 i.1

/-- MPY (R250). -/
def laneMpy (x : ClusterRt) (l : Nat) (m : LaneMul) (inj : Option (Nat × Nat)) : ClusterRt := x.realMul l m false 1 inj
/-- MAC (R250). -/
def laneMac (x : ClusterRt) (l : Nat) (m : LaneMul) (inj : Option (Nat × Nat)) : ClusterRt := x.realMul l m true 1 inj
/-- MSU (R250). -/
def laneMsu (x : ClusterRt) (l : Nat) (m : LaneMul) (inj : Option (Nat × Nat)) : ClusterRt := x.realMul l m true (-1) inj
/-- CMPY (R252). -/
def laneCmpy (x : ClusterRt) (l : Nat) (m : LaneMul) (inj : Option (Nat × Nat)) : ClusterRt := x.complexMul l m false false inj
/-- CMAC (R252). -/
def laneCmac (x : ClusterRt) (l : Nat) (m : LaneMul) (inj : Option (Nat × Nat)) : ClusterRt := x.complexMul l m true false inj
/-- CMACJ (R252). -/
def laneCmacj (x : ClusterRt) (l : Nat) (m : LaneMul) (inj : Option (Nat × Nat)) : ClusterRt := x.complexMul l m true true inj
/-- ACLR (R253). -/
def laneAclr (x : ClusterRt) (l : Nat) (m : LaneMul) : ClusterRt := x.setAcc l m.acc.toNat 1 0

/-- The M slot of one lane. -/
def ClusterRt.mulSlot (x : ClusterRt) (l : Nat) (op : MulOp) (m : LaneMul) (inj : Option (Nat × Nat)) : ClusterRt :=
  match op with
  | .nop => x
  | .mpy => laneMpy x l m inj
  | .mac => laneMac x l m inj
  | .msu => laneMsu x l m inj
  | .cmpy => laneCmpy x l m inj
  | .cmac => laneCmac x l m inj
  | .cmacj => laneCmacj x l m inj
  | .aclr => laneAclr x l m

/-! ### The A slot (R254 to R257) -/

/-- Redundant sign bits of the low `w` bits (R255). -/
def rsb (w v : Nat) : Nat :=
  ((List.range (w - 1)).find? (fun i => decide (v / 2 ^ (w - 2 - i) % 2 ≠ v / 2 ^ (w - 1) % 2))).getD (w - 1)

/-- Two INT16 components as a CI16 value (R41). -/
def packCI (i q : Int) : Word := BitVec.ofNat 32 (intCode 16 i + 65536 * intCode 16 q)

/-- Both halves of two values combined, each saturated to INT16 (R254): the value, and whether a half saturated. -/
def pairSat (f : Int → Int → Int) (a b : Word) : Word × Bool :=
  let i := satWidth 16 (f (halfOf a false) (halfOf b false))
  let q := satWidth 16 (f (halfOf a true) (halfOf b true))
  (packCI i.1 q.1, decide (i.2 ≠ 0 ∨ q.2 ≠ 0))

/-- A value shifted left by `sh`, or arithmetically right by -`sh`, truncating (R59). -/
def shiftInt (sh : Int) (z : Int) : Int := if 0 ≤ sh then z * (2 : Int) ^ sh.toNat else z / (2 : Int) ^ (-sh).toNat

/-- An A-slot result with the `SAT` flag. -/
def ClusterRt.satResult (x : ClusterRt) (l : Nat) (a : LaneAlu) (lat : Nat) (r : Word × Bool) : ClusterRt :=
  (if r.2 then x.orFlag l 0 else x).later 1 l a.vd.toNat lat r.1

/-- A two-operand result of latency 1. -/
def ClusterRt.alu2 (x : ClusterRt) (l : Nat) (a : LaneAlu) (f : Word → Word → Word) : ClusterRt :=
  x.later 1 l a.vd.toNat 1 (f (x.reg l a.va.toNat) (x.reg l a.vb.toNat))
/-- A shift by `IMM` bits 4:0. -/
def ClusterRt.aluShift (x : ClusterRt) (l : Nat) (a : LaneAlu) (f : Word → Nat → Word) : ClusterRt :=
  x.later 1 l a.vd.toNat 1 (f (x.reg l a.va.toNat) (a.imm.toNat % 32))
/-- The accumulator that an extraction names, shifted (R254). -/
def ClusterRt.extracted (x : ClusterRt) (l k : Nat) (a : LaneAlu) : Int := x.accOf l k / (2 : Int) ^ (a.imm.toNat % 32)

/-- ADD. -/
def laneAdd (x : ClusterRt) (l : Nat) (a : LaneAlu) : ClusterRt := x.alu2 l a (fun p q => p + q)
/-- SUB. -/
def laneSub (x : ClusterRt) (l : Nat) (a : LaneAlu) : ClusterRt := x.alu2 l a (fun p q => p - q)
/-- AND. -/
def laneAnd (x : ClusterRt) (l : Nat) (a : LaneAlu) : ClusterRt := x.alu2 l a (fun p q => p &&& q)
/-- OR. -/
def laneOr (x : ClusterRt) (l : Nat) (a : LaneAlu) : ClusterRt := x.alu2 l a (fun p q => p ||| q)
/-- XOR. -/
def laneXor (x : ClusterRt) (l : Nat) (a : LaneAlu) : ClusterRt := x.alu2 l a (fun p q => p ^^^ q)
/-- SHL. -/
def laneShl (x : ClusterRt) (l : Nat) (a : LaneAlu) : ClusterRt := x.aluShift l a (fun p n => p <<< n)
/-- SHRA. -/
def laneShra (x : ClusterRt) (l : Nat) (a : LaneAlu) : ClusterRt := x.aluShift l a (fun p n => p.sshiftRight n)
/-- SHRL. -/
def laneShrl (x : ClusterRt) (l : Nat) (a : LaneAlu) : ClusterRt := x.aluShift l a (fun p n => p >>> n)
/-- MOVI: bits 19:0 of the slot, sign-extended. -/
def laneMovi (x : ClusterRt) (l : Nat) (a : LaneAlu) : ClusterRt :=
  x.later 1 l a.vd.toNat 1 (BitVec.signExtend 32 (a.va ++ a.vb ++ a.imm))
/-- MOVH: bits 31:16 take slot bits 19:4. -/
def laneMovh (x : ClusterRt) (l : Nat) (a : LaneAlu) : ClusterRt :=
  let imm : BitVec 20 := a.va ++ a.vb ++ a.imm
  x.later 1 l a.vd.toNat 1 (BitVec.ofNat 32 (bitPut (x.reg l a.vd.toNat).toNat 16 16 (imm.toNat / 16)))
/-- MAX. -/
def laneMaxOp (x : ClusterRt) (l : Nat) (a : LaneAlu) : ClusterRt := x.alu2 l a (fun p q => if p.toInt < q.toInt then q else p)
/-- MIN. -/
def laneMinOp (x : ClusterRt) (l : Nat) (a : LaneAlu) : ClusterRt := x.alu2 l a (fun p q => if p.toInt < q.toInt then p else q)
/-- MAXI (R256). -/
def laneMaxi (x : ClusterRt) (l : Nat) (a : LaneAlu) : ClusterRt :=
  if (x.reg l a.vd.toNat).toInt < (x.reg l a.va.toNat).toInt then
    (x.later 1 l a.vd.toNat 1 (x.reg l a.va.toNat)).later 1 l (a.vd.toNat + 1) 1 (x.reg l a.vb.toNat)
  else x
/-- MINI (R256). -/
def laneMini (x : ClusterRt) (l : Nat) (a : LaneAlu) : ClusterRt :=
  if (x.reg l a.va.toNat).toInt < (x.reg l a.vd.toNat).toInt then
    (x.later 1 l a.vd.toNat 1 (x.reg l a.va.toNat)).later 1 l (a.vd.toNat + 1) 1 (x.reg l a.vb.toNat)
  else x
/-- CADD. -/
def laneCadd (x : ClusterRt) (l : Nat) (a : LaneAlu) : ClusterRt :=
  x.satResult l a 1 (pairSat (fun p q => p + q) (x.reg l a.va.toNat) (x.reg l a.vb.toNat))
/-- CSUB. -/
def laneCsub (x : ClusterRt) (l : Nat) (a : LaneAlu) : ClusterRt :=
  x.satResult l a 1 (pairSat (fun p q => p - q) (x.reg l a.va.toNat) (x.reg l a.vb.toNat))
/-- SHC. -/
def laneShc (x : ClusterRt) (l : Nat) (a : LaneAlu) : ClusterRt :=
  let sh := signed 5 (x.reg l a.vb.toNat).toNat
  x.satResult l a 1 (pairSat (fun p _ => shiftInt sh p) (x.reg l a.va.toNat) 0)
/-- NRM (R255). -/
def laneNrm (x : ClusterRt) (l : Nat) (a : LaneAlu) : ClusterRt :=
  x.later 1 l a.vd.toNat 1 (BitVec.ofNat 32 (rsb 32 (x.reg l a.va.toNat).toNat))
/-- NRMC (R255). -/
def laneNrmc (x : ClusterRt) (l : Nat) (a : LaneAlu) : ClusterRt :=
  let v := (x.reg l a.va.toNat).toNat
  x.later 1 l a.vd.toNat 1 (BitVec.ofNat 32 (min (x.reg l a.vd.toNat).toNat (min (rsb 16 (v % 65536)) (rsb 16 (v / 65536)))))
/-- EXTH. -/
def laneExth (x : ClusterRt) (l : Nat) (a : LaneAlu) : ClusterRt :=
  let r := satWidth 16 (x.extracted l (a.imm.toNat / 64) a)
  x.satResult l a 2 (BitVec.ofInt 32 r.1, decide (r.2 ≠ 0))
/-- EXTC. -/
def laneExtc (x : ClusterRt) (l : Nat) (a : LaneAlu) : ClusterRt :=
  let p := 2 * (a.imm.toNat / 128)
  let i := satWidth 16 (x.extracted l p a)
  let q := satWidth 16 (x.extracted l (p + 1) a)
  x.satResult l a 2 (packCI i.1 q.1, decide (i.2 ≠ 0 ∨ q.2 ≠ 0))
/-- EXTW. -/
def laneExtw (x : ClusterRt) (l : Nat) (a : LaneAlu) : ClusterRt :=
  let r := satWidth 32 (x.extracted l (a.imm.toNat / 64) a)
  x.satResult l a 2 (BitVec.ofInt 32 r.1, decide (r.2 ≠ 0))
/-- XCH (R257): a source lane outside the mask supplies 0. -/
def laneXch (old x : ClusterRt) (l : Nat) (a : LaneAlu) : ClusterRt :=
  let src := Nat.xor l (a.imm.toNat % 64)
  x.later 1 l a.vd.toNat 2 (if x.mask.getLsbD src then old.reg src a.va.toNat else 0)
/-- MOV. -/
def laneMov (x : ClusterRt) (l : Nat) (a : LaneAlu) : ClusterRt := x.later 1 l a.vd.toNat 1 (x.reg l a.va.toNat)
/-- RDF. -/
def laneRdf (old x : ClusterRt) (l : Nat) (a : LaneAlu) : ClusterRt := x.later 1 l a.vd.toNat 1 (old.flag l)

/-- The A slot of one lane; `old` is the cluster at the start of the BCLK. -/
def ClusterRt.aluSlot (old x : ClusterRt) (l : Nat) (op : AluOp) (a : LaneAlu) : ClusterRt :=
  match op with
  | .nop => x
  | .add => laneAdd x l a
  | .sub => laneSub x l a
  | .and => laneAnd x l a
  | .or => laneOr x l a
  | .xor => laneXor x l a
  | .shl => laneShl x l a
  | .shra => laneShra x l a
  | .shrl => laneShrl x l a
  | .movi => laneMovi x l a
  | .movh => laneMovh x l a
  | .max => laneMaxOp x l a
  | .min => laneMinOp x l a
  | .maxi => laneMaxi x l a
  | .mini => laneMini x l a
  | .cadd => laneCadd x l a
  | .csub => laneCsub x l a
  | .shc => laneShc x l a
  | .nrm => laneNrm x l a
  | .nrmc => laneNrmc x l a
  | .exth => laneExth x l a
  | .extc => laneExtc x l a
  | .extw => laneExtw x l a
  | .xch => laneXch old x l a
  | .mov => laneMov x l a
  | .rdf => laneRdf old x l a

/-! ### The L slot (R258 to R262) -/

/-- What an L-slot access finds in its row. -/
inductive BankNote where
  | clean | corrected | bad
  deriving DecidableEq, Repr

/-- The memory of a bank. -/
def ClusterRt.bank (x : ClusterRt) (l : Nat) : Memory := mapGet (fun _ => memEmpty) x.banks l
/-- The memory of a bank replaced. -/
def ClusterRt.setBank (x : ClusterRt) (l : Nat) (m : Memory) : ClusterRt := { x with banks := mapSet (fun _ => memEmpty) x.banks l m }

/-- The bytes of an access of size `sz` (R258). -/
def accessBytes (sz : BitVec 2) : Nat := 4 * 2 ^ sz.toNat
/-- The address of an access (R259). -/
def ClusterRt.accessAddr (x : ClusterRt) (l : Nat) (o : LaneMem) : Nat :=
  (x.addr l o.ar.toNat).toNat / accessBytes o.sz * accessBytes o.sz

/-- What reading row `r` of a bank finds. -/
def rowNote (m : Memory) (r : Nat) : BankNote :=
  match classify (m.synAt r) with
  | .clean => .clean
  | .correctable _ => .corrected
  | _ => .bad

/-- An uncorrectable row sets `BANK_UE` (R261). -/
def ClusterRt.noteUe (x : ClusterRt) (l : Nat) (n : BankNote) : ClusterRt := if n = .bad then x.orFlag l 8 else x

/-- The address register after the access (R260). -/
def ClusterRt.postModify (x : ClusterRt) (l : Nat) (o : LaneMem) : ClusterRt :=
  let n : Int := ((x.addr l o.ar.toNat).toNat : Int) + (x.modr l o.mr.toNat).toInt
  let w := x.win l (o.win.toNat - 1)
  let base : Int := (bitField w.toNat 0 14 : Nat)
  let len : Int := (bitField w.toNat 16 14 : Nat)
  let z := if o.win ≠ 0 ∧ len ≠ 0 then (if base + len ≤ n then n - len else if n < base then n + len else n) else n
  x.setAddr l o.ar.toNat (BitVec.ofInt 14 z)

/-- The post-modify of an access that asks for it. -/
def ClusterRt.modify (x : ClusterRt) (l : Nat) (o : LaneMem) : ClusterRt := if o.pm then x.postModify l o else x

/-- LD (R259, R261); `row` maps a row to the one that serves it. -/
def laneLd (x : ClusterRt) (l : Nat) (o : LaneMem) (row : Nat → Nat) : ClusterRt × BankNote :=
  let a := x.accessAddr l o
  let r := row (a / 16)
  let n := rowNote (x.bank l) r
  let d := ((x.bank l).readWord r).data.drop (a % 16)
  let y := (List.range (accessBytes o.sz / 4)).foldl (fun (q : ClusterRt) j =>
    q.later 2 l (o.vr.toNat + j) 3 (BitVec.ofNat 32 (bytesToNat ((d.drop (4 * j)).take 4)))) x
  ((y.noteUe l n).modify l o, n)

/-- Bytes merged into row `r` from byte `off`, or the row whole (R261): an uncorrectable row keeps its error. -/
def ClusterRt.storeRow (x : ClusterRt) (l r off : Nat) (d : List Byte) : ClusterRt × BankNote :=
  let m := x.bank l
  if d.length = 16 then (x.setBank l (m.writeWord r ⟨d, false⟩), .clean)
  else
    match rowNote m r with
    | .bad => (x.orFlag l 8, .bad)
    | n =>
      let old := (m.readWord r).data
      (x.setBank l (m.writeWord r ⟨old.take off ++ d ++ old.drop (off + d.length), false⟩), n)

/-- ST (R261). -/
def laneSt (x : ClusterRt) (l : Nat) (o : LaneMem) (row : Nat → Nat) : ClusterRt × BankNote :=
  let a := x.accessAddr l o
  let d := (List.range (accessBytes o.sz / 4)).flatMap (fun j => natToBytes 4 (x.reg l (o.vr.toNat + j)).toNat)
  let q := x.storeRow l (row (a / 16)) (a % 16) d
  (q.1.modify l o, q.2)

/-- An atomic on the word at A (R262): the old word comes back after 4 BCLK. -/
def ClusterRt.atomic (x : ClusterRt) (l : Nat) (o : LaneMem) (row : Nat → Nat) (f : Word → Word → Word) : ClusterRt × BankNote :=
  let a := x.accessAddr l o
  let r := row (a / 16)
  let old := BitVec.ofNat 32 (bytesToNat ((((x.bank l).readWord r).data.drop (a % 16)).take 4))
  let q := x.storeRow l r (a % 16) (natToBytes 4 (f old (x.reg l o.vr.toNat)).toNat)
  ((q.1.later 2 l o.vr.toNat 4 old).modify l o, q.2)

/-- AADD (R262). -/
def laneAadd (x : ClusterRt) (l : Nat) (o : LaneMem) (row : Nat → Nat) : ClusterRt × BankNote := x.atomic l o row (fun p q => p + q)
/-- ASWP (R262). -/
def laneAswp (x : ClusterRt) (l : Nat) (o : LaneMem) (row : Nat → Nat) : ClusterRt × BankNote := x.atomic l o row (fun _ q => q)
/-- AMOD: the address update alone (R258, R260). -/
def laneAmod (x : ClusterRt) (l : Nat) (o : LaneMem) : ClusterRt := x.postModify l o
/-- SETI. -/
def laneSeti (x : ClusterRt) (l : Nat) (m : Bool) (i : BitVec 3) (imm : BitVec 16) : ClusterRt :=
  if m then { x with m := mapSet (fun _ => 0) x.m (8 * l + i.toNat) imm } else x.setAddr l i.toNat (imm.truncate 14)
/-- MOVR: the low bits of a data register into `a`, `m` or `w`. -/
def laneMovr (x : ClusterRt) (l : Nat) (vr : BitVec 6) (kind : BitVec 2) (i : BitVec 3) : ClusterRt :=
  let v := x.reg l vr.toNat
  match kind.toNat with
  | 0 => x.setAddr l i.toNat (v.truncate 14)
  | 1 => { x with m := mapSet (fun _ => 0) x.m (8 * l + i.toNat) (v.truncate 16) }
  | _ => { x with w := mapSet (fun _ => 0) x.w (4 * l + i.toNat % 4) v }
/-- MOVV: `a` zero-extended, `m` sign-extended, or `w`. -/
def laneMovv (x : ClusterRt) (l : Nat) (vr : BitVec 6) (kind : BitVec 2) (i : BitVec 3) : ClusterRt :=
  let v : Word := match kind.toNat with
    | 0 => (x.addr l i.toNat).zeroExtend 32
    | 1 => (x.modr l i.toNat).signExtend 32
    | _ => x.win l (i.toNat % 4)
  x.later 2 l vr.toNat 1 v

/-- The L slot of one lane, with what its row held. -/
def ClusterRt.lsSlot (x : ClusterRt) (l : Nat) (op : LsOp) (row : Nat → Nat) : ClusterRt × BankNote :=
  match op with
  | .nop => (x, .clean)
  | .ld o => laneLd x l o row
  | .st o => laneSt x l o row
  | .aadd o => laneAadd x l o row
  | .aswp o => laneAswp x l o row
  | .amod o => (laneAmod x l o, .clean)
  | .seti m i imm => (laneSeti x l m i imm, .clean)
  | .movr vr k i => (laneMovr x l vr k i, .clean)
  | .movv vr k i => (laneMovv x l vr k i, .clean)

/-! ### The C slot (R263 to R266) -/

/-- A `LOOP` bundle entered (R264): falling through, it loads its counter and records its begin. -/
def laneLoop (x : ClusterRt) (o : LaneLoopOp) : ClusterRt :=
  if x.branched then x
  else
    let q : LaneLoop := ⟨o.lc.toNat, x.pc, o.wrap, o.rot, 0⟩
    { x with
      lc := mapSet (fun _ => 0) x.lc o.lc.toNat (o.count.toNat + 1)
      loops := q :: x.loops
      region := if o.rot then some o.rsz else x.region }

/-- The end of a loop's bundle (R264, R266): the begin bundle again while the counter exceeds 1; a rotating loop's
registers rotate. -/
def laneEndl (x : ClusterRt) (lc : Nat) : ClusterRt :=
  match x.loops with
  | [] => { x with pc := x.pc + 1, branched := false }
  | q :: rest =>
    if q.lc ≠ lc then { x with pc := x.pc + 1, branched := false }
    else
      let n := mapGet (fun _ => 0) x.lc lc
      let rr := if q.rot then x.rrb - 1 else x.rrb
      if 1 < n then
        { x with
          lc := mapSet (fun _ => 0) x.lc lc (n - 1)
          loops := { q with iter := q.iter + 1 } :: rest
          pc := q.start, branched := true, rrb := rr }
      else { x with loops := rest, pc := x.pc + 1, branched := false, rrb := rr }

/-- What the C slot does before the other slots: a loop begins, flags are cleared (R264, R265). -/
def ClusterRt.ctlBegin (x : ClusterRt) (c : CtlOp) : ClusterRt :=
  match c with
  | .loop _ o => laneLoop x o
  | .clrf => { x with flags := x.flags.filter (fun p => !x.mask.getLsbD p.1) }
  | _ => x

/-- What the C slot does when the bundle retires: where the task goes on, a halt, a post. -/
def ClusterRt.ctlEnd (x : ClusterRt) (c : CtlOp) : ClusterRt :=
  let next := { x with pc := x.pc + 1, branched := false }
  match c with
  | .loop true o => laneEndl x o.lc.toNat
  | .endl lc => laneEndl x lc.toNat
  | .halt => { next with halted := true }
  | .post ev => { next with posts := x.posts ++ [ev.toNat] }
  | _ => next

/-! ### A bundle on all lanes -/

/-- The lanes of a task's mask. -/
def lanesOf (mask : BitVec 64) : List Nat := (List.range 64).filter (fun l => mask.getLsbD l)

/-- The detector that a slot of a lane fires, if any (R261, R276). -/
def slotNotes (l : Nat) (res : Bool) (n : BankNote) : List (Nat × Nat) :=
  (if res then [(66, l)] else []) ++ (match n with | .clean => [] | .corrected => [(64, l)] | .bad => [(65, l)])

/-- The M, A and L slots of a lane, all from the state at the start of the BCLK (R246); `row` maps a lane's rows, `inj`
gives the lane and injection of an armed residue injection. Detector firings are collected as identifier and lane. -/
def ClusterRt.laneSlots (old : ClusterRt) (b : LaneBundle) (row : Nat → Nat → Nat) (inj : Option (Nat × Nat × Nat))
    (acc : ClusterRt × List (Nat × Nat)) (l : Nat) : ClusterRt × List (Nat × Nat) :=
  let arith := decide (b.mop ≠ .nop ∧ b.mop ≠ .aclr)
  let hit : Option (Nat × Nat) := match inj with
    | some (k, p) => if k = l ∧ arith then some p else none
    | none => none
  let x1 := acc.1.mulSlot l b.mop b.m hit
  let x2 := if hit.isSome then x1.orFlag l 9 else x1
  let x3 := ClusterRt.aluSlot old x2 l b.aop b.a
  let q := x3.lsSlot l b.l (row l)
  (q.1, acc.2 ++ slotNotes l hit.isSome q.2)

/-- A bundle issued on the lanes of the mask, and one BCLK passed (R246). -/
def ClusterRt.issue (x : ClusterRt) (b : LaneBundle) (row : Nat → Nat → Nat) (inj : Option (Nat × Nat × Nat)) :
    ClusterRt × List (Nat × Nat) :=
  let x1 := x.ctlBegin b.c
  let r := (lanesOf x.mask).foldl (ClusterRt.laneSlots { x1 with flags := x.flags } b row inj) (x1, [])
  let x2 := { (r.1.ctlEnd b.c).tick with idle := b.idle }
  (x2, r.2)

end Sys2Proof.Machine
end

