-- ==== Sys2Proof/Machine/Clusters.lean ====
section
/-! DEFINITION. Radio clusters (R243 to R283): lane instructions and bundles, tasks and their queues, event flags, posts,
power, bank ownership, the background test and injection. -/

namespace Sys2Proof.Machine

/-! ### A cluster of the part -/

/-- A cluster. -/
def State.cluster (s : State) (c : Nat) : ClusterRt := mapGet (fun _ => ClusterRt.reset) s.clusters c
/-- A cluster replaced. -/
def State.setCluster (s : State) (c : Nat) (x : ClusterRt) : State :=
  { s with clusters := mapSet (fun _ => ClusterRt.reset) s.clusters c x }
/-- A cluster changed. -/
def State.onCluster (s : State) (c : Nat) (f : ClusterRt → ClusterRt) : State := s.setCluster c (f (s.cluster c))
/-- The radio pipeline changed. -/
def State.onRadio (s : State) (f : RadioRt → RadioRt) : State := { s with radio := f s.radio }

/-- The states of a cluster: OFF. -/
def clOff : Nat := 0
/-- IDLE. -/
def clIdle : Nat := 1
/-- RUN. -/
def clRun : Nat := 2
/-- FAULT. -/
def clFault : Nat := 3
/-- A cluster's state. -/
def State.clState (s : State) (c : Nat) : Nat := s.get (BBA_CL_STATUS_STATE c)
/-- Whether a cluster's domain is on. -/
def State.clusterOn (s : State) (c : Nat) : Bool := decide (s.get (PWR_DOM_CL_ON (c / 32)) / 2 ^ (c % 32) % 2 = 1)
/-- Whether a bank refuses access: it is sealed and a wipe runs (R469, item 1). -/
def State.bankRefuses (s : State) (c l : Nat) : Bool := s.flag HOL_TAMPER_WIPING && s.flag (BBA_BANK_OWN_SEAL c l)
/-- Whether a cluster's task has a bank that refuses access, so that it ends at its next bundle boundary (R469, item 1). -/
def State.sealStops (s : State) (c : Nat) : Bool :=
  s.flag HOL_TAMPER_WIPING && decide (s.clState c = clRun) && (lanesOf (s.cluster c).mask).any (fun l => s.flag (BBA_BANK_OWN_SEAL c l))
/-- Whether a cluster runs a task that has not halted. -/
def State.taskRuns (s : State) (c : Nat) : Bool := decide (s.clState c = clRun) && !(s.cluster c).halted && !s.sealStops c

/-- A radio array event. -/
def State.bbaEvent (s : State) (f : Fld) : State := s.event f 2
/-- The cluster whose registers appear behind `BBA_CL_WINDOW`. -/
def State.winCluster (s : State) : Nat := s.get BBA_CL_WINDOW_CLUSTER
/-- An access to a register of a cluster that is off is noted (R38, R273). -/
def State.ifCluster (s : State) (c : Nat) (f : State → State) : State :=
  if s.clusterOn c then f s else s.put (fPwrOff (blkStatus 6)) 1

/-- Lane registers lost with the cluster's power or at a task's start (R245, R273): banks, instruction memory, start queue
and posts are kept. -/
def ClusterRt.clearLanes (x : ClusterRt) : ClusterRt :=
  { ClusterRt.reset with queue := x.queue, posts := x.posts, banks := x.banks, imem := x.imem, ahead := x.ahead }

/-- A task on sealed banks ends (R469, item 1). -/
def State.sealEnd (s : State) (c : Nat) : State := (s.put (BBA_CL_STATUS_STATE c) clIdle).onCluster c ClusterRt.clearLanes

/-- A cluster switched on (R283). -/
def State.clusterPowerOn (s : State) (c : Nat) : State :=
  if s.clusterOn c then s
  else
    let f := PWR_DOM_CL_ON (c / 32)
    (((s.put f (bitPut (s.get f) (c % 32) 1 1)).put (BBA_CL_STATUS_STATE c) clIdle).onCluster c ClusterRt.clearLanes)

/-- A cluster switched off. -/
def State.clusterPowerOff (s : State) (c : Nat) : State :=
  let f := PWR_DOM_CL_ON (c / 32)
  ((s.put f (bitPut (s.get f) (c % 32) 1 0)).put (BBA_CL_STATUS_STATE c) clOff).onCluster c (fun x => { x.clearLanes with ahead := false })

/-- A start, DMA or fronthaul write that reaches a cluster which is off wakes it (R283). -/
def State.wakeCluster (s : State) (c : Nat) : State :=
  if s.clusterOn c then s else (s.clusterPowerOn c).bbaEvent (BBA_START_STATUS_WAKE_UNPLANNED c)

/-! ### Notify records (R302) -/

/-- The time since the start of the present 30 kHz slot in Tc (R279), and that slot's number. -/
def State.slotNow (s : State) : Nat × Nat :=
  let tc := s.inFrame * 196608 / (100000 * 2 ^ 32)
  (tc / 983040, tc % 983040)
/-- The symbol of a 30 kHz slot at `tc` Tc into it (R279). -/
def symbolAt (tc : Nat) : Nat := if tc < 71168 then 0 else min 13 (1 + (tc - 71168) / 70144)

/-- A notify record written to slice 0's ring (R302). A field that the record's kind does not use is a free value. -/
def State.notify (s0 : State) (cl num : Option Nat) (kind : Nat) (outcome : Option Nat) : State :=
  let fv := s0.takeFree
  let s := fv.2
  let v := fv.1.toNat
  let n := s.radio.notify
  let lg := s.get BBA_NOTIFY_HI_LOG2
  let sl := s.slotNow
  let w0 := cl.getD (v % 128) + 128 * num.getD (v / 128 % 256) + 2 ^ 15 * kind + 2 ^ 18 * outcome.getD (v / 2 ^ 15 % 8)
    + 2 ^ 31 * (1 - n / 2 ^ lg % 2)
  let w1 := s.sfnNow + 2 ^ 10 * sl.1 + 2 ^ 15 * symbolAt sl.2
  let off := s.get BBA_NOTIFY_LO_NOTIFY_OFF + 2 ^ 32 * s.get BBA_NOTIFY_HI_NOTIFY_OFF + 16 * (n % 2 ^ lg)
  let d := natToBytes 4 w0 ++ natToBytes 4 w1 ++ natToBytes 8 s.nowNs
  let s1 := (s.homeWrite 0 false off (cleanM d)).2
  (s1.onRadio (fun r => { r with notify := n + 1 })).raise 69

/-! ### Event flags (R281) -/

/-- Whether a cluster's event flag is set. -/
def State.evFlag (s : State) (c e : Nat) : Bool := s.pairBit (BBA_EVENT_LO_FLAGS c) (BBA_EVENT_HI_FLAGS c) e
/-- A cluster's event flag set; one that is already set merges. -/
def State.setEv (s : State) (c e : Nat) : State :=
  if s.evFlag c e then s.bbaEvent (BBA_START_STATUS_EV_MERGE c)
  else s.putPairBit (BBA_EVENT_LO_FLAGS c) (BBA_EVENT_HI_FLAGS c) e true
/-- A flag cleared by a `WAIT`. -/
def State.clearEv (s : State) (c e : Nat) : State := s.putPairBit (BBA_EVENT_LO_FLAGS c) (BBA_EVENT_HI_FLAGS c) e false

/-! ### Starts (R280) -/

/-- A start that is dropped (R280). -/
def State.dropStart (s : State) (c t : Nat) (f : Fld) : State :=
  ((s.put (BBA_START_STATUS_REF_TASK c) t).bbaEvent f).notify (some c) none 2 none

/-- A start of task `t` enters its cluster's queue. -/
def State.queueTask (s : State) (t : Nat) : State :=
  let c := s.get (BBA_TASK_CFG_CL t)
  if !s.flag (BBA_TASK_CFG_VALID t) then s.dropStart c t (BBA_START_STATUS_START_REF c)
  else if 16 ≤ (s.cluster c).queue.length then s.dropStart c t (BBA_START_STATUS_START_OVF c)
  else (s.wakeCluster c).onCluster c (fun x => { x with queue := x.queue ++ [t] })

/-- The lane mask of a task. -/
def State.taskMask (s : State) (t : Nat) : BitVec 64 := BitVec.ofNat 64 (s.get64 (BBA_TASK_MASK_LO_MASK t) (BBA_TASK_MASK_HI_MASK t))
/-- Whether slice `sl` owns bank `l` of cluster `c`. -/
def State.ownsBank (s : State) (sl c l : Nat) : Bool :=
  s.flag (BBA_BANK_OWN_OWNED c l) && decide (s.get (BBA_BANK_OWN_OWNER c l) = sl)

/-- Whether a lane-program load holds back a start at bundle `pc` of cluster `c` (R304). -/
def State.loadHolds (s : State) (c pc : Nat) : Bool :=
  let p := s.radio.progAt
  s.flag BBA_PROG_STATUS_BUSY && decide (p.1 ≤ c ∧ c < p.1 + p.2.1 ∧ p.2.2 ≤ pc ∧ pc < p.2.2 + s.radio.prog.length)

/-- TASK_START (R280, R269, R245). -/
def State.taskStart (s : State) (c : Nat) : State :=
  match (s.cluster c).queue with
  | [] => s
  | t :: rest =>
    let pc := s.get (BBA_TASK_CFG_PC t)
    let sl := s.get (BBA_TASK_CFG_SLICE t)
    if s.clState c ≠ clIdle ∨ s.loadHolds c pc then s
    else
      let s1 := s.onCluster c (fun x => { x with queue := rest })
      let mask := s.taskMask t
      if (lanesOf mask).any (fun l => !s.ownsBank sl c l) then
        (s1.bbaEvent (BBA_CL_FLAGS_OWN_REF c)).dropStart c t (BBA_START_STATUS_START_REF c)
      else
        let s2 := s1.onCluster c (fun x => { x.clearLanes with mask := mask, pc := pc })
        ((s2.put (BBA_CL_STATUS_STATE c) clRun).put (BBA_CL_STATUS_SLICE c) sl).put (BBA_CL_STATUS_PC c) pc

/-- TASK_START_WRITE. -/
def State.taskStartWrite (s : State) (v : Word) : State :=
  (s.writeCodes BBA_TASK_START_TASK.key v false).queueTask (v.toNat % 1024)

/-! ### Issue (R246) -/

/-- The row of a bank that serves row `r` (R275). -/
def State.bankRow (s : State) (c l r : Nat) : Nat :=
  match (List.range 8).find? (fun i => s.flag (BBA_REPAIR_VALID c (8 * l + i)) && decide (s.get (BBA_REPAIR_ROW c (8 * l + i)) = r)) with
  | some i => 1024 + i
  | none => r

/-- Whether an armed injection of a cluster is of a point (R277). -/
def State.laneInj (s : State) (c point : Nat) : Bool :=
  s.flag (BBA_INJECT_ARM c) && decide (s.get (BBA_INJECT_POINT c) = point)

/-- The address that an L slot reads its row for, if it reads one (R261, R262). -/
def ClusterRt.readsRow (x : ClusterRt) (l : Nat) (op : LsOp) : Option Nat :=
  match op with
  | .ld o | .aadd o | .aswp o => some (x.accessAddr l o / 16)
  | .st o => if accessBytes o.sz = 16 then none else some (x.accessAddr l o / 16)
  | _ => none

/-- An armed bank injection strikes the row that its lane reads (R277). It does not reach the data of a sealed bank, whose test access
reads zeros (R271; DEDUCED, log entry 124: it stays armed). -/
def State.bankInject (s : State) (c : Nat) (b : LaneBundle) : State :=
  let l := s.get (BBA_INJECT_LANE c)
  let bit := s.get (BBA_INJECT_BIT c) % 144
  let x := s.cluster c
  match x.readsRow l b.l with
  | none => s
  | some r =>
    if !x.mask.getLsbD l ∨ s.flag (BBA_BANK_OWN_SEAL c l) then s
    else
      let row := s.bankRow c l r
      let one := (x.bank l).flipBit row bit
      if s.laneInj c 1 then (s.setCluster c (x.setBank l one)).put (BBA_INJECT_ARM c) 0
      else if s.laneInj c 2 then (s.setCluster c (x.setBank l (one.flipBit row ((bit + 1) % 144)))).put (BBA_INJECT_ARM c) 0
      else s

/-- An armed residue injection that this bundle meets: lane, point and bit (R277). -/
def State.resInject (s : State) (c : Nat) (b : LaneBundle) : Option (Nat × Nat × Nat) :=
  let l := s.get (BBA_INJECT_LANE c)
  let p := s.get (BBA_INJECT_POINT c)
  if s.flag (BBA_INJECT_ARM c) ∧ (p = 3 ∨ p = 4) ∧ b.mop ≠ .nop ∧ b.mop ≠ .aclr ∧ (s.cluster c).mask.getLsbD l then
    some (l, p, s.get (BBA_INJECT_BIT c))
  else none

/-- Whether some lane of the mask has a flag of `bits` now that it did not have. -/
def newFlag (old new : ClusterRt) (bits : Word) : Bool :=
  (lanesOf old.mask).any (fun l => decide (old.flag l &&& bits = 0 ∧ new.flag l &&& bits ≠ 0))

/-- The detector of a lane (R261, R276): its record and the cluster's error counters. -/
def State.laneFire (s : State) (c d l : Nat) : State :=
  let s1 := if d = 64 then s.tally (BBA_CL_CE c) else if d = 65 then s.tally (BBA_CL_UE c) else s
  s1.fire d (64 * c + l) 4 (s.get (BBA_CL_STATUS_SLICE c)) 0

/-- A bundle issued on a cluster. -/
def State.issueOn (s0 : State) (c : Nat) (b : LaneBundle) : State :=
  let s := s0.bankInject c b
  let inj := s.resInject c b
  let x := s.cluster c
  let r := x.issue b (s.bankRow c) inj
  let s1 := (s.setCluster c r.1).put (BBA_CL_STATUS_PC c) x.pc
  let s2 := s1.putIf inj.isSome (BBA_INJECT_ARM c) 0
  let s3 := r.2.foldl (fun a q => a.laneFire c q.1 q.2) s2
  let note (a : State) (bits : Word) (f : Fld) : State := if newFlag x r.1 bits then a.bbaEvent f else a
  let s4 := note (note (note (note s3 0x1 (BBA_CL_FLAGS_SAT c)) 0x1E (BBA_CL_FLAGS_AOV c)) 0x100 (BBA_CL_FLAGS_BANK_UE c)) 0x200
    (BBA_CL_FLAGS_RES_ERR c)
  match b.c with
  | .wait ev => s4.clearEv c ev.toNat
  | _ => s4

/-- One BCLK in which nothing issues. -/
def State.clusterTick (s : State) (c : Nat) : State := s.onCluster c ClusterRt.tick

/-- A bundle met by the sequencer: a `WAIT` whose flag is not set holds it (R265). -/
def State.meetBundle (s : State) (c : Nat) (b : LaneBundle) : State :=
  match b.c with
  | .wait ev => if s.evFlag c ev.toNat then s.issueOn c b else s.clusterTick c
  | _ => s.issueOn c b

/-- A bundle that holds one instruction, issued in place of the next of a running task. -/
def State.laneDo (s : State) (c : Nat) (b : LaneBundle) : State :=
  if s.taskRuns c ∧ (s.cluster c).idle = 0 then s.meetBundle c b else s

/-- An uncorrectable bundle stops a cluster's task (R243, R507). -/
def State.imemFail (s : State) (c : Nat) : State :=
  let pc := (s.cluster c).pc
  let s1 := (s.tally (BBA_CL_UE c)).fire 68 c 4 (s.get (BBA_CL_STATUS_SLICE c)) pc
  ((s1.put (BBA_CL_STATUS_STATE c) clFault).put (BBA_CL_STATUS_PC c) pc).bbaEvent (BBA_CL_FLAGS_IMEM_UE c)

/-- A fetched bundle (R243): an armed injection strikes it, a single-bit error is corrected, an uncorrectable one stops the
task. -/
def State.fetchBundle (s : State) (c : Nat) : Option (List Byte) × State :=
  let x := s.cluster c
  let bit := s.get (BBA_INJECT_BIT c) % 144
  let s1 := if s.laneInj c 5 then (s.setCluster c { x with imem := x.imem.flipBit x.pc bit }).put (BBA_INJECT_ARM c) 0
    else if s.laneInj c 6 then
      (s.setCluster c { x with imem := (x.imem.flipBit x.pc bit).flipBit x.pc ((bit + 1) % 144) }).put (BBA_INJECT_ARM c) 0
    else s
  let m := (s1.cluster c).imem
  let sl := s1.get (BBA_CL_STATUS_SLICE c)
  match rowNote m x.pc with
  | .clean => (some (m.readWord x.pc).data, s1)
  | .corrected => (some (m.readWord x.pc).data, (s1.tally (BBA_CL_CE c)).fire 67 c 4 sl x.pc)
  | .bad => (none, s1.imemFail c)

/-- LANE_BUNDLE_ISSUE (R246): one BCLK of a cluster's sequencer. -/
def State.laneBundle (s : State) (c : Nat) : State :=
  if !s.taskRuns c then (if s.sealStops c then s.sealEnd c else s)
  else if 0 < (s.cluster c).idle then s.onCluster c (fun x => { x.tick with idle := x.idle - 1 })
  else
    let r := s.fetchBundle c
    match r.1 with
    | none => r.2
    | some d => r.2.meetBundle c ((bundleOf d).getD bundleNop)

/-- A lane's flags merged into its register (R267). -/
def mergeFlags (old new : Nat) : Nat :=
  let sticky := Nat.lor old (Nat.land new 0x33F)
  if old / 32 % 2 = 1 ∨ new / 32 % 2 = 0 then sticky
  else bitPut (bitPut sticky 6 2 (bitField new 6 2)) 16 16 (bitField new 16 16)

/-- TASK_END (R245, R267): every write has landed. -/
def State.taskEnd (s : State) (c : Nat) : State :=
  if s.clState c = clRun ∧ (s.cluster c).halted then
    let s1 := s.onCluster c (fun x => ClusterRt.settle (8 + x.pend.length) x)
    let x := s1.cluster c
    let s2 := (lanesOf x.mask).foldl (fun a l =>
      let k := (BBA_LANE_FLAGS_SAT c l).key
      a.setReg k (BitVec.ofNat 32 (mergeFlags (a.reg k).toNat (x.flag l).toNat))) s1
    (s2.put (BBA_CL_STATUS_STATE c) clIdle).onCluster c (fun y => { y with halted := false })
  else s

/-! ### Posts (R282) -/

/-- The action of a post entry; values of no action act as NONE. -/
def State.postAct (s : State) (c e : Nat) : Nat := let a := s.get (BBA_POST_ACT c e); if 5 < a then 0 else a

/-- The oldest post of a cluster that has an action, and the posts after it. -/
def State.nextPost (s : State) (c : Nat) : List Nat → Option (Nat × List Nat)
  | [] => none
  | e :: t => if s.postAct c e = 0 then s.nextPost c t else some (e, t)

/-- The oldest post of a cluster takes effect by `f` if its action is `act`: `f` is given the argument. -/
def State.doPost (s : State) (c act : Nat) (f : State → Nat → Nat → State) : State :=
  match s.nextPost c (s.cluster c).posts with
  | none => s
  | some (e, t) =>
    if s.postAct c e = act then f (s.onCluster c (fun x => { x with posts := t })) e (s.get (BBA_POST_ARG c e)) else s

/-- A neural stage armed (R299). -/
def State.armStage (s : State) (c st : Nat) : State :=
  if s.flag (BBA_NRX_ARMED st) then s.bbaEvent (BBA_START_STATUS_EV_MERGE c)
  else (s.put (BBA_NRX_ARMED st) 1).onRadio (fun r => { r with armedAt := mapSet (fun _ => 0) r.armedAt st s.raw })

/-- A helper queue beside its registers. -/
def State.helper (s : State) (q : Nat) : HelperRt := mapGet (fun _ => HelperRt.reset) s.radio.helpers q
/-- A helper queue changed; `BBH_Q_STATUS_` follows it. -/
def State.onHelper (s : State) (q : Nat) (f : HelperRt → HelperRt) : State :=
  let h := f (s.helper q)
  let s1 := s.onRadio (fun r => { r with helpers := mapSet (fun _ => HelperRt.reset) r.helpers q h })
  (s1.put (BBH_Q_STATUS_CONS q) (h.cons % 4096)).put (BBH_Q_STATUS_PROD q) (h.prod % 4096)
/-- A KICK (R282, R285): it advances the producer index of an enabled queue in KICK mode. -/
def State.kick (s : State) (q n : Nat) : State :=
  if s.flag (BBH_Q_CFG_EN q) ∧ s.flag (BBH_Q_CFG_MODE q) then s.onHelper q (fun h => { h with prod := (h.prod + n + 1) % 2 ^ 32 }) else s

/-- POST_START. -/
def State.postStart (s : State) (c : Nat) : State := s.doPost c 1 (fun a _ arg => a.queueTask (arg % 1024))
/-- POST_SET. -/
def State.postSet (s : State) (c : Nat) : State := s.doPost c 2 (fun a _ arg => a.setEv (arg % 128) (arg / 128 % 64))
/-- POST_KICK. -/
def State.postKick (s : State) (c : Nat) : State := s.doPost c 3 (fun a _ arg => a.kick (arg % 64) (arg / 64 % 16))
/-- POST_ARM. -/
def State.postArm (s : State) (c : Nat) : State := s.doPost c 4 (fun a _ arg => a.armStage c (arg % 256))
/-- POST_NOTIFY. -/
def State.postNotify (s : State) (c : Nat) : State := s.doPost c 5 (fun a e _ => a.notify (some c) (some e) 0 none)

/-- EV_SET: a write of `BBA_EV_SET` (R281). -/
def State.evSetWrite (s : State) (v : Word) : State :=
  let c := s.winCluster
  s.ifCluster c (fun a => (a.writeCodes (BBA_EV_SET_EV c).key v false).setEv c (v.toNat % 64))

/-! ### Banks (R269 to R275) -/

/-- Whether a lane is in a running task. -/
def State.laneBusy (s : State) (c l : Nat) : Bool := decide (s.clState c = clRun) && (s.cluster c).mask.getLsbD l

/-- CLAIM (R270, R309). -/
def State.claimBank (s : State) (c l : Nat) : State :=
  let n := s.get (BBA_BANK_OWN_NEW c l)
  if s.flag (BBA_BANK_OWN_PEND c l) ∨ s.flag (BBA_BANK_OWN_OWNED c l) ∨ s.taken n then s.lockWr 6
  else if s.flag (BBA_BANK_OWN_DEGRADED c l) then s
  else (s.put (BBA_BANK_OWN_OWNER c l) n).put (BBA_BANK_OWN_OWNED c l) 1

/-- A release under way (R270); a sealed bank whose lane runs no task is being wiped. -/
def State.beginRelease (s : State) (c l : Nat) : State :=
  let s1 := s.put (BBA_BANK_OWN_PEND c l) 1
  s1.putIf (s.flag (BBA_BANK_OWN_SEAL c l) && !s.laneBusy c l) (BBA_BANK_OWN_WIPING c l) 1

/-- RELEASE (R270). -/
def State.releaseBank (s : State) (c l : Nat) : State :=
  if s.flag (BBA_BANK_OWN_PEND c l) then s.lockWr 6
  else if s.flag (BBA_BANK_OWN_OWNED c l) then s.beginRelease c l
  else s

/-- SEAL (R271); ignored while a wipe runs (R469). -/
def State.sealBank (s : State) (c l : Nat) : State :=
  if s.flag HOL_TAMPER_WIPING then s.lockWr 6 else s.put (BBA_BANK_OWN_SEAL c l) 1

/-- A write of `BBA_BANK_OWN_` of bank `l` of the selected cluster. -/
def State.bankOwnWrite (s : State) (l : Nat) (v : Word) : State :=
  let c := s.winCluster
  let s1 := s.writeCodes (BBA_BANK_OWN_NEW c l).key v false
  let s2 := if v.getLsbD 15 then s1.claimBank c l else s1
  let s3 := if v.getLsbD 16 then s2.releaseBank c l else s2
  if v.getLsbD 17 then s3.sealBank c l else s3

/-- BANK_WIPE (R271): all 1,032 rows are zeros with valid check bits, and `SEAL` is 0. The bank of a cluster that is off takes no
access, so the wipe waits for the domain (R273). -/
def State.bankWipe (s : State) (c l : Nat) : State :=
  if s.clusterOn c ∧ s.flag (BBA_BANK_OWN_SEAL c l) ∧ (s.flag (BBA_BANK_OWN_WIPING c l) ∨ (s.flag (BBA_BANK_OWN_PEND c l) ∧ !s.laneBusy c l)) then
    ((s.onCluster c (fun x => x.setBank l memEmpty)).put (BBA_BANK_OWN_SEAL c l) 0).put (BBA_BANK_OWN_WIPING c l) 0
  else s

/-- BANK_RELEASE_DONE (R270). -/
def State.bankReleased (s : State) (c l : Nat) : State :=
  if s.flag (BBA_BANK_OWN_PEND c l) ∧ !s.laneBusy c l ∧ !s.flag (BBA_BANK_OWN_SEAL c l) then
    ((s.put (BBA_BANK_OWN_OWNED c l) 0).put (BBA_BANK_OWN_OWNER c l) 0).put (BBA_BANK_OWN_PEND c l) 0
  else s

/-- A bank row that fails the march test (R275). -/
def State.bankRowFail (s0 : State) (c l row : Nat) : State :=
  let s := s0.put (BBA_BIST_STATUS_ROW_FAIL c) 1
  if 1024 ≤ row ∨ s.bankRow c l row ≠ row then s
  else
    let s1 := match (List.range 8).find? (fun i => !s.flag (BBA_REPAIR_VALID c (8 * l + i))) with
      | some i =>
        let a := s.onCluster c (fun x => x.setBank l ((x.bank l).writeWord (1024 + i) ((x.bank l).readWord row)))
        ((a.put (BBA_REPAIR_ROW c (8 * l + i)) row).put (BBA_REPAIR_VALID c (8 * l + i)) 1).pushRepair 3 (64 * c + l) (s.get (BBA_BANK_OWN_OWNER c l)) row
      | none => s.put (BBA_BANK_OWN_DEGRADED c l) 1
    s1.fire 69 (64 * c + l) 4 (s.get (BBA_BANK_OWN_OWNER c l)) row

/-- BANK_BIST_CHUNK (R274): a chunk of a bank copied with correction, tested and copied back; `fails` are the rows of it
that fail. -/
def State.bankBist (s : State) (c : Nat) (fails : BitVec 256) : State :=
  if s.clusterOn c && s.flag (BBA_BIST_CTRL_BG_EN c) then
    let l := s.get (BBA_BIST_STATUS_LANE c)
    let k := s.get (BBA_BIST_STATUS_CHUNK c)
    let n := if k = 4 then 8 else 256
    let ws := ((s.cluster c).bank l).readWords (256 * k) n
    let s1 := s.onCluster c (fun x => { x.setBank l ((x.bank l).writeWords (256 * k) ws) with testBuf := memEmpty.writeWords 0 ws })
    let s2 := (List.range n).foldl (fun a i => if fails.getLsbD i then a.bankRowFail c l (256 * k + i) else a) s1
    if k < 4 then s2.put (BBA_BIST_STATUS_CHUNK c) (k + 1)
    else
      let s3 := (s2.put (BBA_BIST_STATUS_CHUNK c) 0).put (BBA_BIST_STATUS_LANE c) ((l + 1) % 64)
      s3.putIf (decide (l = 63)) (BBA_BIST_STATUS_PASS_DONE c) 1
  else s

/-- BANK_REPAIR_WRITE (R275). -/
def State.bankRepairWrite (s : State) (j : Nat) (v : Word) : State :=
  let c := s.winCluster
  if s.clState c = clOff ∨ s.clState c = clIdle then s.writeCodes (BBA_REPAIR_ROW c j).key v false
  else (s.lockWr 6).noteRsvd (BBA_REPAIR_ROW c j).key v

/-- BBA_BIST_RESTART (R274): the model has no chunk in progress between commands. -/
def State.bbaRestart (s : State) : State :=
  let c := s.winCluster
  s.ifCluster c (fun a => (a.put (BBA_BIST_STATUS_LANE c) 0).put (BBA_BIST_STATUS_CHUNK c) 0)

/-- FAULT_CLR (R243). -/
def State.faultClr (s : State) : State :=
  let c := s.winCluster
  s.ifCluster c (fun a => a.putIf (decide (a.clState c = clFault)) (BBA_CL_STATUS_STATE c) clIdle)

/-- LANE_INJECT_ARM (R277). -/
def State.laneArm (s : State) (v : Word) : State :=
  let c := s.winCluster
  s.ifCluster c (fun a => (a.writeCodes (BBA_INJECT_ARM c).key v false).putIf (v.getLsbD 31) (BBA_INJECT_ARM c) 1)

/-! ### Power (R283) -/

/-- Whether window `j` of bank `b` marks a cluster (R332). -/
def State.winMarks (s : State) (b j c : Nat) : Bool := decide (s.winWord b j (2 + c / 32) / 2 ^ (c % 32) % 2 = 1)

/-- Whether the window `i` windows on from the present one marks a cluster (R335, R336). -/
def State.markAhead (s : State) (c i : Nat) : Bool :=
  let j := s.windowNow + i
  let act := s.get DSP_CYC_CTRL_ACTIVE
  let b := if 1280 ≤ j ∧ s.flag DSP_CYC_CTRL_PEND ∧ !s.cyc.skip then 1 - act else act
  s.flag DSP_CYC_CTRL_EN && (s.cyc.force || decide (1280 ≤ j)) && s.winMarks b (j % 1280) c

/-- Whether no marked window of a cluster begins within `us` µs, nor is one now (R283). -/
def State.noMarkWithin (s : State) (c us : Nat) : Bool :=
  (List.range 64).all (fun i => !s.markAhead c i
    || decide (us * 1000 * 2 ^ 32 < (s.windowNow + i) * (15625 * 2 ^ 31) - s.inFrame))

/-- CLUSTER_POWER_OFF (R283). A cluster woken ahead of a run stays on until that run's first marked window. -/
def State.clusterOff (s : State) (c : Nat) : State :=
  if s.clusterOn c ∧ (!(s.cluster c).ahead ∨ !s.flag DSP_CYC_CTRL_EN) ∧ s.clState c = clIdle ∧ (s.cluster c).queue = [] ∧ s.noMarkWithin c (s.get BBA_WAKE_CFG_OFF_MIN_US) then
    s.clusterPowerOff c
  else s

/-! ### The commands -/

/-- LANE_BUNDLE_ISSUE. -/
def execLaneBundleIssue (c : Fin 128) (s : State) : Answer := .next (s.laneBundle c)
/-- MPY. -/
def execMpy (c : Fin 128) (m : LaneMul) (s : State) : Answer := .next (s.laneDo c ⟨.nop, 0, .nop, .nop, ⟨0, 0, 0, 0⟩, .mpy, m⟩)
/-- MAC. -/
def execMac (c : Fin 128) (m : LaneMul) (s : State) : Answer := .next (s.laneDo c ⟨.nop, 0, .nop, .nop, ⟨0, 0, 0, 0⟩, .mac, m⟩)
/-- MSU. -/
def execMsu (c : Fin 128) (m : LaneMul) (s : State) : Answer := .next (s.laneDo c ⟨.nop, 0, .nop, .nop, ⟨0, 0, 0, 0⟩, .msu, m⟩)
/-- CMPY. -/
def execCmpy (c : Fin 128) (m : LaneMul) (s : State) : Answer := .next (s.laneDo c ⟨.nop, 0, .nop, .nop, ⟨0, 0, 0, 0⟩, .cmpy, m⟩)
/-- CMAC. -/
def execCmac (c : Fin 128) (m : LaneMul) (s : State) : Answer := .next (s.laneDo c ⟨.nop, 0, .nop, .nop, ⟨0, 0, 0, 0⟩, .cmac, m⟩)
/-- CMACJ. -/
def execCmacj (c : Fin 128) (m : LaneMul) (s : State) : Answer := .next (s.laneDo c ⟨.nop, 0, .nop, .nop, ⟨0, 0, 0, 0⟩, .cmacj, m⟩)
/-- ACLR. -/
def execAclr (c : Fin 128) (m : LaneMul) (s : State) : Answer := .next (s.laneDo c ⟨.nop, 0, .nop, .nop, ⟨0, 0, 0, 0⟩, .aclr, m⟩)
/-- ADD. -/
def execAdd (c : Fin 128) (a : LaneAlu) (s : State) : Answer := .next (s.laneDo c ⟨.nop, 0, .nop, .add, a, .nop, ⟨0, 0, 0, false, false⟩⟩)
/-- SUB. -/
def execSub (c : Fin 128) (a : LaneAlu) (s : State) : Answer := .next (s.laneDo c ⟨.nop, 0, .nop, .sub, a, .nop, ⟨0, 0, 0, false, false⟩⟩)
/-- AND. -/
def execAnd (c : Fin 128) (a : LaneAlu) (s : State) : Answer := .next (s.laneDo c ⟨.nop, 0, .nop, .and, a, .nop, ⟨0, 0, 0, false, false⟩⟩)
/-- OR. -/
def execOr (c : Fin 128) (a : LaneAlu) (s : State) : Answer := .next (s.laneDo c ⟨.nop, 0, .nop, .or, a, .nop, ⟨0, 0, 0, false, false⟩⟩)
/-- XOR. -/
def execXor (c : Fin 128) (a : LaneAlu) (s : State) : Answer := .next (s.laneDo c ⟨.nop, 0, .nop, .xor, a, .nop, ⟨0, 0, 0, false, false⟩⟩)
/-- SHL. -/
def execShl (c : Fin 128) (a : LaneAlu) (s : State) : Answer := .next (s.laneDo c ⟨.nop, 0, .nop, .shl, a, .nop, ⟨0, 0, 0, false, false⟩⟩)
/-- SHRA. -/
def execShra (c : Fin 128) (a : LaneAlu) (s : State) : Answer := .next (s.laneDo c ⟨.nop, 0, .nop, .shra, a, .nop, ⟨0, 0, 0, false, false⟩⟩)
/-- SHRL. -/
def execShrl (c : Fin 128) (a : LaneAlu) (s : State) : Answer := .next (s.laneDo c ⟨.nop, 0, .nop, .shrl, a, .nop, ⟨0, 0, 0, false, false⟩⟩)
/-- MOVI. -/
def execMovi (c : Fin 128) (a : LaneAlu) (s : State) : Answer := .next (s.laneDo c ⟨.nop, 0, .nop, .movi, a, .nop, ⟨0, 0, 0, false, false⟩⟩)
/-- MOVH. -/
def execMovh (c : Fin 128) (a : LaneAlu) (s : State) : Answer := .next (s.laneDo c ⟨.nop, 0, .nop, .movh, a, .nop, ⟨0, 0, 0, false, false⟩⟩)
/-- LANE_MAX. -/
def execLaneMax (c : Fin 128) (a : LaneAlu) (s : State) : Answer := .next (s.laneDo c ⟨.nop, 0, .nop, .max, a, .nop, ⟨0, 0, 0, false, false⟩⟩)
/-- LANE_MIN. -/
def execLaneMin (c : Fin 128) (a : LaneAlu) (s : State) : Answer := .next (s.laneDo c ⟨.nop, 0, .nop, .min, a, .nop, ⟨0, 0, 0, false, false⟩⟩)
/-- MAXI. -/
def execMaxi (c : Fin 128) (a : LaneAlu) (s : State) : Answer := .next (s.laneDo c ⟨.nop, 0, .nop, .maxi, a, .nop, ⟨0, 0, 0, false, false⟩⟩)
/-- MINI. -/
def execMini (c : Fin 128) (a : LaneAlu) (s : State) : Answer := .next (s.laneDo c ⟨.nop, 0, .nop, .mini, a, .nop, ⟨0, 0, 0, false, false⟩⟩)
/-- CADD. -/
def execCadd (c : Fin 128) (a : LaneAlu) (s : State) : Answer := .next (s.laneDo c ⟨.nop, 0, .nop, .cadd, a, .nop, ⟨0, 0, 0, false, false⟩⟩)
/-- CSUB. -/
def execCsub (c : Fin 128) (a : LaneAlu) (s : State) : Answer := .next (s.laneDo c ⟨.nop, 0, .nop, .csub, a, .nop, ⟨0, 0, 0, false, false⟩⟩)
/-- SHC. -/
def execShc (c : Fin 128) (a : LaneAlu) (s : State) : Answer := .next (s.laneDo c ⟨.nop, 0, .nop, .shc, a, .nop, ⟨0, 0, 0, false, false⟩⟩)
/-- NRM. -/
def execNrm (c : Fin 128) (a : LaneAlu) (s : State) : Answer := .next (s.laneDo c ⟨.nop, 0, .nop, .nrm, a, .nop, ⟨0, 0, 0, false, false⟩⟩)
/-- NRMC. -/
def execNrmc (c : Fin 128) (a : LaneAlu) (s : State) : Answer := .next (s.laneDo c ⟨.nop, 0, .nop, .nrmc, a, .nop, ⟨0, 0, 0, false, false⟩⟩)
/-- EXTH. -/
def execExth (c : Fin 128) (a : LaneAlu) (s : State) : Answer := .next (s.laneDo c ⟨.nop, 0, .nop, .exth, a, .nop, ⟨0, 0, 0, false, false⟩⟩)
/-- EXTC. -/
def execExtc (c : Fin 128) (a : LaneAlu) (s : State) : Answer := .next (s.laneDo c ⟨.nop, 0, .nop, .extc, a, .nop, ⟨0, 0, 0, false, false⟩⟩)
/-- EXTW. -/
def execExtw (c : Fin 128) (a : LaneAlu) (s : State) : Answer := .next (s.laneDo c ⟨.nop, 0, .nop, .extw, a, .nop, ⟨0, 0, 0, false, false⟩⟩)
/-- XCH. -/
def execXch (c : Fin 128) (a : LaneAlu) (s : State) : Answer := .next (s.laneDo c ⟨.nop, 0, .nop, .xch, a, .nop, ⟨0, 0, 0, false, false⟩⟩)
/-- MOV. -/
def execMov (c : Fin 128) (a : LaneAlu) (s : State) : Answer := .next (s.laneDo c ⟨.nop, 0, .nop, .mov, a, .nop, ⟨0, 0, 0, false, false⟩⟩)
/-- RDF. -/
def execRdf (c : Fin 128) (a : LaneAlu) (s : State) : Answer := .next (s.laneDo c ⟨.nop, 0, .nop, .rdf, a, .nop, ⟨0, 0, 0, false, false⟩⟩)
/-- LD. -/
def execLd (c : Fin 128) (o : LaneMem) (s : State) : Answer := .next (s.laneDo c { bundleNop with l := .ld o })
/-- ST. -/
def execSt (c : Fin 128) (o : LaneMem) (s : State) : Answer := .next (s.laneDo c { bundleNop with l := .st o })
/-- AADD. -/
def execAadd (c : Fin 128) (o : LaneMem) (s : State) : Answer := .next (s.laneDo c { bundleNop with l := .aadd o })
/-- ASWP. -/
def execAswp (c : Fin 128) (o : LaneMem) (s : State) : Answer := .next (s.laneDo c { bundleNop with l := .aswp o })
/-- AMOD. -/
def execAmod (c : Fin 128) (o : LaneMem) (s : State) : Answer := .next (s.laneDo c { bundleNop with l := .amod o })
/-- SETI. -/
def execSeti (c : Fin 128) (m : Bool) (i : Fin 8) (imm : BitVec 16) (s : State) : Answer :=
  .next (s.laneDo c { bundleNop with l := .seti m (BitVec.ofNat 3 i) imm })
/-- MOVR. -/
def execMovr (c : Fin 128) (vr : BitVec 6) (kind : BitVec 2) (i : Fin 8) (s : State) : Answer :=
  .next (s.laneDo c { bundleNop with l := .movr vr kind (BitVec.ofNat 3 i) })
/-- MOVV. -/
def execMovv (c : Fin 128) (vr : BitVec 6) (kind : BitVec 2) (i : Fin 8) (s : State) : Answer :=
  .next (s.laneDo c { bundleNop with l := .movv vr kind (BitVec.ofNat 3 i) })
/-- LOOP. -/
def execLoop (c : Fin 128) (o : LaneLoopOp) (s : State) : Answer := .next (s.laneDo c { bundleNop with c := .loop false o })
/-- ENDL. -/
def execEndl (c : Fin 128) (lc : Fin 4) (s : State) : Answer := .next (s.laneDo c { bundleNop with c := .endl (BitVec.ofNat 2 lc) })
/-- LOOP1. -/
def execLoop1 (c : Fin 128) (o : LaneLoopOp) (s : State) : Answer := .next (s.laneDo c { bundleNop with c := .loop true o })
/-- HALT. -/
def execHalt (c : Fin 128) (s : State) : Answer := .next (s.laneDo c { bundleNop with c := .halt })
/-- WAIT. -/
def execWait (c : Fin 128) (ev : Fin 64) (s : State) : Answer := .next (s.laneDo c { bundleNop with c := .wait (BitVec.ofNat 6 ev) })
/-- POST. -/
def execPost (c : Fin 128) (ev : Fin 64) (s : State) : Answer := .next (s.laneDo c { bundleNop with c := .post (BitVec.ofNat 6 ev) })
/-- CLRF. -/
def execClrf (c : Fin 128) (s : State) : Answer := .next (s.laneDo c { bundleNop with c := .clrf })
/-- TASK_END. -/
def execTaskEnd (c : Fin 128) (s : State) : Answer := .next (s.taskEnd c)
/-- TASK_START. -/
def execTaskStart (c : Fin 128) (s : State) : Answer := .next (s.taskStart c)
/-- TASK_START_WRITE. -/
def execTaskStartWrite (v : Word) (s : State) : Answer := .next (s.taskStartWrite v)
/-- POST_START. -/
def execPostStart (c : Fin 128) (s : State) : Answer := .next (s.postStart c)
/-- POST_SET. -/
def execPostSet (c : Fin 128) (s : State) : Answer := .next (s.postSet c)
/-- POST_KICK. -/
def execPostKick (c : Fin 128) (s : State) : Answer := .next (s.postKick c)
/-- POST_ARM. -/
def execPostArm (c : Fin 128) (s : State) : Answer := .next (s.postArm c)
/-- POST_NOTIFY. -/
def execPostNotify (c : Fin 128) (s : State) : Answer := .next (s.postNotify c)
/-- EV_SET. -/
def execEvSet (v : Word) (s : State) : Answer := .next (s.evSetWrite v)
/-- CLAIM: a write of `BBA_BANK_OWN_` with `CLAIM` 1. -/
def execClaim (l : Fin 64) (v : Word) (s : State) : Answer := .next (s.bankOwnWrite l (v ||| 0x8000))
/-- RELEASE: a write with `RELEASE` 1. -/
def execRelease (l : Fin 64) (v : Word) (s : State) : Answer := .next (s.bankOwnWrite l (v ||| 0x10000))
/-- BANK_RELEASE_DONE. -/
def execBankReleaseDone (c : Fin 128) (l : Fin 64) (s : State) : Answer := .next (s.bankReleased c l)
/-- SEAL: a write with `SEAL` 1. -/
def execSeal (l : Fin 64) (v : Word) (s : State) : Answer := .next (s.bankOwnWrite l (v ||| 0x20000))
/-- BANK_WIPE. -/
def execBankWipe (c : Fin 128) (l : Fin 64) (s : State) : Answer := .next (s.bankWipe c l)
/-- BANK_BIST_CHUNK. -/
def execBankBistChunk (c : Fin 128) (fails : BitVec 256) (s : State) : Answer := .next (s.bankBist c fails)
/-- BANK_REPAIR_WRITE. -/
def execBankRepairWrite (j : Fin 512) (v : Word) (s : State) : Answer := .next (s.bankRepairWrite j v)
/-- BBA_BIST_RESTART. -/
def execBbaBistRestart (s : State) : Answer := .next s.bbaRestart
/-- FAULT_CLR. -/
def execFaultClr (s : State) : Answer := .next s.faultClr
/-- LANE_INJECT_ARM. -/
def execLaneInjectArm (v : Word) (s : State) : Answer := .next (s.laneArm v)
/-- CLUSTER_POWER_OFF. -/
def execClusterPowerOff (c : Fin 128) (s : State) : Answer := .next (s.clusterOff c)

end Sys2Proof.Machine
end

