-- ==== Sys2Proof/Machine/StreamCmds.lean ====
section
/-! DEFINITION. The stream engine's commands (R236 to R238), its enabling (R242), and the values it fixes at a step's
release (R212). -/

namespace Sys2Proof.Machine

/-! ### Release (R212) -/

/-- The token of a position, from the input ring in the slice's own view (R211). -/
def State.ringToken (s : State) (sl : Nat) (e : List Byte) (q : Nat) : Nat × State :=
  let r := s.viewRead sl (s.viewLines sl true) false (entIn e + 4 * (q % 2 ^ profInLog (s.stream sl).prof)) 4
  (match r.1 with | some d => bytesToNat (bytesM d) | none => 0, r.2)

/-- `n` tokens from position `q`, as token + 1 by node. -/
def State.ringTokens (s : State) (sl : Nat) (e : List Byte) (q : Nat) : Nat → SMap Nat × State
  | 0 => ([], s)
  | n + 1 =>
    let r := State.ringTokens s sl e q n
    let t := r.2.ringToken sl e (q + n)
    (mapSet (fun _ => 0) r.1 n (t.1 + 1), t.2)

/-- The values of a slot with stream `sid` at the release of step `n`. -/
def State.fixSlot (s0 : State) (sl n slot sid : Nat) : SlotFix × State :=
  let s := s0.readEntry sl sid
  let p := (s.stream sl).prof
  let e := s.entryOf sl sid
  let len := entLen e
  let pend := entAvail e - len
  let cap := min (2 ^ 20) (256 * entPages e)
  let idle (x : List Byte) : SlotFix := ⟨slot, sid, entGet x 0 0 32, len, entAvail e, 0, [], 0, entBudget e, [], false⟩
  let stop (st cause : Nat) : SlotFix × State :=
    let e1 := entStop e st cause
    let s1 := s.stageEntry sl n slot sid e1
    (idle e1, s1.defer sl n ⟨3, slot, 2 ^ 24, .outq (outEntry sid 1 cause 0 0 0)⟩)
  if entState e ≠ 1 then (idle e, s)
  else if 0 < pend ∧ cap < len + 1 then stop 3 (if cap = 2 ^ 20 then 3 else 4)
  else if entGet e 0 11 1 = 1 ∧ entBudget e = 0 then stop 2 2
  else if pend = 0 then (idle e, s)
  else
    let nf := min (min pend (profChunk p)) (cap - len)
    let draft := if pend = 1 ∧ entGet e 0 9 1 = 1 then
        (List.range 64).filter (fun j => decide (1 ≤ j) && shapeMarked p j && decide (len + j < cap)) else []
    let tk := s.ringTokens sl e len nf
    (⟨slot, sid, entGet e 0 0 32, len, entAvail e, nf, draft, draft.length, entBudget e, tk.1, false⟩, tk.2)

/-- The values of every occupied slot fixed for step `n` (R212). -/
def State.fixStep (s : State) (sl n : Nat) : State :=
  let r := s.stream sl
  let f0 : StepFix := ⟨n, [], r.headA, r.headB, [], []⟩
  let s1 := s.onStream sl (fun x => { x with fixes := x.fixes ++ [f0] })
  r.batch.foldl (fun a b =>
    if b.2 = 0 then a
    else
      let q := a.fixSlot sl n b.1 (b.2 - 1)
      q.2.onFix sl n (fun f => { f with slots := f.slots ++ [q.1] })) s1

/-- Slots that no EMIT has ended: `LEN` advances past the forced nodes (R214). -/
def State.fixEnd (s : State) (sl n : Nat) : State :=
  match s.fixOf sl n with
  | none => s
  | some f => f.slots.foldl (fun a x =>
      if x.done ∨ x.forced = 0 then a
      else a.stageEntry sl n x.slot x.sid (entPut (a.entryOf sl x.sid) 1 0 21 (x.len + x.forced))) s

/-- Entries free in the output ring for a consumer index. -/
def StreamRt.outFree (r : StreamRt) (cons : Nat) : Nat := 2 ^ profOutLog r.prof - (r.outProd + 2 ^ 32 - cons) % 2 ^ 32

/-- Room in the output ring for `n` entries (R240); the consumer index read from the host is `cons`. -/
def State.outRoom (s : State) (sl n : Nat) (cons : Word) : Bool × State :=
  let r := s.stream sl
  if n ≤ r.outFree r.outCons then (true, s)
  else (decide (n ≤ r.outFree cons.toNat), (s.hostAsk sl (profOutCons r.prof) 4).onStream sl (fun x => { x with outCons := cons.toNat }))

/-- The room that the uncommitted steps were released with: 18 entries for each occupied slot (R240). -/
def State.outHeld (s : State) (sl : Nat) : Nat := 18 * ((s.stream sl).fixes.map (fun f => f.slots.length)).sum

/-! ### Commands (R236) -/

/-- Words 3 to `hi` and the flags of word 0 taken from a block laid out as R210. -/
def takeParams (hi : Nat) (blk e : List Byte) : List Byte :=
  let e1 := entPut (entPut e 0 9 3 (entGet blk 0 9 3)) 0 16 16 (entGet blk 0 16 16)
  let wd (w : Nat) : Nat := if w = 3 then 21 else if w = 10 then 12 else if w = 11 then 0 else if w = 13 ∨ w = 15 then 8
    else if w = 16 then 13 else 32
  (List.range (hi - 2)).foldl (fun x i => entPut x (3 + i) 0 32 (entGet blk (3 + i) 0 (wd (3 + i)))) e1

/-- An entry of zeros. -/
def entEmpty : List Byte := List.replicate 128 0

/-- The pages of a stream from page `q0` up return to their rings and their entries are cleared. -/
def State.freePages (s : State) (sl : Nat) (e : List Byte) (q0 : Nat) : State :=
  (List.range (profLayers (s.stream sl).prof)).foldl (fun a l =>
    (List.range (entPages e - q0)).foldl (fun b i =>
      let r := b.pte sl e l (q0 + i)
      if pteValid r.1 then (r.2.setPte sl e l (q0 + i) 0).freePage sl (pteB r.1) (pteOff r.1) else r.2) a) s

/-- One more than the highest page in use of a stream. -/
def State.pagesUsed (s : State) (sl : Nat) (e : List Byte) : Nat :=
  (List.range (profLayers (s.stream sl).prof)).foldl (fun a l =>
    (List.range (entPages e)).foldl (fun b q => if pteValid (s.pte sl e l q).1 then max b (q + 1) else b) a) 0

/-- FREE_A and FREE_B (R217, R236). -/
def State.cmdFree (s : State) (sl : Nat) (tierB : Bool) (c : StreamCmd) : Bool × State :=
  let r := s.stream sl
  let offs := (List.range c.val).map (fun i => leField c.host (8 * i) 8)
  let page := 256 * rowBytes r.prof
  let bad (o : Nat) : Bool := decide (o % 256 ≠ 0 ∨ 2 ^ 40 ≤ o ∨ 2 ^ 28 < o % 2 ^ 28 + page)
  if c.val = 0 ∨ 4096 < c.val ∨ 2 ^ profFreeLog r.prof < r.level tierB + c.val ∨ offs.any bad then (false, s)
  else (true, offs.foldl (fun a o => a.freePage sl tierB o) s)

/-- Bytes put into the newest of some lines that holds their chunk; `none` where none does. The newest stands first. -/
def patchLines (tierB : Bool) (off : Nat) (d : List Byte) : List StLine → Option (List StLine)
  | [] => none
  | l :: t =>
    let c := off % 256 / 16
    match (if l.tierB = tierB ∧ l.off = off / 256 * 256 then mapGet (fun _ => none) l.chunks c else none) with
    | some w => some ({ l with chunks := mapSet (fun _ => none) l.chunks c (some ⟨blockPut w.data (off % 16) d, w.marked⟩) } :: t)
    | none => (patchLines tierB off d t).map (fun r => l :: r)

/-- An entry of an input ring written by a command: into the newest committed line that still holds its chunk, else to its home
(R211, R238). -/
def State.ringWrite (s : State) (sl off : Nat) (d : List Byte) : State :=
  match patchLines false off d (s.slice sl).committed.reverse with
  | some ls => s.onSlice sl (fun x => { x with committed := ls.reverse })
  | none => (s.homeWrite sl false off (cleanM d)).2

/-- APPEND (R236). -/
def State.cmdAppend (s : State) (sl : Nat) (c : StreamCmd) : Bool × State :=
  let p := (s.stream sl).prof
  let e := s.entryHome c.sid
  let av := entAvail e
  if c.val = 0 ∨ 4096 < c.val ∨ 2 ^ profInLog p < av - entLen e + c.val ∨ 2 ^ 20 < av + c.val ∨ entState e = 0 ∨ entState e = 4 then (false, s)
  else
    let s1 := (List.range c.val).foldl (fun a i =>
      a.ringWrite sl (entIn e + 4 * ((av + i) % 2 ^ profInLog p)) (natToBytes 4 (leField c.host (4 * i) 4))) s
    let e1 := entPut e 2 0 21 (av + c.val)
    (true, s1.setEntry c.sid (if entState e = 2 then entPut e1 0 0 3 1 else e1))

/-- BATCH (R236). -/
def State.cmdBatch (s : State) (sl : Nat) (c : StreamCmd) : Bool × State :=
  let e := s.entryHome c.sid
  let slot := c.val % 4096
  let held := mapGet (fun _ => 0) (s.stream sl).batch slot
  let inOther := decide (entGet e 17 12 1 = 1 ∧ entGet e 17 0 12 ≠ slot)
  if (held ≠ 0 ∧ held ≠ c.sid + 1) ∨ entState e = 0 ∨ inOther then (false, s)
  else
    let on := decide (c.val / 2 ^ 31 % 2 = 1)
    let s1 := s.onStream sl (fun r => { r with batch := mapSet (fun _ => 0) r.batch slot (if on then c.sid + 1 else 0) })
    (true, s1.setEntry c.sid (entPut e 17 0 13 (if on then slot + 4096 else 0)))

/-- A command for a stream of the slice's applied, its entry read: whether it was done, or refused without effect (R236). -/
def State.cmdEntry (s : State) (sl : Nat) (c : StreamCmd) : Bool × State :=
  let e := s.entryHome c.sid
  let st := entState e
  if c.opc = 1 then
    if st ≠ 0 then (false, s)
    else (true, s.setEntry c.sid (takeParams 16 c.host (entPut (entPut entEmpty 0 0 3 1) 0 3 6 sl)))
  else if c.opc = 2 then (if st = 0 then (false, s) else (true, s.setEntry c.sid (takeParams 10 c.host e)))
  else if c.opc = 3 then s.cmdAppend sl c
  else if c.opc = 4 then
    if entGet e 17 12 1 = 1 then (false, s) else (true, (s.freePages sl e 0).setEntry c.sid entEmpty)
  else if c.opc = 5 then
    if st = 0 then (false, s)
    else (true, s.setEntry c.sid (entPut (if 2 ≤ st then entPut e 0 0 3 1 else e) 0 12 4 0))
  else if c.opc = 6 then
    if entLen e < c.val then (false, s)
    else (true, (s.freePages sl e ((c.val + 255) / 256)).setEntry c.sid (entPut (entPut e 1 0 21 c.val) 2 0 21 c.val))
  else if c.opc = 7 then s.cmdBatch sl c
  else if c.opc = 8 then (if st = 0 then (false, s) else (true, s.queueMoves sl c.sid (List.range (entPages e)) true))
  else if c.opc = 9 then (if st = 0 then (false, s) else (true, s.queueMoves sl c.sid (List.range (entPages e)).reverse false))
  else if c.opc = 10 then
    let pages := leField c.host 8 4 % 2 ^ 13
    if pages < s.pagesUsed sl e then (false, s)
    else
      let e1 := blockPut e 56 (natToBytes 8 (leField c.host 0 8 % 2 ^ 40))
      (true, s.setEntry c.sid (entPut e1 16 0 13 pages))
  else (false, s)

/-- A command applied: whether it was done, or refused without effect (R236, R237). -/
def State.cmdDo (s : State) (sl : Nat) (c : StreamCmd) : Bool × State :=
  if c.opc = 11 ∨ c.opc = 12 then s.cmdFree sl (decide (c.opc = 12)) c
  else if !s.ownsStream sl c.sid then (false, s)
  else (s.readEntry sl c.sid).cmdEntry sl c

/-- A command applied, with its output-queue entry (R237). -/
def State.cmdApply (s : State) (sl : Nat) (c : StreamCmd) : State :=
  let r := s.cmdDo sl c
  let s1 := if r.1 then r.2 else r.2.stmEvent sl (STM_SLC_EVENT_CMD_REFUSED sl)
  (s1.outPut sl (outEntry c.sid (if r.1 then 3 else 4) c.opc c.tag.toNat 0 0)).outBell sl

/-- Waiting commands applied in order while the output ring has room for their entries (R237, R240). -/
def State.drainCmds : Nat → State → Nat → State
  | 0, s, _ => s
  | f + 1, s, sl =>
    match (s.stream sl).waiting with
    | [] => s
    | c :: t =>
      if 1 + s.outHeld sl ≤ (s.stream sl).outFree (s.stream sl).outCons then
        State.drainCmds f ((s.onStream sl (fun r => { r with waiting := t })).cmdApply sl c) sl
      else s

/-- Whether a slice's dispatcher is stopped (R160). -/
def State.dspStoppedNow (s : State) (sl : Nat) : Bool :=
  decide (s.get (DSP_SLC_STATE_STATE sl) = dspStopped ∨ s.get (DSP_SLC_STATE_STATE sl) = dspFaulted)

/-- Commands that waited are applied once no step is uncommitted, or the slice's dispatcher is stopped (R237; DEDUCED, log entry
121). -/
def State.cmdDrain (s : State) (sl : Nat) : State :=
  if (s.slice sl).steps = [] ∨ s.dspStoppedNow sl then s.drainCmds (s.stream sl).waiting.length sl else s

/-- Whether an uncommitted step has a stream in its batch. -/
def State.inStep (s : State) (sl sid : Nat) : Bool :=
  (s.stream sl).fixes.any (fun f => f.slots.any (fun x => decide (x.sid = sid)))

/-- The next entry of a slice's command ring is read from host memory (R236, R307). -/
def State.cmdFetch (s : State) (sl : Nat) : State :=
  let r := s.stream sl
  (s.hostAsk sl (profCmdq r.prof + 32 * (r.cmdCons % 2 ^ profCmdLog r.prof)) 32).onStream sl (fun x =>
    { x with cmdCons := (x.cmdCons + 1) % 2 ^ 32 })

/-- The engine reads the next command of a slice's ring: it is applied at once, or waits (R237), also while the output
ring has no room for its entry (R240). Nothing is read before the tiers are open (R202). -/
def State.streamCmd (s0 : State) (sl opc sid : Nat) (tag : Word) (val : Nat) (host : List Byte) (cons : Word) : State :=
  let r := s0.stream sl
  if !s0.flag (STM_SLC_CTRL_ENABLE sl) ∨ r.cmdCons = r.cmdProd ∨ !s0.tiersOpen then s0
  else if !s0.dmaOpen then s0.dmaGate
  else
    let s := s0.cmdFetch sl
    let c : StreamCmd := ⟨opc, sid, tag, val, host⟩
    let room := s.outRoom sl (1 + r.waiting.length + s.outHeld sl) cons
    let w := room.2.cmdDrain sl
    if (w.stream sl).waiting ≠ [] ∨ !room.1 ∨ (decide (opc < 11) && w.inStep sl sid && !w.dspStoppedNow sl) then
      w.onStream sl (fun x => { x with waiting := x.waiting ++ [c] })
    else w.cmdApply sl c

/-! ### Enabling (R242) -/

/-- STREAM_ENABLE; the profile is read once the tiers are open (R202). -/
def State.streamEnable (s : State) (sl : Nat) (en : Bool) : State :=
  if !s.dspStoppedNow sl then s.lockWr 4
  else if !en then s.put (STM_SLC_CTRL_ENABLE sl) 0
  else if !s.tiersOpen then s
  else
    let off := s.get (STM_SLC_PROF_LO_OFF sl) / 4096 * 4096 + 2 ^ 32 * (s.get (STM_SLC_PROF_HI_OFF sl) % 256)
    let r := s.viewRead sl (s.viewLines sl true) false off 4096
    let good := match r.1 with | some d => !markedM d && profileOk (bytesM d) | none => false
    if good then
      (r.2.onStream sl (fun x => { x with prof := bytesM (r.1.getD []) })).put (STM_SLC_CTRL_ENABLE sl) 1
    else (r.2.put (STM_SLC_CTRL_ENABLE sl) 0).stmEvent sl (STM_SLC_EVENT_PROFILE_BAD sl)

/-! ### Meanings: `sid`, `tag`, `val` and `host` are the command's stream, tag, count or value, and what the engine read at
its address; `cons` is what it read at `OUTQ_CONS` -/

/-- OPEN. -/
def execOpen (sl : Fin 64) (sid : BitVec 20) (tag : Word) (host : List Byte) (cons : Word) (s : State) : Answer :=
  .next (s.streamCmd sl 1 sid.toNat tag 0 host cons)
/-- SETPARAM. -/
def execSetparam (sl : Fin 64) (sid : BitVec 20) (tag : Word) (host : List Byte) (cons : Word) (s : State) : Answer :=
  .next (s.streamCmd sl 2 sid.toNat tag 0 host cons)
/-- APPEND. -/
def execAppend (sl : Fin 64) (sid : BitVec 20) (tag val : Word) (host : List Byte) (cons : Word) (s : State) : Answer :=
  .next (s.streamCmd sl 3 sid.toNat tag val.toNat host cons)
/-- CLOSE. -/
def execClose (sl : Fin 64) (sid : BitVec 20) (tag : Word) (cons : Word) (s : State) : Answer :=
  .next (s.streamCmd sl 4 sid.toNat tag 0 [] cons)
/-- CLEAR. -/
def execClear (sl : Fin 64) (sid : BitVec 20) (tag : Word) (cons : Word) (s : State) : Answer :=
  .next (s.streamCmd sl 5 sid.toNat tag 0 [] cons)
/-- TRUNCATE. -/
def execTruncate (sl : Fin 64) (sid : BitVec 20) (tag val : Word) (cons : Word) (s : State) : Answer :=
  .next (s.streamCmd sl 6 sid.toNat tag val.toNat [] cons)
/-- BATCH. -/
def execBatch (sl : Fin 64) (sid : BitVec 20) (tag val : Word) (cons : Word) (s : State) : Answer :=
  .next (s.streamCmd sl 7 sid.toNat tag val.toNat [] cons)
/-- DEMOTE. -/
def execDemote (sl : Fin 64) (sid : BitVec 20) (tag : Word) (cons : Word) (s : State) : Answer :=
  .next (s.streamCmd sl 8 sid.toNat tag 0 [] cons)
/-- PROMOTE. -/
def execPromote (sl : Fin 64) (sid : BitVec 20) (tag : Word) (cons : Word) (s : State) : Answer :=
  .next (s.streamCmd sl 9 sid.toNat tag 0 [] cons)
/-- RESIZE. -/
def execResize (sl : Fin 64) (sid : BitVec 20) (tag : Word) (host : List Byte) (cons : Word) (s : State) : Answer :=
  .next (s.streamCmd sl 10 sid.toNat tag 0 host cons)
/-- FREE_A. -/
def execFreeA (sl : Fin 64) (tag val : Word) (host : List Byte) (cons : Word) (s : State) : Answer :=
  .next (s.streamCmd sl 11 0 tag val.toNat host cons)
/-- FREE_B. -/
def execFreeB (sl : Fin 64) (tag val : Word) (host : List Byte) (cons : Word) (s : State) : Answer :=
  .next (s.streamCmd sl 12 0 tag val.toNat host cons)
/-- STREAM_ENABLE. -/
def execStreamEnable (sl : Fin 64) (en : Bool) (s : State) : Answer := .next (s.streamEnable sl en)

end Sys2Proof.Machine
end

