-- ==== Sys2Proof/Machine/DecodeUnits.lean ====
section
/-! DEFINITION. The decode units (R227 to R235): sampling, draft trees, verification, ARGMAX and ARGMIN. -/

namespace Sys2Proof.Machine

/-! ### Sampling one distribution (R231) -/

/-- NaN or +∞. -/
def badLogit (w : Word) : Bool := isNan32 w || decide (w = 0x7F800000)

/-- An element put before those with a key no larger. -/
def insDesc {α : Type} (key : α → Int) (x : α) : List α → List α
  | [] => [x]
  | y :: t => if key y ≤ key x then x :: y :: t else y :: insDesc key x t
/-- A list in descending order of key, equal keys in their first order. -/
def sortDesc {α : Type} (key : α → Int) (l : List α) : List α := l.foldr (insDesc key) []

/-- The values with their indices. -/
def indexed (l : List Word) : List (Nat × Word) := (List.range l.length).zip l

/-- The largest value's lowest index, by FP32 order. -/
def argmaxIdx (l : List Word) : Nat := ((sortDesc (fun p => orderKey p.2) (indexed l)).head?.map (fun p => p.1)).getD 0
/-- The smallest value's lowest index. -/
def argminIdx (l : List Word) : Nat := ((sortDesc (fun p => -orderKey p.2) (indexed l)).head?.map (fun p => p.1)).getD 0

/-- ⌊exp(x) · 2^64⌋ for x ≤ 0, from the decode units' exp (R86, R231), at most 2^64; exp(−∞) is 0. -/
def expWeight (x : Word) : Nat :=
  if x = 0xFF800000 then 0
  else match ofFP32 (expVal (Config.decodeExp x) x) with
    | .fin false m e => min (2 ^ 64) (if 0 ≤ e + 64 then m * 2 ^ (e + 64).toNat else m / 2 ^ (-(e + 64)).toNat)
    | _ => 0

/-- Whether `acc` reaches `topP` × `total`, exactly. -/
def massReached (topP : Word) (total acc : Nat) : Bool :=
  match ofFP32 topP with
  | .fin false m e => if 0 ≤ e then decide (m * 2 ^ e.toNat * total ≤ acc) else decide (m * total ≤ acc * 2 ^ (-e).toNat)
  | _ => true

/-- The shortest prefix whose sum reaches the mass; at least one element. -/
def massPrefix (topP : Word) (total : Nat) : Nat → List (Nat × Nat) → List (Nat × Nat)
  | _, [] => []
  | acc, p :: t => if massReached topP total (acc + p.2) then [p] else p :: massPrefix topP total (acc + p.2) t

/-- The first index whose running sum exceeds `t`. -/
def pickMass (t : Nat) : Nat → List (Nat × Nat) → Option (Nat × Nat)
  | _, [] => none
  | acc, p :: r => if t < acc + p.2 then some p else pickMass t (acc + p.2) r

/-- The draw of a stream for a position (R226). -/
def streamDraw (e : List Byte) (pos : Nat) : Nat :=
  generator (leField e 16 8 + 2 ^ 64 * leField e 24 4 + 2 ^ 96 * 0x80000000) (pos * 2 ^ 32 + 2 ^ 24) % 2 ^ 64

/-- One sample: token and probability; `none` is BAD (R231). -/
def sampleRow (e : List Byte) (pos : Nat) (z : List Word) : Option (Nat × Word) :=
  let inv : Word := BitVec.ofNat 32 (leField e 32 4)
  let topP : Word := BitVec.ofNat 32 (leField e 36 4)
  let topK := entGet e 10 0 12
  if z.any badLogit then none
  else if inv.toNat % 2 ^ 31 = 0 then some (argmaxIdx z, 0)
  else
    let y := z.map (fun w => fmul w inv)
    if y.any badLogit then none
    else
      let kept := if topK = 0 then indexed y else (sortDesc (fun p => orderKey p.2) (indexed y)).take topK
      let m := kept.foldl (fun a p => fmax a p.2) 0xFF800000
      if m = 0xFF800000 then none
      else
        let ws := kept.map (fun p => (p.1, expWeight (fsub p.2 m)))
        let total := (ws.map (fun p => p.2)).sum
        let chosen := if fle 0x3F800000 topP then ws
          else massPrefix topP total 0 (sortDesc (fun p => (p.2 : Int)) (sortDesc (fun p => -(p.1 : Int)) ws))
        let inOrder := sortDesc (fun p => -(p.1 : Int)) chosen
        let sp := (chosen.map (fun p => p.2)).sum
        (pickMass (streamDraw e pos * sp / 2 ^ 64) 0 inOrder).map (fun p =>
          (p.1, toFP32 (divVal (intVal p.2) (intVal sp))))

/-! ### Work items -/

/-- The logits of row `j` of a slot, exactly as FP32 (R61, R227); `none` where they cannot be read. -/
def State.logits (s : State) (sl op slot j : Nat) : Option (List Word) × State :=
  let p := (s.stream sl).prof
  let fmt := opField p op 0 3 5
  let w := fmtWidth fmt / 8
  let v := opField p op 1 0 20
  let off := opOff p op 2 + (slot * opField p op 4 16 7 + j) * (opField p op 4 0 16 * 256)
  let r := s.viewRead sl (s.viewLines sl true) false off (v * w)
  (r.1.bind (fun d => if markedM d then none
    else some ((chunksOf w (v + 1) (bytesM d)).map (fun b => toFP32 (decodeElem fmt false (bytesToNat b)).1))), r.2)

/-- A result record (R230): status, A, LEAF, COUNT, VALUE, INDEX, PROB, tokens. -/
structure DecRes where
  status : Nat
  acc    : Nat
  leaf   : Nat
  count  : Nat
  value  : Word
  index  : Word
  prob   : Word
  tokens : List Nat
  deriving DecidableEq, Repr

/-- A record with no result. -/
def DecRes.none (status : Nat) : DecRes := ⟨status, 0, 0, 0, 0, 0xFFFFFFFF, 0, []⟩

/-- The 128 bytes of a record. -/
def DecRes.bytes (r : DecRes) : List Byte :=
  let w0 := r.status + 16 * r.acc + 2 ^ 9 * r.leaf + 2 ^ 15 * r.count
  ((natToBytes 4 w0 ++ natToBytes 4 r.value.toNat ++ natToBytes 4 r.index.toNat ++ natToBytes 4 r.prob.toNat
    ++ r.tokens.flatMap (natToBytes 4)) ++ List.replicate 128 0).take 128

/-- A work item's record written and posted for selectors (R230, R241). -/
def State.postResult (s : State) (sl n op slot : Nat) (r : DecRes) : State :=
  let s1 := s.stmWrite sl n false (opOff (s.stream sl).prof op 5 + 128 * slot) r.bytes
  let words := [r.acc, r.leaf, r.count, r.status].map (BitVec.ofNat 32) ++ [r.index]
  s1.onFix sl n (fun f => { f with results := mapSet (fun _ => []) f.results (4096 * op + slot) words })

/-- The walk of R234 from tree index `j`: accepted indices and the draws (token, probability) in order; `none` is BAD. -/
def State.emitWalk : Nat → State → Nat → Nat → SlotFix → Nat → List Nat → List (Nat × Word) → Option (List Nat × List (Nat × Word)) × State
  | 0, s, _, _, _, _, acc, dr => (some (acc, dr), s)
  | f + 1, s, sl, op, x, j, acc, dr =>
    let p := (s.stream sl).prof
    let r := s.logits sl op x.slot j
    match r.1.bind (fun z => sampleRow (s.entryOf sl x.sid) (x.len + x.forced + nodeDepth p j) z) with
    | none => (none, r.2)
    | some t =>
      match x.draft.find? (fun c => decide (shapeParent p c = j ∧ mapGet (fun _ => 0) x.tokens c = t.1 + 1)) with
      | none => (some (acc, dr ++ [t]), r.2)
      | some c => State.emitWalk f r.2 sl op x c (acc ++ [c]) (dr ++ [t])

/-- The KV rows of slot `src` copied to slot `dst` in every layer, as staged writes (R235). -/
def State.copyRows (s : State) (sl n : Nat) (x : SlotFix) (src dst : Nat) : State :=
  let p := (s.stream sl).prof
  let id := engineId sl n
  (List.range (profLayers p)).foldl (fun a l =>
    let rd := a.kvRead id 64 ⟨x.slot, l, 2, (src : Int) - x.len⟩ 0 (rowBytes p)
    match rd.1 with
    | .data d =>
      let e := rd.2.entryOf sl x.sid
      let q := rd.2.pte sl e l (dst / 256)
      let pg := if pteValid q.1 then (some q.1, q.2) else q.2.allocPage sl n e l (dst / 256)
      (match pg.1 with
        | some v => pg.2.stmWrite sl n (pteB v) (pteOff v + dst % 256 * rowBytes p) (bytesM d)
        | none => pg.2)
    | _ => rd.2) s

/-- The tokens kept: cut after `STOP_TOKEN` and by `BUDGET` (R234); the cause of the cut, or 0. -/
def cutTokens (e : List Byte) (budget : Nat) (l : List (Nat × Word)) : List (Nat × Word) × Nat :=
  let stop := leField e 28 4
  let k := l.findIdx (fun p => decide (stop ≠ 0xFFFFFFFF ∧ p.1 = stop))
  let byStop := if k < l.length then l.take (k + 1) else l
  let limited := decide (entGet e 0 11 1 = 1)
  if limited ∧ budget ≤ byStop.length then
    if k < l.length ∧ k + 1 = byStop.length ∧ byStop.length = budget then (byStop, 1) else (byStop.take budget, 2)
  else (byStop, if k < l.length then 1 else 0)

/-- The output-queue entries of a slot in a step (R239). -/
def State.emitOut (s : State) (sl n : Nat) (x : SlotFix) (pos : Nat) (l : List (Nat × Word)) : State :=
  (List.range l.length).foldl (fun a i =>
    let t := nth (0, 0) l i
    a.defer sl n ⟨3, x.slot, i, .outq (outEntry x.sid 0 0 (pos + i) t.1 t.2.toNat)⟩) s

/-- EMIT for one slot (R214, R231, R234, R235). -/
def State.emitSlot (s : State) (sl n op : Nat) (x : SlotFix) : State :=
  let p := (s.stream sl).prof
  if x.nodes = 0 then s.postResult sl n op x.slot (DecRes.none 1)
  else if x.len + x.forced < x.avail then s.postResult sl n op x.slot (DecRes.none 2)
  else
    let w := s.emitWalk 17 sl op x 0 [] []
    let e := w.2.entryOf sl x.sid
    match w.1 with
    | none =>
      let e1 := entStop (entPut e 1 0 21 (x.len + x.forced)) 4 5
      let s1 := (w.2.stageEntry sl n x.slot x.sid e1).defer sl n ⟨3, x.slot, 2 ^ 24, .outq (outEntry x.sid 2 5 0 0 0)⟩
      let s2 := s1.countArith sl evCvtNan (blkStatus 5)
      (s2.onSlot sl n x.slot (fun y => { y with done := true })).postResult sl n op x.slot (DecRes.none 4)
    | some (acc, draws) =>
      let cut := cutTokens e x.budget draws
      let k := cut.1.length
      let pos := x.len + x.forced
      let s1 := (List.range k).foldl (fun a i =>
        a.stmWrite sl n false (entIn e + 4 * ((pos + i) % 2 ^ profInLog p)) (natToBytes 4 (nth (0, 0) cut.1 i).1)) w.2
      let s2 := (List.range (k - 1)).foldl (fun a i => a.copyRows sl n x (x.len + nth 0 acc i) (x.len + i + 1)) s1
      let e1 := entPut (entPut e 1 0 21 (pos + k - 1)) 2 0 21 (pos + k)
      let e2 := if entGet e 0 11 1 = 1 then entPut e1 3 0 21 (x.budget - k) else e1
      let e3 := if cut.2 = 0 then e2 else entStop e2 2 cut.2
      let s3 := s2.stageEntry sl n x.slot x.sid e3
      let s4 := if entGet e 0 10 1 = 1 then s3.emitOut sl n x pos cut.1 else s3
      let s5 := if cut.2 = 0 then s4 else s4.defer sl n ⟨3, x.slot, 2 ^ 24, .outq (outEntry x.sid 1 cut.2 0 0 0)⟩
      let last := nth (0, 0) cut.1 (k - 1)
      let drawn := nth (0, 0) draws (draws.length - 1)
      let res : DecRes := ⟨if cut.2 = 0 then 0 else 3, acc.length, acc.getLast?.getD 0, k, 0, BitVec.ofNat 32 last.1, drawn.2,
        cut.1.map (fun t => t.1)⟩
      (s5.onSlot sl n x.slot (fun y => { y with done := true })).postResult sl n op x.slot res

/-- DRAFT for one slot: the nodes of the operand's level filled; every node below an absent one is absent (R233). The present nodes
stand in ascending order, a parent before its children (R232). -/
def State.draftSlot (s : State) (sl n op : Nat) (x : SlotFix) : State :=
  let p := (s.stream sl).prof
  if x.nodes = 0 then s.postResult sl n op x.slot (DecRes.none 1)
  else
    let level := opField p op 0 8 5
    let s1 := (x.draft.filter (fun j => decide (nodeDepth p j = level))).foldl (fun a j =>
      let par := shapeParent p j
      let cur := (a.slotFix sl n x.slot).getD x
      let gone (b : State) : State := b.onSlot sl n x.slot (fun y => { y with draft := y.draft.filter (fun c => decide (c ≠ j)) })
      if !(decide (par = 0) || cur.draft.contains par) then gone a
      else
        let r := a.logits sl op x.slot par
        match r.1 with
        | none => gone r.2
        | some z =>
          if z.any badLogit then gone r.2
          else
            match (sortDesc (fun q => orderKey q.2) (indexed z))[shapeRank p j]? with
            | none => gone r.2
            | some t => r.2.onSlot sl n x.slot (fun y => { y with tokens := mapSet (fun _ => 0) y.tokens j (t.1 + 1) })) s
    let s2 := s1.onSlot sl n x.slot (fun y => { y with draft := y.draft.foldl (fun kept c =>
      if shapeParent p c = 0 ∨ kept.contains (shapeParent p c) then kept ++ [c] else kept) [] })
    s2.postResult sl n op x.slot { DecRes.none 0 with status := 0 }

/-- ARGMAX or ARGMIN for one slot (R230). -/
def State.argSlot (s : State) (sl n op : Nat) (isMax : Bool) (x : SlotFix) : State :=
  if x.nodes = 0 then s.postResult sl n op x.slot (DecRes.none 1)
  else
    let r := s.logits sl op x.slot 0
    match r.1 with
    | none => r.2.postResult sl n op x.slot (DecRes.none 4)
    | some z =>
      let k := z.findIdx isNan32
      let i := if k < z.length then k else if isMax then argmaxIdx z else argminIdx z
      let v := if k < z.length then nan32 else nth 0 z i
      r.2.postResult sl n op x.slot ⟨0, 0, 0, 0, v, BitVec.ofNat 32 i, 0, []⟩

/-! ### Operations (R228) -/

/-- Whether group `g` has ended segment `k` of step `n`. -/
def GroupRt.endedSeg (r : GroupRt) (radio : Bool) (n k : Nat) : Bool :=
  let p := if radio then (r.rstep, r.rseg, r.rbegun, r.rrunning) else (r.step, r.seg, r.begun, r.running)
  stepFrom (stepNext n) p.1 || (decide (p.1 = n) && p.2.2.1 && (decide (k < p.2.1) || (decide (k = p.2.1) && !p.2.2.2)))

/-- Whether a tile has a mover operation of a slice's step that was issued in a segment up to `k` and has not ended. -/
def Tile.opsLeft (x : Tile) (sl n k : Nat) : Bool :=
  ((x.ctxs.filterMap (fun p => p.2)) ++ x.mvq).any (fun o => decide (o.slice = sl ∧ o.step = n ∧ o.seg ≤ k))

/-- Whether operand `op` may start in step `n` (R228). -/
def State.opStarts (s : State) (sl op : Nat) (r : StepRt) : Bool :=
  let p := (s.stream sl).prof
  let trig := opField p op 0 13 12
  r.decodeLeft.contains op
    && (s.sliceGroups sl).all (fun g => (s.group g).endedSeg (decide (sl = 0)) r.num trig
      && (groupTiles g).all (fun t => !(s.tile t).opsLeft sl r.num trig))
    && decide (opField p op 7 0 24 ≤ mapGet (fun _ => 0) r.expect op)

/-- A decode operation of kind `kind` runs for every batch slot in the oldest step that it may start in, and posts. It is held
while a tier is not open (R202). -/
def State.decodeOp (s : State) (sl op kind : Nat) (item : State → Nat → SlotFix → State) : State :=
  if opKind (s.stream sl).prof op ≠ kind ∨ !s.tiersOpen then s
  else
    match (s.slice sl).steps.find? (fun r => s.opStarts sl op r) with
    | none => s
    | some r =>
      let s1 := (List.range 4096).foldl (fun a slot =>
        match a.slotFix sl r.num slot with
        | some x => item a r.num x
        | none => a.postResult sl r.num op slot (DecRes.none 1)) s
      let s2 := s1.onSlice sl (fun x => { x with steps := x.steps.map (fun q =>
        if q.num = r.num then { q with decodeLeft := q.decodeLeft.filter (fun i => decide (i ≠ op)) } else q) })
      ((List.range 4).foldl (fun a u => (a.put (DEC_UNIT_STATUS_SLICE u) sl).put (DEC_UNIT_STATUS_BUSY u) 0) s2).count (DEC_SLC_ITEMS sl) 4096

/-! ### Meanings -/

/-- EMIT. -/
def execEmit (sl op : Fin 64) (s : State) : Answer :=
  .next (s.decodeOp sl op 1 (fun a n x => a.emitSlot sl n op x))
/-- DRAFT. -/
def execDraft (sl op : Fin 64) (s : State) : Answer :=
  .next (s.decodeOp sl op 2 (fun a n x => a.draftSlot sl n op x))
/-- ARGMAX. -/
def execArgmax (sl op : Fin 64) (s : State) : Answer :=
  .next (s.decodeOp sl op 3 (fun a n x => a.argSlot sl n op true x))
/-- ARGMIN. -/
def execArgmin (sl op : Fin 64) (s : State) : Answer :=
  .next (s.decodeOp sl op 4 (fun a n x => a.argSlot sl n op false x))

end Sys2Proof.Machine
end

