-- ==== Sys2Proof/Machine/PlanLoad.lean ====
section
/-! DEFINITION. Loading, activation, removal and partial reload of plan images (R137, R139 to R148). -/

namespace Sys2Proof.Machine

/-- Life-cycle states (R464): BLANK. -/
def lcBlank : Nat := 0
/-- PROVISIONED. -/
def lcProvisioned : Nat := 1
/-- DEPLOYED. -/
def lcDeployed : Nat := 2
/-- RETURNED. -/
def lcReturned : Nat := 3
/-- SCRAPPED. -/
def lcScrapped : Nat := 4

/-- The load's stage set, with `EVT` for LOADED, ACTIVE and FAILED. -/
def State.loadStage (s : State) (st : Nat) : State :=
  let s1 := s.put PLN_LOAD_STATUS_STAGE st
  if stLoaded ≤ st then s1.event PLN_LOAD_STATUS_EVT 0 else s1

/-- Whether a load is in progress. -/
def State.loading (s : State) : Bool :=
  decide (stFetch ≤ s.get PLN_LOAD_STATUS_STAGE ∧ s.get PLN_LOAD_STATUS_STAGE ≤ stWrite)

/-- The loader's image. -/
def State.loadImage (s : State) : Image :=
  let c := s.loadCtx s.loader.bytes s.loader.slice s.loader.ox s.loader.oy
  imageOf s.loader.bytes c.nd c.ox c.oy

/-- The physical groups that the load targets with their sections. -/
def State.loadTargets (s : State) : List (GroupSec × Nat) :=
  let im := s.loadImage
  im.groups.filterMap (fun gs => (gridGroup (im.ox + gs.sx) (im.oy + gs.sy)).map (fun g => (gs, g)))

/-- A load ends in FAILED with its first failure (R141). A full load that was writing leaves the regions that INIT data
entered (a tenant's, or the radio region for a radio image) zeroed, and no stores (R142). -/
def State.loadFail (s : State) (e : LoadErr) : State :=
  let writing := decide (s.get PLN_LOAD_STATUS_STAGE = stWrite)
  let part := hPartial s.loader.bytes
  let s1 := if writing ∧ !part then
      s.loadTargets.foldl (fun a q =>
        let a1 := if q.1.init = [] then a else (q.1.init.map (fun r => r.pos)).foldl (fun b p =>
          if hRadio s.loader.bytes then b.clearRadio (tileAt q.2 p) else b.clearTenant (tileAt q.2 p)) a
        a1.dropStores q.2 (hRadio s.loader.bytes)) s
    else s
  let s2 := ((s1.put PLN_LOAD_STATUS_ERR e.code).put PLN_LOAD_STATUS_ERR_SECT e.sect).put PLN_LOAD_DETAIL_INDEX e.idx
  let s3 := { s2 with loader := { s2.loader with waitSig := false } }
  s3.loadStage stFailed

/-- The registers that report a slice's image. -/
def State.imgRegs (s : State) (sl st gen id : Nat) : State :=
  ((s.put (PLN_SLICE_IMG_STATE sl) st).put (PLN_SLICE_IMG_GEN sl) gen).put (PLN_SLICE_IMGID_IMAGE_ID sl) id

/-- A partial reload fails in its WRITE: the load fails and the slice stops, with no image and `CAUSE` 6 (R143, R148; DEDUCED, log entry 27). -/
def State.reloadFail (s : State) (e : LoadErr) : State :=
  let sl := s.loader.slice
  let s1 := (s.loadFail e).haltGroups sl (s.slice sl).nextRelease true
  ((s1.imgRegs sl 0 0 0).put (DSP_SLC_STATE_STATE sl) dspStopped).put (DSP_SLC_STATE_CAUSE sl) 6

/-- LOAD_START (R141, R144). `SPACE` 3 is refused with `FETCH`. -/
def State.loadStart (s : State) : State :=
  if s.loading then s.put PLN_LOAD_STATUS_BUSY 1
  else
    let ld : Loader := ⟨[], s.get PLN_LOAD_SRC_SLICE, s.get PLN_LOAD_PLACE_OX, s.get PLN_LOAD_PLACE_OY, false, []⟩
    let s1 := { s with loader := ld }
    let s2 := ((s1.put PLN_LOAD_STATUS_ERR 0).put PLN_LOAD_STATUS_ERR_SECT 0).put PLN_LOAD_DETAIL_INDEX 0
    let s3 := s2.loadStage stFetch
    if s3.get PLN_LOAD_SRC_SPACE = 3 then s3.loadFail ⟨1, sectNone, 0⟩ else s3

/-- The bytes of the image at its source: what the host gave, or slice-relative tier memory. -/
def State.loadSource (s : State) (ok : Bool) (host : List Byte) : Option (List Byte) × State :=
  let n := 256 * s.get PLN_LOAD_LEN_LEN
  let sp := s.get PLN_LOAD_SRC_SPACE
  let a := s.get64 PLN_LOAD_ADDR_LO_ADDR PLN_LOAD_ADDR_HI_ADDR / 256 * 256
  if sp = 0 then (if ok ∧ host.length = n ∧ s.dmaOpen then some host else none, s.hostAsk s.loader.slice a n)
  else
    let r := s.viewRead s.loader.slice (s.viewLines s.loader.slice false) (decide (sp = 2)) a n
    (r.1.bind (fun d => if markedM d then none else some (bytesM d)), r.2)

/-- The image copied into the slice's image store (R141, R197). -/
def State.storeImage (s : State) (sl : Nat) (img : List Byte) : State :=
  (List.range (img.length / 256)).foldl (fun a i =>
    match a.translate sl .img (256 * i) with
    | some da => (a.devWrite false da (cleanM ((img.drop (256 * i)).take 256))).2
    | none => a) s

/-- VALIDATE, then the groups powered on and WRITE begun (R143). A target group quarantined since the load began aborts it
(R141). -/
def State.loadValidate (s : State) : State :=
  let s1 := s.loadStage stValidate
  if s1.loadTargets.any (fun q => s1.loader.quar.contains q.2) then s1.loadFail ⟨0x21, sectNone, 0⟩ else
  match s1.validate s1.loader.bytes s1.loader.slice s1.loader.ox s1.loader.oy with
  | some e => s1.loadFail e
  | none =>
    let s2 := s1.loadTargets.foldl (fun a q => a.powerOnGroup q.2) s1
    (s2.loadStage stWrite).settleHold s2.loader.slice

/-- The signature policy (R139, R140) after the other checks: a failure, a wait for the warden, or VALIDATE. A signature
block out of its place or with another magic or algorithm gives SIG_BAD, after the key slot's check (DEDUCED, log entry
113). -/
def State.loadPolicy (s : State) (img : List Byte) : State :=
  let lc := s.get HOL_LC_STATE
  let sig := 256 * hSigOff img
  let slot := leAt img (sig + 5) 1
  if lc = lcScrapped then s.loadFail ⟨0x0C, sectNone, 0⟩
  else if hSigned img then
    if lc = lcBlank ∨ 8 ≤ slot ∨ (s.get PLN_IMG_POLICY_KEY_EN / 2 ^ slot) % 2 = 0 then s.loadFail ⟨0x0A, sectNone, 0⟩
    else if hSigOff img + 1 ≠ leAt img 0x18 4 ∨ leAt img sig 4 ≠ 0x4749535A ∨ leAt img (sig + 4) 1 ≠ 1 then s.loadFail ⟨0x0B, sectNone, 0⟩
    else { s with loader := { s.loader with waitSig := true } }
  else if lc = lcDeployed ∨ !s.flag PLN_IMG_POLICY_ALLOW_UNSIGNED then s.loadFail ⟨0x09, sectNone, 0⟩
  else s.loadValidate

/-- LOAD_FETCH_DONE: the image is in the image store and CHECK runs (R141). -/
def State.loadFetched (s : State) (ok : Bool) (host : List Byte) : State :=
  if s.get PLN_LOAD_STATUS_STAGE ≠ stFetch ∨ !s.tiersOpen then s
  else
    let sl := s.loader.slice
    let r := s.loadSource ok host
    match r.1 with
    | none => r.2.loadFail ⟨1, sectNone, 0⟩
    | some img =>
      if s.winCount sl .img * 2 ^ 28 < img.length then r.2.loadFail ⟨0x1C, sectNone, 0⟩
      else
        let s1 := (r.2.storeImage sl img).loadStage stCheck
        let s2 := { s1 with loader := { s1.loader with bytes := img } }
        match checkImage img (s.get PLN_LOAD_LEN_LEN) with
        | some e => s2.loadFail e
        | none => s2.loadPolicy img

/-- SIGNATURE_ANSWER: the warden's verdict on the digest (R139). -/
def State.sigAnswer (s : State) (good : Bool) : State :=
  if s.loader.waitSig then
    let s1 := { s with loader := { s.loader with waitSig := false } }
    if good then s1.loadValidate else s1.loadFail ⟨0x0B, sectNone, 0⟩
  else s

/-- SIG_TIMEOUT (R139). -/
def State.sigTimeout (s : State) : State := if s.loader.waitSig then s.loadFail ⟨0x0D, sectNone, 0⟩ else s

/-- A group entered by an activated image: owner, logical group, state (R143, R162). A radio image's group stays IDLE. A
lent group stays with slice 0 and is at a boundary, with no context of its own, from its return on (R341). -/
def State.enterGroup (s : State) (sl lg g : Nat) : State :=
  let s1 := (s.put (DSP_GRP_STATE_LGROUP g) lg).put (DSP_GRP_STATE_SEG g) 0
  if sl = 0 then s1
  else
    let s2 := (s1.put (DSP_GRP_STATE_SLICE g) sl).onGroup g (fun r => { r with running := false, begun := false, seg := 0, step := 0 })
    if s2.get (DSP_GRP_STATE_STATE g) = grpLent then
      (groupTiles g).foldl (fun a t => a.onTile t (fun x => { x with saved := none }))
        (s2.onGroup g (fun r => { r with before := grpBoundary, dumped := false }))
    else (s2.setGroupState g grpBoundary modeTenant).setGroupOwner g sl

/-- Activation (R137, R143): INIT data, variant 0 in every slot, step 0, the groups entered, the image ACTIVE. -/
def State.activate (s : State) (sl : Nat) : State :=
  match (s.slice sl).image with
  | none => s
  | some im =>
    let s1 := im.groups.foldl (fun a gs =>
      match a.placeOf sl gs.lgroup with
      | some g => ((a.powerOnGroup g).writeGroup gs g true).enterGroup sl gs.lgroup g
      | none => a) s
    let s2 := s1.put64 (DSP_SLC_STEP_LO_STEP sl) (DSP_SLC_STEP_HI_STEP sl) 0
    let s3 := s2.onSlice sl (fun x => { x with nextRelease := 0, steps := [], heldVar := [], digests := [], early := [], rerun := 0, abortAt := none })
    ((s3.put (PLN_SLICE_IMG_STATE sl) 2).refreshSlice sl).refreshGuards

/-- LOAD_ACT: the LOADED image of slice `SLICE` activated (R143, R144). -/
def State.loadAct (s : State) (sl : Nat) : State :=
  if s.get (PLN_SLICE_IMG_STATE sl) = 1 then
    let s1 := s.activate sl
    if s1.loader.slice = sl ∧ s1.get PLN_LOAD_STATUS_STAGE = stLoaded then s1.loadStage stActive else s1
  else s

/-- LOAD_WRITE_DONE for a full image: stores and INIT data are in, the quarantine is checked again, the image is LOADED
(R141, R143). `ok` is 0 where an error was detected on the write path. -/
def State.loadWritten (s : State) (ok : Bool) : State :=
  if s.get PLN_LOAD_STATUS_STAGE ≠ stWrite ∨ hPartial s.loader.bytes then s
  else
    let sl := s.loader.slice
    let im := s.loadImage
    let tg := s.loadTargets
    if !ok then s.loadFail ⟨0x20, sectNone, 0⟩
    else if tg.any (fun q => s.quarantined q.2) then s.loadFail ⟨0x21, sectNone, 0⟩
    else
      let s1 := tg.foldl (fun a q => (a.powerOnGroup q.2).writeGroup q.1 q.2 true) s
      let pl := tg.foldl (fun m q => mapSet (fun _ => 0) m q.1.lgroup (q.2 + 1)) ([] : SMap Nat)
      let s2 := s1.onSlice sl (fun x => { x with image := some im, place := pl })
      let s3 := (s2.imgRegs sl 1 (im.gen % 256) im.imageId).loadStage stLoaded
      if s3.flag PLN_LOAD_CTRL_AUTO_ACT then s3.loadAct sl else s3

/-- Whether a partial reload's WRITE may run (R147, R349): its slice is HELD or stopped with no step in flight and no save or
replay on its groups, and none of its old or new groups is lent. -/
def State.writeOpen (s : State) : Bool :=
  let sl := s.loader.slice
  let st := s.get (DSP_SLC_STATE_STATE sl)
  s.holdFor sl && decide ((s.slice sl).steps = [] ∧ (s.slice sl).rerun = 0 ∧ (st = dspHeld ∨ st = dspStopped ∨ st = dspFaulted))
    && !s.flag (DSP_SLC_SAVE_SAVE_PEND sl)
    && (s.sliceGroups sl ++ s.loadTargets.map (fun q => q.2)).all (fun g =>
      decide (s.get (DSP_GRP_STATE_STATE g) ≤ grpBoundary) && (s.group g).saveFor.isNone)

/-- LOAD_ABORT (R144). A partial reload whose WRITE may run is taken to be writing: its abort is a failure in WRITE (R148;
DEDUCED, log entry 27). One that only waits for its slice leaves the active image as it was. -/
def State.loadAbort (s : State) : State :=
  if !s.loading then s
  else if s.writeOpen then s.reloadFail ⟨0x21, sectNone, 0⟩
  else
    let s1 := s.loadFail ⟨0x21, sectNone, 0⟩
    if s1.get (DSP_SLC_STATE_STATE s1.loader.slice) = dspHeld then s1.dspRestart s1.loader.slice else s1

/-- A slice's image removed with everything that runs of it: stores, slots and groups (R145, R323). -/
def State.removeImage (s : State) (sl : Nat) : State :=
  let gs := s.sliceGroups sl
  let s1 := gs.foldl (fun a g =>
    let a1 := a.dropStores g (decide (sl = 0))
    let st := a1.get (DSP_GRP_STATE_STATE g)
    let a2 := a1.onGroup g (fun r => { r with running := false, begun := false, seg := 0, idleAt := a1.raw })
    if sl ≠ 0 ∧ (st = grpRun ∨ st = grpBoundary) then a2.setGroupState g grpIdle modeIdle else a2) s
  let s2 := s1.onSlice sl (fun x => { x with image := none, place := [], heldVar := [], early := [], rerun := 0 })
  (s2.imgRegs sl 0 0 0).refreshGuards

/-- UNLOAD (R145): it wipes sealed groups (R467), and clears what a failed partial reload has left (R148). -/
def State.unload (s : State) (sl : Nat) : State :=
  let st := s.get (PLN_SLICE_IMG_STATE sl)
  let d := s.get (DSP_SLC_STATE_STATE sl)
  if st = 1 ∨ ((st = 2 ∨ (s.slice sl).image.isSome) ∧ (d = dspStopped ∨ d = dspFaulted)) then
    let s0 := s.removeImage sl
    let s1 := (s0.sealedOf sl).foldl (fun a g => a.wipeGroup g) s0
    if s1.loader.slice = sl ∧ !s1.loading then s1.put PLN_LOAD_STATUS_STAGE stIdle else s1
  else s.put PLN_LOAD_STATUS_UNLOAD_REF 1

/-- The image after a partial reload (R146): reloaded groups' sections take the place of the old ones. -/
def mergeImage (old new : Image) : Image :=
  { old with
    gen := new.gen
    groups := old.groups.filter (fun g => !new.groups.any (fun q => decide (q.lgroup = g.lgroup))) ++ new.groups }

/-- The groups that a partial reload's logical groups leave, each IDLE and with its tenant stores empty. -/
def State.leaveGroups (s : State) (sl : Nat) (tg : List (GroupSec × Nat)) : State :=
  (tg.filterMap (fun q => (s.placeOf sl q.1.lgroup).filter (fun g => decide (g ≠ q.2)))).foldl (fun a g =>
    let a1 := a.dropStores g false
    if a1.get (DSP_GRP_STATE_STATE g) = grpOff then a1 else a1.setGroupState g grpIdle modeIdle) s

/-- PARTIAL_RELOAD_SWITCH (R147): once the slice is held, WRITE runs, the new generation becomes current and the slice goes
on. A moved group starts with its new region as granted. -/
def State.partialSwitch (s : State) (ok : Bool) : State :=
  let sl := s.loader.slice
  if !s.writeOpen then s
  else if !ok then s.reloadFail ⟨0x20, sectNone, 0⟩
  else
    match (s.slice sl).image with
    | none => s.loadFail ⟨0x1B, sectNone, 0⟩
    | some old =>
      let tg := s.loadTargets
      if tg.any (fun q => s.quarantined q.2) then s.reloadFail ⟨0x21, sectNone, 0⟩
      else
        let im := mergeImage old s.loadImage
        let s1 := tg.foldl (fun a q =>
          let a2 := ((a.powerOnGroup q.2).writeGroup q.1 q.2 true).onSlice sl
            (fun x => { x with place := mapSet (fun _ => 0) x.place q.1.lgroup (q.2 + 1) })
          if s.placeOf sl q.1.lgroup = some q.2 then a2
          else (a2.enterGroup sl q.1.lgroup q.2).onGroup q.2 (fun r => { r with step := (s.slice sl).nextRelease })) (s.leaveGroups sl tg)
        let s2 := (s1.onSlice sl (fun x => { x with image := some im })).imgRegs sl 2 (im.gen % 256) im.imageId
        let s3 := (s2.loadStage stActive).refreshGuards
        if s3.get (DSP_SLC_STATE_STATE sl) = dspHeld then s3.dspRestart sl else s3

/-! ### Meanings -/

/-- LOAD_START. -/
def execLoadStart (s : State) : Answer := .next s.loadStart
/-- LOAD_FETCH_DONE. -/
def execLoadFetchDone (ok : Bool) (host : List Byte) (s : State) : Answer := .next (s.loadFetched ok host)
/-- SIGNATURE_ANSWER. -/
def execSignatureAnswer (good : Bool) (s : State) : Answer := .next (s.sigAnswer good)
/-- SIG_TIMEOUT. -/
def execSigTimeout (s : State) : Answer := .next s.sigTimeout
/-- LOAD_WRITE_DONE. -/
def execLoadWriteDone (ok : Bool) (s : State) : Answer := .next (s.loadWritten ok)
/-- LOAD_ACT. -/
def execLoadAct (s : State) : Answer := .next (s.loadAct (s.get PLN_LOAD_SRC_SLICE))
/-- LOAD_ABORT. -/
def execLoadAbort (s : State) : Answer := .next s.loadAbort
/-- UNLOAD. -/
def execUnload (s : State) : Answer := .next (s.unload (s.get PLN_LOAD_SRC_SLICE))
/-- PARTIAL_RELOAD_SWITCH. -/
def execPartialReloadSwitch (ok : Bool) (s : State) : Answer := .next (s.partialSwitch ok)

end Sys2Proof.Machine
end

