-- ==== Sys2Proof/Machine/Steps.lean ====
section
/-! DEFINITION. Dispatch and commit (R149 to R178): the release of steps, segments, selectors, the end and commit of a
step, and the dispatcher's registers. -/

namespace Sys2Proof.Machine

/-! ### Release (R161, R173, R212, R240, R401, R520) -/

/-- The sampling of logical group `lg` in step `n` (R173, R520). -/
def State.sampledIn (s : State) (sl n lg : Nat) : Bool :=
  let e := s.get DSP_SAMPLE_CFG_RATE_LOG2
  decide (sl ≠ 0) && (s.flag (INT_SLC_CFG_STRICT sl) || (decide (e ≠ 0) && decide ((n + 7 * lg) % 2 ^ e = 0)))

/-- Whether a slice may release: READY, or with `OVERLAP` one ended step uncommitted (R160, R161), and not held by the loader
(R147); steps that are run again need neither `RUN` nor a credit, and do so in STALLED too, whose progress they are (R172,
R174). -/
def State.mayRelease (s : State) (sl : Nat) : Bool :=
  let x := s.slice sl
  let again := decide (0 < x.rerun)
  let st := if again ∧ s.get (DSP_SLC_STATE_STATE sl) = dspStalled then x.stallSt else s.get (DSP_SLC_STATE_STATE sl)
  let room := match x.steps with
    | [] => decide (st = dspReady) || (again && decide (st = dspRunning))
    | [r] => s.flag (DSP_SLC_CTRL_OVERLAP sl) && r.ended && decide (st = dspRunning ∨ st = dspCommitting)
    | _ => false
  room && decide (s.get (PLN_SLICE_IMG_STATE sl) = 2) && s.live sl
    && (again || (s.flag (DSP_SLC_CTRL_RUN sl) && (s.flag (DSP_SLC_CTRL_CONT sl) || decide (s.get (DSP_SLC_CREDIT_CREDIT sl) ≠ 0))))
    && !s.flag (DSP_SLC_SAVE_SAVE_PEND sl) && !s.stranded sl && !s.holdFor sl
    && (match x.abortAt with | some t => decide (t + 1000000 * 2 ^ 32 ≤ s.raw) | none => true)

/-- The stream engine's part of a release before the step's values are fixed: waiting commands are applied, and the output ring
has room beside what the uncommitted steps may still write (R237, R240). `none` while the release waits, also for the tiers to
open (R202). -/
def State.releaseStreams (s : State) (sl n : Nat) (cons : Word) : Option State × State :=
  if !s.flag (STM_SLC_CTRL_ENABLE sl) then (some s, s)
  else if ((s.stream sl).waiting ≠ [] ∧ (s.slice sl).steps ≠ []) ∨ !s.tiersOpen then (none, s)
  else
    let occ := ((s.stream sl).batch.filter (fun b => decide (b.2 ≠ 0))).length
    let r := s.outRoom sl (18 * occ + (s.stream sl).waiting.length + s.outHeld sl) cons
    if r.1 then (some (r.2.cmdDrain sl), r.2)
    else (none, r.2.stmEvent sl (STM_SLC_EVENT_OUTQ_WAIT sl))

/-- The variants that a released step starts with (R137, R159): slots filled by `NEXT` selectors hold what the committed step
before gave them, variant 0 at first; every other slot is unresolved. -/
def Image.firstVars (im : Image) (held : SMap Nat) : SMap Nat :=
  let fill (m : SMap Nat) (c : SelRec) : SMap Nat :=
    if c.next then (List.range (c.lanes + 1)).foldl (fun m i =>
      let k := c.firstSlot + i
      mapSet (fun _ => 0) m k (let v := mapGet (fun _ => 0) held k; if v = 0 then 1 else v)) m
    else m
  im.sels.foldl fill []

/-- The decode operands that a step runs (R227). -/
def State.decodeOps (s : State) (sl : Nat) : List Nat :=
  if s.flag (STM_SLC_CTRL_ENABLE sl) then
    (List.range 64).filter (fun i => decide (opKind (s.stream sl).prof i ≠ 0))
  else []

/-- STEP_RELEASE. `cons` is the consumer index that the engine reads from the host when it needs it (R240). -/
def State.stepRelease (s : State) (sl : Nat) (cons : Word) : State :=
  match (s.slice sl).image with
  | none => s
  | some im =>
    if !s.mayRelease sl then s
    else
      let x := s.slice sl
      let n := x.nextRelease
      let st := s.releaseStreams sl n cons
      match st.1 with
      | none => st.2
      | some s1 =>
        let lgs := im.groups.map (fun g => g.lgroup)
        let r0 := s1.stepRec sl n
        let r : StepRt := { r0 with
          var := if x.steps = [] then im.firstVars x.heldVar else []
          decodeLeft := s1.decodeOps sl
          sampled := lgs.filter (fun g => s1.sampledIn sl n g) }
        let again := decide (0 < x.rerun)
        let s2 := s1.onSlice sl (fun y => { y with
          steps := y.steps ++ [r], early := y.early.filter (fun q => decide (q.num ≠ n)), nextRelease := (n + 1) % 2 ^ 64,
          rerun := y.rerun - 1, abortAt := none })
        let s2a := if s2.flag (STM_SLC_CTRL_ENABLE sl) then s2.fixStep sl n else s2
        let s3 := if again ∨ s2a.flag (DSP_SLC_CTRL_CONT sl) then s2a
          else s2a.put (DSP_SLC_CREDIT_CREDIT sl) (s2a.get (DSP_SLC_CREDIT_CREDIT sl) - 1)
        let s4 := if x.abortAt.isSome then s3.sendCtrl sl ctrlRerun n (fun d => decide (s3.member d = memLive)) else s3
        ((s4.put (DSP_SLC_STATE_STATE sl) dspRunning).progress sl).refreshMarks sl

/-! ### Segments (R153, R154) -/

/-- What a group works on: slice, logical group, step, segment, whether the segment before it has begun, and whether one is
running; slice 0's work on it with `radio`. -/
structure SegCtx where
  slice   : Nat
  lgroup  : Nat
  step    : Nat
  seg     : Nat
  begun   : Bool
  running : Bool
  replay  : Bool
  deriving DecidableEq, Repr

/-- What a group works on. -/
def State.segCtx (s : State) (g : Nat) (radio : Bool) : Option SegCtx :=
  let r := s.group g
  if radio then (s.lgroupOn 0 g).map (fun lg => ⟨0, lg, r.rstep, r.rseg, r.rbegun, r.rrunning, false⟩)
  else
    match s.replayOn g with
    | some p => some ⟨p.slice, p.lgroup, r.step, r.seg, r.begun, r.running, true⟩
    | none =>
      let sl := s.get (DSP_GRP_STATE_SLICE g)
      if sl = 0 then none else (s.lgroupOn sl g).map (fun lg => ⟨sl, lg, r.step, r.seg, r.begun, r.running, false⟩)

/-- The progress of a group's work replaced. -/
def State.setSeg (s : State) (g : Nat) (radio : Bool) (step seg : Nat) (begun running : Bool) : State :=
  s.onGroup g (fun r =>
    if radio then { r with rstep := step, rseg := seg, rbegun := begun, rrunning := running }
    else { r with step := step, seg := seg, begun := begun, running := running })

/-- A body started on a tile (R153). Issue and conversion counts go on from the step's earlier segments. -/
def startBody (radio fresh : Bool) (idx : Nat) (x : Tile) : Tile :=
  let st := if radio then x.rstore else x.store
  let old := x.run
  { x with run := { TileRun.reset with
      running := true, radio := radio, pc := nth 0 st.dir idx,
      issued := if fresh then 0 else old.issued, conv := if fresh then 0 else old.conv } }

/-- Whether a group may begin a segment now (R154, R299, R338). -/
def State.segOpen (s : State) (g : Nat) (radio : Bool) (c : SegCtx) : Bool :=
  let st := s.get (DSP_GRP_STATE_STATE g)
  let dsp := s.get (DSP_SLC_STATE_STATE c.slice)
  if radio then
    (s.group g).stage.isSome && (decide (st = grpLent) || (s.granted 0 g && decide (st = grpIdle ∨ st = grpBoundary ∨ st = grpOff)))
  else if c.replay then decide (st = grpBoundary) && s.beforeRun g (s.guardNs g)
  else
    decide (st = grpBoundary ∨ st = grpOff ∨ st = grpIdle) && !s.quarantined g && decide (dsp ≠ dspHeld ∧ dsp ≠ dspPreempted)
      && !s.flag (DSP_SLC_SAVE_SAVE_PEND c.slice) && (s.group g).saveFor.isNone && s.beforeRun g (s.guardNs g)

/-- SEGMENT_BEGIN (R153, R154, R347): the group's next segment, or the resume prologue that goes before it. -/
def State.segBegin (s : State) (g : Nat) (radio : Bool) : State :=
  match s.segCtx g radio with
  | none => s
  | some c =>
    match (s.slice c.slice).image, (s.slice c.slice).steps.find? (fun r => decide (r.num = c.step)) with
    | some im, some r =>
      let k := if c.begun then c.seg + 1 else 0
      match im.segs[k]? with
      | none => s
      | some sg =>
        let v := if sg.slot = 0xFF then 1 else mapGet (fun _ => 0) r.var sg.slot
        if c.running ∨ v = 0 ∨ !s.segOpen g radio c then s
        else
          let prol := !radio && !c.replay && (s.group g).resume && decide (sg.resume ≠ 0xFFFFF)
          let idx := if prol then sg.resume else sg.dirBase + (v - 1)
          let s1 := s.powerOnGroup g
          let fresh := !prol && decide (k = 0)
          let s2 := (groupTiles g).foldl (fun (a : State) t =>
            ({ a with free := a.free + 1 } : State).onTile t (fun x => startBody radio fresh idx (x.loseVectors a.free))) s1
          let s3 := if prol then s2.setSeg g radio c.step c.seg c.begun true else s2.setSeg g radio c.step k true true
          let s4 := if radio then s3 else s3.onGroup g (fun q => { q with resume := false, prologue := prol })
          let s5 := s4.put (DSP_GRP_STATE_SEG g) (if prol then c.seg else k)
          if radio ∧ s5.get (DSP_GRP_STATE_STATE g) = grpLent then s5.setGroupState g grpLent modeRadio
          else s5.setGroupState g grpRun (if radio then modeRadio else modeTenant)
    | _, _ => s

/-- The words of SPAD selectors that resolve with a segment, read at its end in the group that holds them (R158). They enter
the group's digest (R516). -/
def State.captureSels (s : State) (g : Nat) (radio : Bool) (c : SegCtx) (im : Image) : State :=
  (List.range im.sels.length).foldl (fun a i =>
    match im.sels[i]? with
    | none => a
    | some q =>
      if q.src = 0 ∧ q.resSeg = c.seg ∧ q.srcTile / 16 = c.lgroup then
        let t := tileAt g (q.srcTile % 16)
        let rd := a.spadRead t radio q.srcArg (4 * (q.lanes + 1))
        let ws := (chunksOf 4 (q.lanes + 2) (bytesM rd.1)).map (fun b => BitVec.ofNat 32 (bytesToNat b))
        let id : RunId := ⟨c.slice, c.step, c.lgroup, q.srcTile, c.replay⟩
        let s1 := (List.range ws.length).foldl (fun b j => b.digest id g 0x30 (256 * i + j) (natToBytes 4 (nth (0 : Word) ws j).toNat)) rd.2
        if c.replay then s1
        else s1.onStepRec c.slice c.step (fun r => { r with selRaw := mapSet (fun _ => []) r.selRaw i ws })
      else a) s

/-- SEGMENT_END: all 16 tiles have retired `SEG_END` (R153). -/
def State.segEnd (s : State) (g : Nat) (radio : Bool) : State :=
  match s.segCtx g radio with
  | none => s
  | some c =>
    if !c.running ∨ !(groupTiles g).all (fun t => (s.tile t).run.ended) then s
    else
      match (s.slice c.slice).image with
      | none => s
      | some im =>
        let stop (a : State) : State :=
          if radio ∧ a.get (DSP_GRP_STATE_STATE g) = grpLent then a
          else a.setGroupState g grpBoundary (if radio then modeRadio else modeTenant)
        if !radio ∧ (s.group g).prologue then
          stop ((s.setSeg g radio c.step c.seg c.begun false).onGroup g (fun r => { r with prologue := false }))
        else
          let s1 := s.captureSels g radio c im
          let last := ((im.segs[c.seg]?).map (fun q => q.last)).getD true
          let s2 := if last then s1.setSeg g radio (stepNext c.step) 0 false false else s1.setSeg g radio c.step c.seg true false
          stop (if c.replay then s2 else s2.progress c.slice)

/-! ### Selectors (R135, R158, R159, R241) -/

/-- The raw values of a selector's lanes, once its source is there. -/
def State.selValues (s : State) (sl : Nat) (im : Image) (r : StepRt) (i : Nat) (q : SelRec) : Option (List Nat) :=
  let radio := decide (sl = 0)
  let slot := q.srcArg % 4096
  let ended (lg : Nat) : Bool := match s.placeOf sl lg with
    | some g => (s.group g).endedSeg radio r.num q.resSeg
    | none => false
  if q.src = 0 then
    let ws := mapGet (fun _ => []) r.selRaw i
    if ws = [] then none else some (ws.map (fun w => w.toNat))
  else if q.src = 3 then
    let lo := (im.groups.map (fun g => g.lgroup)).foldl min 63
    if !ended lo then none
    else
      let code := q.srcArg / 4096 % 16
      match s.slotFix sl r.num slot with
      | none => some [0]
      | some f => some [if code = 0 then f.len else if code = 1 then f.avail - f.len else if code = 2 then f.forced
          else if code = 3 then f.forced + f.drafts else if code = 4 then f.drafts else f.word0 % 8]
  else
    let op := q.srcArg / 4096 % 64
    let ws := match s.fixOf sl r.num with
      | some f => mapGet (fun _ => []) f.results (4096 * op + slot)
      | none => []
    let lo := (im.groups.map (fun g => g.lgroup)).foldl min 63
    if ws = [] ∨ !ended lo then none
    else if q.src = 2 then some [(nth (0 : Word) ws 4).toNat]
    else some ((List.range (q.lanes + 1)).map (fun j => (nth (0 : Word) ws (q.srcArg / 2 ^ 18 % 4 + j)).toNat))

/-- The table index of a raw value (R135). -/
def SelRec.index (q : SelRec) (v : Nat) : Nat :=
  if q.mode = 0 then v / 2 ^ q.shift % 2 ^ q.bits
  else if q.mode = 1 then (if v = q.cmp then 1 else 0)
  else Nat.log2 (v + 1)

/-- SELECTOR_RESOLVE: selector `i` of a slice in the oldest step that it has not resolved in and whose source is there. -/
def State.selResolve (s : State) (sl i : Nat) : State :=
  match (s.slice sl).image with
  | none => s
  | some im =>
    match im.sels[i]? with
    | none => s
    | some q =>
      match (s.slice sl).steps.find? (fun r => !r.resolved.contains i) with
      | none => s
      | some r =>
        match s.selValues sl im r i q with
        | none => s
        | some vs =>
          let top := q.vtLen - 1
          let fill (m : SMap Nat) : SMap Nat := (List.range vs.length).foldl (fun a j =>
            mapSet (fun _ => 0) a (q.firstSlot + j) (nth 0 im.vt (q.vtOff + min (q.index (nth 0 vs j)) top) % 1024 + 1)) m
          let s1 := s.onStepRec sl r.num (fun p => { p with
            resolved := p.resolved ++ [i]
            var := if q.next then p.var else fill p.var
            nextVar := if q.next then fill p.nextVar else p.nextVar })
          if vs.any (fun v => decide (top < q.index v)) then s1.dspEvent sl (DSP_SLC_EVENT_SEL_RANGE sl) else s1

/-! ### The end of a step and its commit (R155, R169) -/

/-- Whether a group has done its part of a step: its last segment, and its mover operations (R155). -/
def State.groupDone (s : State) (sl n : Nat) (g : Nat) : Bool :=
  let radio := decide (sl = 0)
  let r := s.group g
  let p := if radio then (r.rstep, r.rbegun) else (r.step, r.begun)
  let busy := decide (p.1 = stepNext n) && p.2 || stepFrom (stepNext (stepNext n)) p.1
  stepFrom (stepNext n) p.1 && (groupTiles g).all (fun t =>
    let x := s.tile t
    !x.opsLeft sl n 4096 && (busy || x.scb.all (fun e => decide (e.2.st = .free) || (radio != decide (48 ≤ e.1)))))

/-- A step's own effects leave staging at the commit point (R169): lines are committed, and the deferred effects start in
order, the fabric lines first. -/
def State.commitEffects (s : State) (sl : Nat) (r : StepRt) : State :=
  let key (d : Deferred) : Int := -(((d.kind * 2048 + d.ltile) * 2 ^ 40 + d.pos : Nat) : Int)
  let ds := sortDesc key r.deferred
  let s1 := s.onSlice sl (fun x => { x with committed := x.committed ++ r.lines })
  let s2 := (ds.foldl (fun a d =>
    match d.eff with
    | .fab m idx data => a.deferFab sl d m idx data
    | _ => a) s1).drainDeferred
  let s3 := ds.foldl (fun a d =>
    match d.eff with
    | .fab _ _ _ => a
    | .stream sid e => a.setEntry sid e
    | .outq e => a.outPut sl e) s2
  if ds.any (fun d => match d.eff with | .outq _ => true | _ => false) then s3.outBell sl else s3

/-- Steps whose slots wait for the committed step's `NEXT` selectors are given them (R159). -/
def State.giveVars (s : State) (sl : Nat) (im : Image) : State :=
  let held := (s.slice sl).heldVar
  s.onSlice sl (fun x => { x with steps := match x.steps with
    | [] => []
    | r :: t => { r with var := (im.firstVars held) ++ r.var.filter (fun p => !(im.firstVars held).any (fun q => decide (q.1 = p.1))) } :: t })

/-- A step commits: it leaves the list of uncommitted steps and the step number advances (R156, R169). -/
def State.stepCommitNow (s : State) (sl : Nat) (r : StepRt) : State :=
  let s1 := s.onSlice sl (fun x => { x with
    steps := x.steps.drop 1
    heldVar := r.nextVar
    digests := x.digests.filter (fun p => decide (p.1 / 64 ≠ r.num)) })
  let js := s1.integ.journals.filter (fun j => decide (j.slice ≠ sl ∨ j.step ≠ r.num))
  let s2 : State := { s1 with integ := { s1.integ with journals := js } }
  let s3 := (s2.onStream sl (fun q => { q with fixes := q.fixes.filter (fun f => decide (f.num ≠ r.num)) })).refreshRings sl
  let s4 := s3.onDrv (fun d => { d with reorder := d.reorder.filter (fun h => decide (h.slice ≠ sl ∨ h.step ≠ r.num)) })
  let s5 := (s4.commitEffects sl r).put64 (DSP_SLC_STEP_LO_STEP sl) (DSP_SLC_STEP_HI_STEP sl) ((r.num + 1) % 2 ^ 64)
  let s6 := ((s5.tally (DSP_SLC_COMMITS sl)).progress sl).onSlice sl (fun x =>
    { x with retrySusp := if x.retrySusp = some r.num then none else x.retrySusp })
  let s7 := s6.coolAll sl
  let s8 : State := match (s7.slice sl).image with
    | some im => s7.giveVars sl im
    | none => s7
  let x := s8.slice sl
  let s9 := if x.steps = [] ∧ x.rerun = 0 then s8.dspIdle sl
    else if x.steps ≠ [] ∧ x.steps.all (fun q => q.ended) then s8.dspTo sl dspCommitting
    else s8.dspTo sl dspRunning
  ((s9.cmdDrain sl).refreshMarks sl).maybeReady sl

/-- STEP_COMMIT: the oldest step of a slice, once every condition of R169 holds and the deferred lines of the step before have
left, since its effects are all issued before any of this one (DEDUCED, log entry 115). -/
def State.stepCommit (s : State) (sl : Nat) : State :=
  match (s.slice sl).steps with
  | [] => s
  | r :: _ =>
    let others := (s.commitGroup sl).filter (fun d => decide (d ≠ s.self))
    if r.ended ∧ r.judged ∧ (s.get (DSP_SLC_CTRL_COMMIT_MGROUP sl) = 0 ∨ others.all (fun d => r.ready.contains d))
        ∧ s.get (DSP_SLC_STATE_STATE sl) ≠ dspPreempted ∧ !s.drv.defq.any (fun l => decide (l.slice = sl)) then s.stepCommitNow sl r
    else s

/-- STEP_END: the oldest released step that has not ended, once every condition of R155 holds. A radio step commits when it
ends (R173). -/
def State.stepEnd (s : State) (sl : Nat) : State :=
  match (s.slice sl).image, (s.slice sl).steps.find? (fun r => !r.ended) with
  | some im, some r =>
    if r.decodeLeft = [] ∧ r.resolved.length = im.sels.length
        ∧ (s.sliceGroups sl).all (fun g => s.groupDone sl r.num g) then
      let s1 := (s.fixEnd sl r.num).onStepRec sl r.num (fun q => { q with ended := true })
      let s2 := if (s1.slice sl).steps.all (fun q => q.ended) then s1.dspTo sl dspCommitting else s1
      let s3 := s2.maybeReady sl
      if sl = 0 then s3.stepCommit 0 else s3
    else s
  | _, _ => s

/-! ### Timer and registers (R160, R171, R174, R178) -/

/-- PROGRESS_TIMER_EXPIRY (R174). -/
def State.timerExpiry (s : State) (sl : Nat) : State :=
  let st := s.get (DSP_SLC_STATE_STATE sl)
  let away := (s.sliceGroups sl).any (fun g =>
    let q := s.get (DSP_GRP_STATE_STATE g)
    decide (q = grpLent ∨ q = grpSave ∨ q = grpRestore))
  if (st = dspRunning ∨ st = dspCommitting) ∧ !away then
    let s1 := (s.onSlice sl (fun x => { x with stallSt := st })).put (DSP_SLC_STATE_STATE sl) dspStalled
    (s1.dspEvent sl (DSP_SLC_EVENT_STEP_TIMEOUT sl)).openRec sl 4 sl 0
  else s

/-- RUN: a write of `RUN` (R160, R178). A slice in FAULTED stops at a write of 0; one in READY with nothing left stops too. -/
def State.runWrite (s : State) (sl : Nat) (v : Bool) : State :=
  let st := s.get (DSP_SLC_STATE_STATE sl)
  if !s.taken sl ∧ v then s.lockWr 2
  else
    let s1 := s.putB (DSP_SLC_CTRL_RUN sl) v
    if v then
      if st = dspStopped ∧ s1.get (PLN_SLICE_IMG_STATE sl) = 2 then (s1.put (DSP_SLC_STATE_STATE sl) dspReady).settleHold sl else s1
    else if st = dspFaulted ∨ (st = dspReady ∧ (s1.slice sl).steps = []) then
      ((s1.endSave sl).put (DSP_SLC_STATE_STATE sl) dspStopped).cmdDrain sl
    else if st = dspPreempted ∧ (s1.slice sl).resumeSt = dspReady then s1.onSlice sl (fun x => { x with resumeSt := dspStopped })
    else s1

/-- RETRY (R171, R178). -/
def State.retryWrite (s : State) (sl : Nat) : State :=
  if !s.taken sl then s.lockWr 2
  else if s.get (DSP_SLC_STATE_STATE sl) = dspFaulted then
    (s.cmdDrain sl).dspRestart sl
  else s

/-- CREDIT_WRITE (R161, R178). -/
def State.creditWrite (s : State) (sl : Nat) (v : Word) : State :=
  if !s.taken sl ∧ bitField v.toNat 0 16 ≠ 0 then (s.lockWr 2).noteRsvd (DSP_SLC_CREDIT_CREDIT sl).key v
  else s.writeCodes (DSP_SLC_CREDIT_CREDIT sl).key v false

/-! ### The commands -/

/-- STEP_RELEASE. -/
def execStepRelease (sl : Fin 64) (cons : Word) (s : State) : Answer := .next (s.stepRelease sl cons)
/-- SEGMENT_BEGIN. -/
def execSegmentBegin (g : Fin 64) (radio : Bool) (s : State) : Answer := .next (s.segBegin g radio)
/-- SEGMENT_END. -/
def execSegmentEnd (g : Fin 64) (radio : Bool) (s : State) : Answer := .next (s.segEnd g radio)
/-- SELECTOR_RESOLVE. -/
def execSelectorResolve (sl i : Fin 64) (s : State) : Answer := .next (s.selResolve sl i)
/-- STEP_END. -/
def execStepEnd (sl : Fin 64) (s : State) : Answer := .next (s.stepEnd sl)
/-- STEP_COMMIT. -/
def execStepCommit (sl : Fin 64) (s : State) : Answer := .next (s.stepCommit sl)
/-- PROGRESS_TIMER_EXPIRY. -/
def execProgressTimerExpiry (sl : Fin 64) (s : State) : Answer := .next (s.timerExpiry sl)
/-- RUN. -/
def execRun (sl : Fin 64) (v : Bool) (s : State) : Answer := .next (s.runWrite sl v)
/-- RETRY. -/
def execRetry (sl : Fin 64) (s : State) : Answer := .next (s.retryWrite sl)
/-- CREDIT_WRITE. -/
def execCreditWrite (sl : Fin 64) (v : Word) (s : State) : Answer := .next (s.creditWrite sl v)

end Sys2Proof.Machine
end

