-- ==== Sys2Proof/Machine/Preempt.lean ====
section
/-! DEFINITION. Full save and restore (R344 to R348) and the registers of the cyclic table (R331, R335, R336). -/

namespace Sys2Proof.Machine

/-! ### The save area (R195, R100) -/

/-- A line of 256 bytes written to a slice's save area. -/
def State.saveLine (s : State) (sl off : Nat) (data : List MByte) : State :=
  match s.translate sl .save off with
  | some da => (s.devWrite false da data).2
  | none => s

/-- A line of 256 bytes read from a slice's save area, poisoned words marked (R505). -/
def State.loadLine (s : State) (sl off : Nat) : List MByte × State :=
  match s.translate sl .save off with
  | some da =>
    let r := s.devRead false da 256 sl
    (r.1.getD (List.replicate 256 (0, true)), r.2)
  | none => (List.replicate 256 (0, true), s)

/-- The slot of a logical tile in its slice's save area (R195). -/
def saveSlot (ltile : Nat) : Nat := ltile * 776 * 1024

/-- A tile's accumulator file and tenant region written to its slot (R100, R345). -/
def State.saveTile (s : State) (sl t ltile : Nat) : State :=
  let x := s.tile t
  let acc (i : Nat) : List Byte := (List.range 64).flatMap (fun j => natToBytes 4 (mapGet (fun _ => (0 : Word)) x.cx.acc (64 * i + j)).toNat)
  let s1 := (List.range 32).foldl (fun a i => a.saveLine sl (saveSlot ltile + 256 * i) (cleanM (acc i))) s
  let s2 := (List.range (s.tenantBytes (groupOf t) / 256)).foldl (fun a i =>
    let r := a.spadRead t false (256 * i) 256
    r.2.saveLine sl (saveSlot ltile + 8192 + 256 * i) r.1) s1
  s2.onTile t (fun y => { y with keptInt := y.cx.accInt })

/-- Checksum state re-based to the accumulators (R100). -/
def rebase (kinds : SMap Bool) (c : TileCtx) : TileCtx :=
  (List.range 64).foldl (fun a r =>
    let vals := cols.map (fun n => c.accAt r n)
    if mapGet (fun _ => false) kinds r then
      { a with accInt := mapSet (fun _ => false) a.accInt r true, chkS := mapSet (fun _ => 0) a.chkS r (vals.foldl (fun p v => p + v) 0) }
    else
      { a with
        chkS := mapSet (fun _ => 0) a.chkS r (toFP32 (sumVals (vals.map ofFP32)))
        chkM := mapSet (fun _ => 0) a.chkM r (toFP32 (sumVals (vals.map (fun v => absVal (ofFP32 v))))) }) c

/-- A tile's slot written back (R100, R347). -/
def State.loadTile (s : State) (sl t ltile : Nat) : State :=
  let r := (List.range 32).foldl (fun (a : List MByte × State) i =>
    let q := a.2.loadLine sl (saveSlot ltile + 256 * i)
    (a.1 ++ q.1, q.2)) ([], s)
  let ws := chunksOf 4 2049 (bytesM r.1)
  let acc := (List.range 2048).foldl (fun m i => mapSet (fun _ => 0) m i (BitVec.ofNat 32 (bytesToNat (nth [] ws i)))) ([] : SMap Word)
  let s1 := r.2.onTile t (fun y => { y with cx := rebase y.keptInt { TileCtx.empty with acc := acc } })
  (List.range (s.tenantBytes (groupOf t) / 256)).foldl (fun a i =>
    let q := a.loadLine sl (saveSlot ltile + 8192 + 256 * i)
    let k := q.2.physRow t i
    q.2.onTile t (fun y => { y with spad := (y.spad.writeM (256 * k) q.1).1 })) s1

/-! ### Save and restore -/

/-- The bytes that a save or restore of a group moves (R345). -/
def State.saveBytes (s : State) (g : Nat) : Nat := 16 * (8192 + s.tenantBytes g)

/-- Whether a save or restore of a group that starts now ends by the group's next run, with the work before it (R345,
R346). -/
def State.saveFits (s : State) (g : Nat) : Bool :=
  if s.borrowable g then
    let ahead := ((List.range 64).filter (fun h => decide (s.get (DSP_GRP_STATE_STATE h) = grpSave ∨ s.get (DSP_GRP_STATE_STATE h) = grpRestore))).map s.saveBytes
    s.beforeRun g (2000 + (s.saveBytes g + ahead.sum + 3989) / 3990)
  else true

/-- A group's place in the order in which saves and restores are served (R345): borrowable groups, group saves for replay, then
slices by descending `PRIO` and ascending number. -/
def State.saveRank (s : State) (g : Nat) : Nat :=
  let sl := s.get (DSP_GRP_STATE_SLICE g)
  if s.borrowable g then 0 else if (s.group g).saveFor.isSome then 1 else 2 + 64 * (7 - s.get (DSP_SLC_SAVE_PRIO sl)) + sl

/-- Whether no save or restore under way is served before a group's (R345). -/
def State.saveTurn (s : State) (g : Nat) : Bool :=
  (List.range 64).all (fun h => decide (s.saveRank g ≤ s.saveRank h
    ∨ (s.get (DSP_GRP_STATE_STATE h) ≠ grpSave ∧ s.get (DSP_GRP_STATE_STATE h) ≠ grpRestore)))

/-- Replays that run on groups of a slice start again elsewhere, and the groups go back to it (R513). -/
def State.returnBorrowed (s : State) (sl : Nat) : State :=
  let gone := s.integ.replays.filter (fun r => decide (r.borrow = some sl))
  let rs := s.integ.replays.filter (fun r => decide (r.borrow ≠ some sl))
  gone.foldl (fun (a : State) r => a.releaseTarget r) { s with integ := { s.integ with replays := rs } }

/-- SAVE (R344, R467). Slice 0, whose groups are never saved (R312), is refused (DEDUCED, log entry 117). -/
def State.saveWrite (s : State) (sl : Nat) : State :=
  let st := s.get (DSP_SLC_STATE_STATE sl)
  if sl = 0 ∨ !s.taken sl ∨ st = dspStopped ∨ st = dspFaulted ∨ st = dspPreempted ∨ s.sealedSlice sl then s.lockWr 2
  else (s.returnBorrowed sl).put (DSP_SLC_SAVE_SAVE_PEND sl) 1

/-- Whether every mover operation that a group's tiles issued for a tenant has ended (R344). -/
def State.groupQuiet (s : State) (g : Nat) : Bool :=
  (groupTiles g).all (fun t => (((s.tile t).ctxs.filterMap (fun p => p.2)) ++ (s.tile t).mvq).all (fun o => decide (o.slice = 0)))

/-- GROUP_SAVE_BEGIN (R344, R346). A slice in HELD begins saving only when WRITE has ended. -/
def State.groupSaveBegin (s : State) (g : Nat) : State :=
  let sl := s.get (DSP_GRP_STATE_SLICE g)
  let st := s.get (DSP_GRP_STATE_STATE g)
  if ((s.flag (DSP_SLC_SAVE_SAVE_PEND sl) ∧ s.get (DSP_SLC_STATE_STATE sl) ≠ dspHeld) ∨ (s.group g).saveFor.isSome) ∧ (s.sliceGroups sl).contains g
      ∧ (st = grpBoundary ∨ st = grpIdle) ∧ !(s.group g).running ∧ s.groupQuiet g ∧ s.saveFits g then
    s.setGroupState g grpSave modeSave
  else s

/-- GROUP_SAVED (R344, R345, R160): in its turn a group's slots are written, and the slice is PREEMPTED once all its groups are
SAVED, one that is lent included (R343). -/
def State.groupSaved (s : State) (g : Nat) : State :=
  if s.get (DSP_GRP_STATE_STATE g) ≠ grpSave ∨ !s.saveTurn g ∨ !s.tiersOpen then s
  else
    let sl := s.get (DSP_GRP_STATE_SLICE g)
    let lg := (s.lgroupOn sl g).getD 0
    let s1 := (List.range 16).foldl (fun a p => a.saveTile sl (tileAt g p) (16 * lg + p)) s
    let s2 := ((s1.setGroupState g grpSaved modeIdle).put (DSP_GRP_GUARD_INTACT g) 1).onGroup g (fun r => { r with idleAt := s.raw })
    let s3 := if s2.flag (DSP_SLC_SAVE_SAVE_PEND sl) ∧ s2.flag (DSP_SLC_SAVE_SAVE_OFF sl) then
        (s2.powerOffGroup g).put (DSP_GRP_GUARD_INTACT g) 0 else s2
    let s4 := s3.refreshSaved sl
    if s4.flag (DSP_SLC_SAVE_SAVE_PEND sl) ∧ (s4.sliceGroups sl).all (fun h => decide (s4.ownState h = grpSaved)) then
      let cur := s4.get (DSP_SLC_STATE_STATE sl)
      let back := if cur = dspStalled then (s4.slice sl).stallSt else cur
      ((s4.onSlice sl (fun x => { x with resumeSt := back })).put (DSP_SLC_STATE_STATE sl) dspPreempted).put (DSP_SLC_SAVE_SAVE_PEND sl) 0
    else s4

/-- A SAVED group that is to be restored begins, once it fits before the group's next run (R346, R347). -/
def State.beginRestore (s : State) (g : Nat) : State :=
  if s.get (DSP_GRP_STATE_STATE g) = grpSaved ∧ (s.group g).restoring ∧ s.saveFits g then
    (s.powerOnGroup g).setGroupState g grpRestore modeSave
  else s

/-- RESTORE (R347). -/
def State.restoreWrite (s : State) (sl : Nat) : State :=
  if s.get (DSP_SLC_STATE_STATE sl) ≠ dspPreempted then s.lockWr 2
  else (s.sliceGroups sl).foldl (fun a g => (a.onGroup g (fun r => { r with restoring := true })).beginRestore g) s

/-- GROUP_RESTORED (R345, R347, R348): a group whose restore had to wait begins; one in RESTORE has its slots written back in its
turn, and the slice resumes when none is left. -/
def State.groupRestored (s : State) (g : Nat) : State :=
  if s.get (DSP_GRP_STATE_STATE g) ≠ grpRestore then s.beginRestore g
  else if !s.saveTurn g ∨ !s.tiersOpen then s
  else
    let sl := s.get (DSP_GRP_STATE_SLICE g)
    let lg := (s.lgroupOn sl g).getD 0
    let s1 := (List.range 16).foldl (fun a p => a.loadTile sl (tileAt g p) (16 * lg + p)) s
    let s2 := (s1.setGroupState g grpBoundary modeTenant).put (DSP_GRP_GUARD_INTACT g) 0
    let s3 := s2.onGroup g (fun r =>
      let q := { r with restoring := false, resume := true, saveFor := none, keptAt := none }
      match r.keptAt with
      | some (st, sg, b) => { q with step := st, seg := sg, begun := b }
      | none => q)
    let s4 := s3.refreshSaved sl
    let left := (s4.sliceGroups sl).any (fun h =>
      decide (s4.ownState h = grpSaved ∨ s4.ownState h = grpRestore))
    if s4.get (DSP_SLC_STATE_STATE sl) = dspPreempted ∧ !left then (s4.put (DSP_SLC_STATE_STATE sl) (s4.slice sl).resumeSt).settleHold sl
    else s4

/-- GROUP_RETURN (R341): a return that is due, once slice 0's last segment has ended. -/
def State.groupReturn (s : State) (g : Nat) : State :=
  if (s.group g).retPend ∧ !(s.group g).rrunning then s.giveBack g else s

/-! ### The cyclic table -/

/-- Whether a record has a reserved bit set (R332). -/
def State.winReserved (s : State) (b j : Nat) : Bool :=
  decide (s.winWord b j 6 / 2 ^ 22 ≠ 0 ∨ s.winWord b j 7 / 2 ^ 9 ≠ 0)

/-- Whether a record names a group that is absent or not marked (R335). -/
def State.winBadGroup (s : State) (b j : Nat) : Bool :=
  (List.range 64).any (fun g => s.winNames b j g && !(s.present g && s.marked g))

/-- The first failure of a bank: its code and window (R335). -/
def State.bankErr (s : State) (b : Nat) : Option (Nat × Nat) :=
  if !s.live 0 then some (1, 0)
  else
    match (List.range 1280).find? (fun j => s.winReserved b j) with
    | some j => some (2, j)
    | none =>
      match (List.range 1280).find? (fun j => s.winBadGroup b j) with
      | some j => some (3, j)
      | none =>
        if 8 < ((List.range 64).filter s.borrowable).length then some (4, 0)
        else if s.flag DSP_CYC_CTRL_PEND then some (5, 0)
        else none

/-- The inactive bank becomes active (R335). -/
def State.bankFlip (s : State) : State :=
  (((s.put DSP_CYC_CTRL_ACTIVE (1 - s.get DSP_CYC_CTRL_ACTIVE)).put DSP_CYC_CTRL_PEND 0).refreshGuards).cycEvent DSP_CYC_EVENT_SWITCHED

/-- SWITCH (R335). -/
def State.cycSwitch (s : State) : State :=
  match s.bankErr (1 - s.get DSP_CYC_CTRL_ACTIVE) with
  | some e => (s.put DSP_CYC_CTRL_ERR e.1).put DSP_CYC_CTRL_ERR_WIN e.2
  | none =>
    let near := decide (10000000 * 2 ^ 32 - s.inFrame < 10000 * 2 ^ 32)
    let s1 : State := { s with cyc := { s.cyc with valid := true, skip := near } }
    if s.flag DSP_CYC_CTRL_EN then s1.put DSP_CYC_CTRL_PEND 1 else s1.bankFlip

/-- CYC_EN (R336, R563): `EN` 1 puts the table in force from the next frame; `EN` 0 takes effect at the next window start. -/
def State.cycEn (s : State) (v : Bool) : State :=
  if v then
    if !s.live 0 ∨ !s.cyc.valid then s.put DSP_CYC_CTRL_ERR 1
    else s.put DSP_CYC_CTRL_EN 1
  else s.put DSP_CYC_CTRL_EN 0

/-- CYC_WIN_WRITE (R331). -/
def State.cycWinWrite (s : State) (b j w : Nat) (v : Word) : State :=
  if b = s.get DSP_CYC_CTRL_ACTIVE ∨ s.flag DSP_CYC_CTRL_PEND then s.lockWr 2
  else s.put (DSP_CYC_WIN_WORD b j w) v.toNat

/-! ### The commands -/

/-- SAVE. -/
def execSave (sl : Fin 64) (s : State) : Answer := .next (s.saveWrite sl)
/-- GROUP_SAVE_BEGIN. -/
def execGroupSaveBegin (g : Fin 64) (s : State) : Answer := .next (s.groupSaveBegin g)
/-- GROUP_SAVED. -/
def execGroupSaved (g : Fin 64) (s : State) : Answer := .next (s.groupSaved g)
/-- RESTORE. -/
def execRestore (sl : Fin 64) (s : State) : Answer := .next (s.restoreWrite sl)
/-- GROUP_RESTORED. -/
def execGroupRestored (g : Fin 64) (s : State) : Answer := .next (s.groupRestored g)
/-- GROUP_RETURN. -/
def execGroupReturn (g : Fin 64) (s : State) : Answer := .next (s.groupReturn g)
/-- SWITCH. -/
def execSwitch (s : State) : Answer := .next s.cycSwitch
/-- CYC_EN. -/
def execCycEn (v : Bool) (s : State) : Answer := .next (s.cycEn v)
/-- CYC_WIN_WRITE. -/
def execCycWinWrite (b : Fin 2) (j : Fin 1280) (w : Fin 8) (v : Word) (s : State) : Answer := .next (s.cycWinWrite b j w v)

end Sys2Proof.Machine
end

