-- ==== Sys2Proof/Machine/CyclicWindow.lean ====
section
/-! DEFINITION. The start of a window of the cyclic table (R333 to R343) and the outcome of a neural stage (R299, R300). -/

namespace Sys2Proof.Machine

/-- What the cyclic table did before a window start: whether it was in force, the bank then active, and the last window. -/
structure CycPast where
  force : Bool
  bank  : Nat
  last  : Option Nat

/-- Whether the window before named group `g`. -/
def State.wasNamed (s : State) (p : CycPast) (g : Nat) : Bool :=
  p.force && (match p.last with | some k => s.winNames p.bank k g | none => false)

/-- The stage that a window's record names. -/
def State.winStage (s : State) (b j : Nat) : Option Nat :=
  let w := s.winWord b j 7
  if w / 256 % 2 = 1 then some (w % 256) else none

/-! ### Lending and returning (R340 to R343) -/

/-- A borrowable group at a window start: lent in its run, returned after it (R334, R341 to R343). With `flipped` the run of the
old bank has ended and one of the new bank may begin. -/
def State.windowGroup (p : CycPast) (flipped : Bool) (j : Nat) (s : State) (g : Nat) : State :=
  let lent := decide (s.get (DSP_GRP_STATE_STATE g) = grpLent)
  let was := s.wasNamed p g
  let named := s.winNames (s.get DSP_CYC_CTRL_ACTIVE) j g
  let ran := lent && was && (flipped || !named) && !(s.group g).retPend && (s.group g).rrunning
  let s1 := if ran then ((s.cycEvent DSP_CYC_EVENT_OVERRUN).tally DSP_CYC_OVERRUNS).openRec g (g / 16) 0 0 else s
  if named then
    if !s1.quarantined g then s1.lendGroup g
    else if flipped || !was then s1.cycEvent DSP_CYC_EVENT_SKIP
    else s1
  else if lent && was && !(s.group g).retPend && s1.beforeRun g (s1.guardNs g + 4000) then s1.onGroup g (fun r => { r with retPend := true })
  else s1

/-! ### Stages (R299) -/

/-- What a stage that window `j` begins comes to so far: NOT_ARMED (not armed 1 µs before the window's start), NOT_RUN, or that
it runs (R299, R300). -/
def State.stageStart (s : State) (b j st : Nat) : Nat :=
  let gs := (List.range 64).filter (fun g => s.winNames b j g)
  if !s.flag (BBA_NRX_ARMED st) ∨ s.raw + j * (15625 * 2 ^ 31) < mapGet (fun _ => 0) s.radio.armedAt st + 1000 * 2 ^ 32 + s.inFrame then 2
  else if gs.any (fun g => !s.present g || s.quarantined g || !s.marked g) ∨ s.get (PLN_SLICE_IMG_STATE 0) ≠ 2 then 3
  else 1

/-- The stages whose windows have ended by the start of window `j` (R332): a stage that runs is held as its result and 8 times
its first window plus 1, one that has ended as its result. -/
def State.endStages (s : State) (p : CycPast) (all : Bool) (j : Nat) : State :=
  s.onRadio (fun r => { r with stageRes := r.stageRes.map (fun (e : Nat × Nat) =>
    if e.2 < 8 then e
    else if all || !(List.range 64).any (fun g => s.winNames p.bank (e.2 / 8 - 1) g && s.winNames p.bank j g) then (e.1, e.2 % 8)
    else e) })

/-- The stage that window `j` begins, if it begins one: a stage whose windows last begins no other in the same run (R332). -/
def State.beginStage (s : State) (j : Nat) : State :=
  let b := s.get DSP_CYC_CTRL_ACTIVE
  match s.winStage b j with
  | none => s
  | some st =>
    if 8 ≤ mapGet (fun _ => 0) s.radio.stageRes st then s
    else
      let r := s.stageStart b j st
      let s1 := s.onRadio (fun x => { x with stageRes := mapSet (fun _ => 0) x.stageRes st (r + 8 * (j + 1)) })
      if r = 1 then
        ((List.range 64).filter (fun g => s1.winNames b j g)).foldl (fun a g => a.onGroup g (fun x => { x with stage := some st, det := false })) s1
      else s1

/-! ### The window start -/

/-- The borrowable groups whose run starts within three windows, the first whole number of windows from 20 µs, powered on (R340),
and the clusters marked `LEAD_US` ahead (R283); before the table comes into force too, for the frame in which it does. -/
def State.wakeAhead (s : State) : State :=
  let s1 := (List.range 64).foldl (fun (a : State) g =>
    if a.borrowable g && !a.quarantined g && (List.range 4).any (a.winAhead g) then a.powerOnGroup g else a) s
  let lead := (s1.get BBA_WAKE_CFG_LEAD_US * 2000 + 15624) / 15625
  (List.range 128).foldl (fun (a : State) c =>
    if !a.clusterOn c && (List.range (lead + 1)).any (a.markAhead c) then
      (a.clusterPowerOn c).onCluster c (fun x => { x with ahead := true })
    else a) s1

/-- A window start while the table is in force (R333): tasks, groups, stages, the groups lent next and the clusters marked ahead. -/
def State.windowWork (s : State) (p : CycPast) (flipped : Bool) (j : Nat) : State :=
  let b := s.get DSP_CYC_CTRL_ACTIVE
  let w6 := s.winWord b j 6
  let s1 := if w6 / 2 ^ 10 % 2 = 1 then s.queueTask (w6 % 2 ^ 10) else s
  let s2 := if w6 / 2 ^ 21 % 2 = 1 then s1.queueTask (w6 / 2 ^ 11 % 2 ^ 10) else s1
  let s3 := ((List.range 64).filter s2.borrowable).foldl (State.windowGroup p flipped j) s2
  let s4 := (s3.beginStage j).wakeAhead
  ((List.range 128).filter (s4.winMarks b j)).foldl (fun (a : State) c => a.onCluster c (fun x => { x with ahead := false })) s4

/-- CYCLIC_WINDOW_START: the window that T lies in starts, once, or again after a backward step of time (R333, R335, R336,
R351). -/
def State.windowStart (s : State) : State :=
  let j := s.windowNow
  let c := s.cyc
  if !s.time.counts ∨ (c.lastWin = some j ∧ !c.again) then s
  else
    let p : CycPast := ⟨c.force, s.get DSP_CYC_CTRL_ACTIVE, c.lastWin⟩
    let flipped := decide (j = 0) && s.flag DSP_CYC_CTRL_PEND && !c.skip
    let en := s.flag DSP_CYC_CTRL_EN
    let s1 := s.endStages p (flipped || !en) j
    let s2 := if flipped then s1.bankFlip else s1
    let force := en && (c.force || decide (j = 0))
    let s3 : State := { s2 with cyc := { s2.cyc with lastWin := some j, again := false, skip := c.skip && decide (j ≠ 0), force := force } }
    if force then s3.windowWork p flipped j
    else if c.force then
      (List.range 64).foldl (fun a g => if a.get (DSP_GRP_STATE_STATE g) = grpLent then a.onGroup g (fun r => { r with retPend := true }) else a) s3
    else s3.wakeAhead

/-- STAGE_OUTCOME (R300): the outcome of a stage whose windows have ended. -/
def State.stageOutcome (s : State) (st : Nat) : State :=
  let r := mapGet (fun _ => 0) s.radio.stageRes st
  if r = 0 ∨ 8 ≤ r then s
  else
    let gs := (List.range 64).filter (fun g => decide ((s.group g).stage = some st))
    let o := if r = 1 ∧ gs.any (fun g => (s.group g).det) then 4 else r
    let s1 := s.onRadio (fun x => { x with stageRes := mapSet (fun _ => 0) x.stageRes st 0 })
    let s2 := gs.foldl (fun a g => a.onGroup g (fun x => { x with stage := none })) s1
    let s3 := (s2.put (BBA_NRX_LAST st) o).put (BBA_NRX_ARMED st) 0
    (s3.queueTask (if o = 1 then s3.get (BBA_NRX_T_OK st) else s3.get (BBA_NRX_T_FB st))).notify none (some st) 1 (some o)

/-- CYCLIC_WINDOW_START. -/
def execCyclicWindowStart (s : State) : Answer := .next s.windowStart
/-- STAGE_OUTCOME. -/
def execStageOutcome (st : Fin 256) (s : State) : Answer := .next (s.stageOutcome st)

end Sys2Proof.Machine
end

