-- ==== Sys2Proof/Machine/DravselPorts.lean ====
section
/-! DEFINITION. Dravsel ports (R354 to R358), forwarding (R367, R395), commit messages (R170, R379) and membership epochs
(R397 to R405). -/

namespace Sys2Proof.Machine

/-! ### Ports -/

/-- The state of a port set. -/
def State.setPort (s : State) (p st : Nat) : State := s.put (DRV_PORT_STATUS_STATE p) st

/-- Whether a port's domain is on (R528). -/
def State.drpOn (s : State) (p : Nat) : Bool := decide (s.get PWR_DOM_DRP_ON / 2 ^ p % 2 = 1)

/-- An UP port goes to state `st`: its replay buffer is dropped, and requests whose last attempt used it are sent again at once, in the
order of their channels (R355, R357, R391, R393). -/
def State.leaveUp (s : State) (p cause st : Nat) : State :=
  if !s.portUp p then s
  else
    let s1 := ((((s.onPortLink p (fun l => { l with replay := [] })).setPort p st).put (DRV_PORT_STATUS_CAUSE p) cause).put (DRV_PORT_STATUS_DOWN_EVT p) 1).drvEvent DRV_EVENT_PORT_DOWN
    let lost := egressOrder Pend.pkt 255 (s1.drv.pend.filter (fun x => decide (x.port = some p)))
    (lost.foldl (fun a x => a.nextAttempt x) s1).portsChanged s

/-- Forwarded packets that waited for a port leave, by the channels of each port (R355, R367); a part that is not admitted forwards
nothing (R400). -/
def State.drainFwd (s : State) : State :=
  if !s.admitted then s
  else (List.range 12).foldl (fun a port => a.transmitAll port (s.drv.fwd.filter (fun p => decide (s.choosePort p 0 = some port))))
    (s.onDrv (fun r => { r with fwd := r.fwd.filter (fun p => decide (s.choosePort p 0 = none)) }))

/-- DRV_PORT_ENABLE (R356): a write of `DRV_PORT_CTRL_`. -/
def State.portEnable (s : State) (p : Nat) (v : Word) : State :=
  if !s.drpOn p then s.put (fPwrOff (blkStatus 0xb)) 1
  else
    let s1 := s.writeCodes (DRV_PORT_CTRL_EN p).key v false
    if !v.getLsbD 0 then (s1.leaveUp p 0 drpDisabled).setPort p drpDisabled
    else if s1.get (DRV_PORT_STATUS_STATE p) = drpDisabled then s1.setPort p drpTrain
    else s1

/-- RETRAIN (R358): the port goes down under R357 and trains again. -/
def State.retrain (s : State) (p : Nat) : State :=
  if !s.drpOn p then s.put (fPwrOff (blkStatus 0xb)) 1
  else if !s.flag (DRV_PORT_CTRL_EN p) then s
  else (s.leaveUp p 0 drpDown).setPort p drpTrain

/-- DRV_PORT_TRAINED (R356): the peer reports its device and port. -/
def State.portTrained (s : State) (p dev port : Nat) : State :=
  if s.get (DRV_PORT_STATUS_STATE p) ≠ drpTrain ∨ !s.flag (DRV_PORT_CTRL_EN p) then s
  else
    let s1 := ((s.put (DRV_PORT_STATUS_SEEN_DEV p) dev).put (DRV_PORT_STATUS_SEEN_PORT p) port).put (DRV_PORT_EYE_VALID p) 0
    if s1.flag (DRV_PORT_PEER_EXPECT p) ∧ (s1.get (DRV_PORT_PEER_DEV p) ≠ dev ∨ s1.get (DRV_PORT_PEER_PORT p) ≠ port) then
      ((s1.setPort p drpFault).put (DRV_PORT_STATUS_CAUSE p) 4).drvEvent DRV_EVENT_PEER_MISMATCH
    else
      let s2 := ((s1.setPort p drpUp).put (DRV_PORT_STATUS_UP_EVT p) 1).drvEvent DRV_EVENT_PORT_UP
      ((s2.portsChanged s).drainFwd).drainDeferred

/-- DRV_TRAIN_TIMEOUT (R356). -/
def State.trainTimeout (s : State) (p : Nat) : State :=
  if s.get (DRV_PORT_STATUS_STATE p) = drpTrain then (s.setPort p drpFault).put (DRV_PORT_STATUS_CAUSE p) 5 else s

/-- DRV_AUTO_RETRY (R356). -/
def State.autoRetry (s : State) (p : Nat) : State :=
  let st := s.get (DRV_PORT_STATUS_STATE p)
  if s.flag (DRV_PORT_CTRL_EN p) ∧ s.flag (DRV_PORT_CTRL_AUTO p) ∧ (st = drpDown ∨ st = drpFault) then s.setPort p drpTrain else s

/-- LINK_RETRY (R354): `fec` where FEC could not correct the codeword. -/
def State.linkRetry (s : State) (p : Nat) (fec : Bool) : State :=
  if !s.portUp p then s
  else
    (if fec then s.tally (DRV_PORT_FECUE p) else s).linkAgain p

/-- LINK_RETRY_EXHAUSTED (R357, R390). -/
def State.retryExhausted (s : State) (p : Nat) : State :=
  if s.portUp p then (s.fire 89 p 4 0 0).leaveUp p 2 drpDown else s

/-! ### Forwarding (R367, R395, R398, R400) -/

/-- PACKET_FORWARD. -/
def State.forward (s : State) (port : Nat) (ok : Bool) (p : Packet) : State :=
  if p.dst = s.self then s
  else
    let r := s.takeIn (some port) ok p
    match r.1 with
    | none => r.2
    | some s1 =>
      if !s1.admitted then s1.stale
      else if p.hops = 0 then (s1.tally DRV_TTL).drvEvent DRV_EVENT_TTL_DROP
      else if s1.member p.dst = memFenced then s1
      else
        let q : Packet := { p with hops := p.hops - 1 }
        match s1.choosePort q 0 with
        | some out => s1.transmit out q
        | none => s1.onDrv (fun d => { d with fwd := d.fwd ++ [q] })

/-- FORWARD_QUEUE_TIMEOUT: packet `k` of the forwarding queue has waited 50 µs (R395). -/
def State.fwdTimeout (s : State) (k : Nat) : State :=
  if k < s.drv.fwd.length then (s.onDrv (fun d => { d with fwd := d.fwd.eraseIdx k })).stale else s

/-! ### Commit messages (R170, R379) -/

/-- The slice that a commit message is for. -/
def State.ctrlSlice (s : State) (p : Packet) : Option Nat :=
  (List.range 64).find? (fun sl => s.taken sl && decide (p.mgroup ≠ 0 ∧ s.get (DSP_SLC_CTRL_COMMIT_MGROUP sl) = p.mgroup)
    && (s.mcast p.mgroup).contains p.src)

/-- A commit message applied and answered. -/
def State.ctrlServe (s : State) (p : Packet) (f : State → Nat → Nat → State) : State :=
  match s.ctrlSlice p with
  | none => s.drvEvent DRV_EVENT_CTRL_DROP
  | some sl =>
    let s1 := match s.tagStep sl p.step with
      | some n => f s sl n
      | none => s
    s1.fabFinish p (.ok [])

/-- A commit message received. -/
def State.recvCtrl (s : State) (code : Nat) (port : Option Nat) (ok : Bool) (p : Packet) (f : State → Nat → Nat → State) : State :=
  if p.typ = pktCtrl ∧ p.code = code then
    s.onPacket port ok p (fun a => a.epochChecked p (fun b =>
      if b.member p.src ≠ memLive then b.drvEvent DRV_EVENT_CTRL_DROP else b.ctrlServe p f))
  else s

/-- A member has reported a step ready. -/
def State.noteReady (s : State) (src sl n : Nat) : State :=
  s.onStepRec sl n (fun r => { r with ready := if r.ready.contains src then r.ready else r.ready ++ [src] })

/-! ### Epochs -/

/-- Whether a mover operation has a fabric target in a set of devices (R175). -/
def State.opTargets (s : State) (fenced : Nat → Bool) (o : MvOp) : Bool :=
  decide (7 ≤ o.desc.op.toNat ∧ o.desc.op.toNat ≤ 11) &&
    (if o.bkey.isSome then o.bdst else s.fabBases o.desc).any (fun a => fenced (fabDev a))

/-- Whether a slice's uncommitted steps are aborted when a set of devices is fenced (R175). A step that is discarded and to be
run again, or whose operations are still under way, is uncommitted (R156, R176). -/
def State.abortHits (s : State) (sl : Nat) (fenced : Nat → Bool) (selfOut : Bool) : Bool :=
  (decide ((s.slice sl).steps ≠ [] ∨ (s.slice sl).rerun ≠ 0) || s.stranded sl) &&
    ((s.commitGroup sl).any (fun d => decide (d ≠ s.self) && fenced d) ||
      (s.sliceGroups sl).any (fun g => (groupTiles g).any (fun t =>
        (((s.tile t).ctxs.filterMap (fun p => p.2)) ++ (s.tile t).mvq).any (fun o => decide (o.slice = sl)
          && s.opTargets (fun d => fenced d || selfOut) o))))

/-- An epoch abort of a slice (R175, R348, R349, R401). -/
def State.epochAbort (s : State) (sl : Nat) : State :=
  let n := ((s.slice sl).steps.head?.map (fun (r : StepRt) => r.num)).getD (s.slice sl).nextRelease
  let s1 := s.discardWith sl n true
  let s2 := (s1.sliceGroups sl).foldl (fun a g => (groupTiles g).foldl (fun b t => b.onTile t (fun x =>
    if x.run.radio ∧ sl ≠ 0 then { x with saved := none } else clearContext x)) a) s1
  let s2a := if s2.get (DSP_SLC_STATE_STATE sl) = dspPreempted then s2 else s2.endSave sl
  let s3 := s2a.onSlice sl (fun x => { x with rerun := 0, abortAt := some s.raw })
  ((if s3.get (DSP_SLC_STATE_STATE sl) = dspPreempted then s3.dspTo sl dspStopped else s3.put (DSP_SLC_STATE_STATE sl) dspStopped)
    |>.put (DSP_SLC_STATE_CAUSE sl) 5).dspEvent sl (DSP_SLC_EVENT_EPOCH_ABORT sl)

/-- The transport of a device that has been fenced: requests to it and requests of it that wait dropped, windows and counters cleared (R398,
R400, R402; log entry 130). -/
def State.fenceDevice (s : State) (d : Nat) : State :=
  let gone := (s.drv.pend.map (fun x => (x.pkt.dst, x.origin))) ++ (s.drv.waitq.map (fun x => (x.pkt.dst, x.origin)))
  let defs := (gone.filter (fun x => decide (x.1 = d) && (match x.2 with | .deferred _ => true | _ => false))).length
  let s1 := s.onDrv (fun r => { r with
    pend := r.pend.filter (fun x => decide (x.pkt.dst ≠ d)), waitq := r.waitq.filter (fun x => decide (x.pkt.dst ≠ d))
    fwd := r.fwd.filter (fun p => decide (p.dst ≠ d))
    wins := (r.wins.filter (fun w => decide (w.1 / 2 ≠ d)))
    hold := r.hold.filter (fun h => decide (h.pkt.src ≠ d)), gated := r.gated.filter (fun h => decide (h.pkt.src ≠ d))
    reorder := r.reorder.filter (fun h => decide (h.pkt.src ≠ d))
    ctrlSeq := r.ctrlSeq.filter (fun c => decide (c.1 ≠ d)) })
  let s2 := ((s1.put (DRV_DEST_SEQ_NEXT d) 0).put (DRV_DEST_STATUS_SUSPECT d) 0).refreshDest d
  (List.range defs).foldl (fun a _ => a.deferDrop) s2

/-- Windows and counters of a device that joins start anew (R398). -/
def State.joinDevice (s : State) (d : Nat) : State :=
  (s.onDrv (fun r => { r with
    wins := (r.wins.filter (fun w => decide (w.1 / 2 ≠ d)))
    ctrlSeq := r.ctrlSeq.filter (fun c => decide (c.1 ≠ d)) })).put (DRV_DEST_SEQ_NEXT d) 0

/-- The redirect entries that the registers hold (R405). -/
def State.redirTable (s : State) : List Redir :=
  ((List.range 64).filter (fun j => s.flag (DRV_REDIR_CFG_VALID j))).map (fun j =>
    ⟨s.get (DRV_REDIR_CFG_OLD_DEV j), s.get (DRV_REDIR_SRC_REG_BASE j), s.get (DRV_REDIR_SRC_COUNT j), s.get (DRV_REDIR_DST_NEW_DEV j),
      s.get (DRV_REDIR_DST_NEW_BASE j)⟩)

/-- An accepted epoch takes effect (R398, R175, R402). -/
def State.epochApply (s : State) (e : Nat) : State :=
  let b := 1 - s.get DRV_EPOCH_BANK
  let had := s.flag DRV_EPOCH_VALID
  let old (d : Nat) : Nat := if had then s.member d else memFenced
  let devs := List.range 4096
  let newSt (d : Nat) : Nat := s.memberIn b d
  let me := s.self
  let outNow := decide (newSt me = memFenced)
  let fenced (d : Nat) : Bool := decide (old d ≠ memFenced ∧ newSt d = memFenced)
  let hit := (List.range 64).filter (fun sl => s.abortHits sl (fun d => fenced d || (outNow && decide (d ≠ me))) outNow)
  let s1 := (((s.put DRV_EPOCH_BANK b).put DRV_EPOCH_EPOCH e).put DRV_EPOCH_VALID 1).putB DRV_EPOCH_ADMITTED (!outNow)
  let s2 := devs.foldl (fun a d =>
    if old d = newSt d then a
    else
      let a1 := a.put (DRV_DEST_STATUS_MEMBER d) (newSt d)
      if newSt d = memFenced then a1.fenceDevice d else if old d = memFenced then a1.joinDevice d else a1) s1
  let s3 := hit.foldl (fun a sl => a.epochAbort sl) s2
  let s4 := s3.onDrv (fun r => { r with redir := s.redirTable })
  ((s4.drvEvent DRV_XPORT_EVENT_EPOCH_APPLIED).drainDeferred).salReport 5 (natToBytes 2 e)

/-- APPLY (R397): a write of `DRV_EPOCH_NEXT`. -/
def State.applyWrite (s : State) (v : Word) : State :=
  let s1 := s.writeCodes DRV_EPOCH_NEXT_EPOCH.key v false
  if !v.getLsbD 17 then s1
  else
    let e := s1.get DRV_EPOCH_NEXT_EPOCH
    let b := 1 - s1.get DRV_EPOCH_BANK
    let num := decide (e = (s1.get DRV_EPOCH_EPOCH + 1) % 2 ^ 16) || (!s1.flag DRV_EPOCH_VALID && s1.flag DRV_EPOCH_NEXT_FIRST)
    if num ∧ (List.range 4096).all (fun d => decide (s1.memberIn b d ≠ 3)) then s1.epochApply e
    else s1.drvEvent DRV_XPORT_EVENT_EPOCH_ERR

/-- SELF_WRITE (R381). -/
def State.selfWrite (s : State) (v : Word) : State :=
  if (List.range 12).all (fun p => decide (s.get (DRV_PORT_STATUS_STATE p) ≤ drpDown)) then s.writeCodes DRV_SELF_DEV.key v false
  else (s.lockWr 0xb).noteRsvd DRV_SELF_DEV.key v

/-! ### The commands -/

/-- DRV_PORT_ENABLE. -/
def execDrvPortEnable (p : Fin 12) (v : Word) (s : State) : Answer := .next (s.portEnable p v)
/-- RETRAIN. -/
def execRetrain (p : Fin 12) (s : State) : Answer := .next (s.retrain p)
/-- DRV_PORT_TRAINED. -/
def execDrvPortTrained (p : Fin 12) (dev : Fin 4096) (port : Fin 16) (s : State) : Answer := .next (s.portTrained p dev port)
/-- DRV_TRAIN_TIMEOUT. -/
def execDrvTrainTimeout (p : Fin 12) (s : State) : Answer := .next (s.trainTimeout p)
/-- DRV_AUTO_RETRY. -/
def execDrvAutoRetry (p : Fin 12) (s : State) : Answer := .next (s.autoRetry p)
/-- DRV_PORT_DOWN: the lanes have lost lock (R357). -/
def execDrvPortDown (p : Fin 12) (s : State) : Answer := .next (s.leaveUp p 1 drpDown)
/-- DRV_SILENCE_TIMEOUT: 10 µs without a received flit (R357). -/
def execDrvSilenceTimeout (p : Fin 12) (s : State) : Answer := .next (s.leaveUp p 3 drpDown)
/-- LINK_RETRY. -/
def execLinkRetry (p : Fin 12) (fec : Bool) (s : State) : Answer := .next (s.linkRetry p fec)
/-- LINK_RETRY_EXHAUSTED. -/
def execLinkRetryExhausted (p : Fin 12) (s : State) : Answer := .next (s.retryExhausted p)
/-- IDLE_FLIT (R354). -/
def execIdleFlit (p : Fin 12) (s : State) : Answer := .next (if s.portUp p then s.sendFlit p none else s)
/-- CTRL_READY. -/
def execCtrlReady (port : Option (Fin 12)) (ok : Bool) (p : Packet) (s : State) : Answer :=
  .next (s.recvCtrl ctrlReady (port.map Fin.val) ok (packetFit p) (fun a sl n => a.noteReady (packetFit p).src sl n))
/-- CTRL_RERUN. -/
def execCtrlRerun (port : Option (Fin 12)) (ok : Bool) (p : Packet) (s : State) : Answer :=
  .next (s.recvCtrl ctrlRerun (port.map Fin.val) ok (packetFit p) (fun a sl n => a.rerunSteps sl n false))
/-- PACKET_FORWARD. -/
def execPacketForward (port : Fin 12) (ok : Bool) (p : Packet) (s : State) : Answer := .next (s.forward port ok (packetFit p))
/-- FORWARD_QUEUE_TIMEOUT. -/
def execForwardQueueTimeout (k : Fin 8192) (s : State) : Answer := .next (s.fwdTimeout k)
/-- APPLY. -/
def execApply (v : Word) (s : State) : Answer := .next (s.applyWrite v)
/-- SELF_WRITE. -/
def execSelfWrite (v : Word) (s : State) : Answer := .next (s.selfWrite v)
/-- DRV_INJECT_ARM (R382). -/
def execDrvInjectArm (v : Word) (s : State) : Answer :=
  .next ((s.writeCodes DRV_INJECT_ARM.key v false).putIf (v.getLsbD 31) DRV_INJECT_ARM 1)

end Sys2Proof.Machine
end

