-- ==== Sys2Proof/Machine/ChannelCode.lean ====
section
/-! DEFINITION. The coding of the radio helpers: cyclic redundancy checks, scrambling, the LDPC and polar chains of 3GPP TS 38.212
(R290, R291), and the passes of a Fourier transform (R289). The manual names the standard; its chains are written here as the standard
gives them (PRESUMED, log entry 5). Its tables that are not written out, and the inner arithmetic that the manual leaves open, are
constants of Config without a body. -/

namespace Sys2Proof.Machine

/-! ### Bits, checks and scrambling -/

/-- The first `n` bits of bytes, most significant bit of a byte first. -/
def bitsOf (n : Nat) (d : List Byte) : List Bool := (List.range n).map (fun i => (nth 0 d (i / 8)).getLsbD (7 - i % 8))
/-- Bits packed into bytes, most significant bit first, with zeros at the end. -/
def packBits (b : List Bool) : List Byte :=
  (List.range ((b.length + 7) / 8)).map (fun i =>
    BitVec.ofNat 8 ((List.range 8).foldl (fun a j => 2 * a + (if nth false b (8 * i + j) then 1 else 0)) 0))

/-- The check bits of a message: the remainder of degree below `len`, highest power first. -/
def crcOf (poly len : Nat) (b : List Bool) : List Bool :=
  let r := b.foldl (fun (r : Nat) x => (2 * r % 2 ^ len).xor (if r.testBit (len - 1) != x then poly else 0)) 0
  (List.range len).map (fun i => r.testBit (len - 1 - i))
/-- CRC24A. -/
def crc24A : List Bool → List Bool := crcOf 0x864CFB 24
/-- CRC24B. -/
def crc24B : List Bool → List Bool := crcOf 0x800063 24
/-- CRC24C. -/
def crc24C : List Bool → List Bool := crcOf 0xB2B117 24
/-- CRC16. -/
def crc16 : List Bool → List Bool := crcOf 0x1021 16

/-- One step of a length-31 generator with taps. -/
def goldStep (taps : List Nat) (x : Nat) : Nat := x / 2 + 2 ^ 30 * ((taps.filter (fun i => x.testBit i)).length % 2)
/-- The sum of the two generators, `n` bits from their states. -/
def goldRun : Nat → Nat → Nat → List Bool
  | 0, _, _ => []
  | n + 1, a, b => (a.testBit 0 != b.testBit 0) :: goldRun n (goldStep [0, 3] a) (goldStep [0, 1, 2, 3] b)
/-- The scrambling sequence of an initial value. -/
def goldBits (cinit n : Nat) : List Bool := (goldRun (1600 + n) 1 cinit).drop 1600

/-! ### LDPC (R290) -/

/-- The fields of an LDPC body that the code rests on. -/
structure LdpcBody where
  bg    : Nat
  z     : Nat
  c     : Nat
  qm    : Nat
  rv    : Nat
  iters : Nat
  comb  : Bool
  scr   : Bool
  fill  : Nat
  e0    : Nat
  c0    : Nat
  e1    : Nat
  ncb   : Nat
  cinit : Nat
  tbcrc : Nat
  tbs   : Nat

/-- Columns of information bits in the base graph. -/
def LdpcBody.kb (b : LdpcBody) : Nat := if b.bg = 0 then 22 else 10
/-- Columns of the base graph after the two that are not sent. -/
def LdpcBody.nb (b : LdpcBody) : Nat := if b.bg = 0 then 66 else 50
/-- Rows of the base graph. -/
def LdpcBody.rows (b : LdpcBody) : Nat := if b.bg = 0 then 46 else 42
/-- Information bits of a code block, with fillers. -/
def LdpcBody.k (b : LdpcBody) : Nat := b.kb * b.z
/-- Bits of a code block before the fillers. -/
def LdpcBody.kp (b : LdpcBody) : Nat := b.k - b.fill
/-- Bits of the transport block and its check in a code block. -/
def LdpcBody.part (b : LdpcBody) : Nat := b.kp - (if 1 < b.c then 24 else 0)
/-- The rate-matched length of a code block. -/
def LdpcBody.len (b : LdpcBody) (r : Nat) : Nat := if r < b.c0 then b.e0 else b.e1
/-- Where the coded bits of a code block begin. -/
def LdpcBody.start (b : LdpcBody) (r : Nat) : Nat := min r b.c0 * b.e0 + (r - b.c0) * b.e1
/-- The check of a transport block; without one there are no bits. -/
def LdpcBody.tbCheck (b : LdpcBody) (a : List Bool) : List Bool :=
  match b.tbcrc with | 1 => crc24A a | 2 => crc16 a | _ => []

/-- The start of a redundancy version in the circular buffer. -/
def LdpcBody.k0 (b : LdpcBody) : Nat :=
  nth 0 (if b.bg = 0 then [0, 17, 33, 56] else [0, 13, 25, 43]) b.rv * b.ncb / (b.nb * b.z) * b.z

/-- Whether a place of the circular buffer holds a filler bit. -/
def LdpcBody.isFill (b : LdpcBody) (p : Nat) : Bool := decide (b.kp - 2 * b.z ≤ p ∧ p < b.k - 2 * b.z)

/-- The places of the circular buffer in the order in which bits are sent, once round. -/
def LdpcBody.ring (b : LdpcBody) : List Nat :=
  ((List.range b.ncb).map (fun j => (b.k0 + j) % b.ncb)).filter (fun p => !b.isFill p && decide (p < b.nb * b.z))

/-- The place whose bit is the one selected `k`-th. -/
def LdpcBody.place (b : LdpcBody) (ring : List Nat) (k : Nat) : Nat := nth 0 ring (k % ring.length)

/-- Which selected bit is sent `m`-th of `e`: the interleaver is read by columns. Bits past a whole number of symbols keep their
places. -/
def LdpcBody.sent (b : LdpcBody) (e m : Nat) : Nat :=
  if m < b.qm * (e / b.qm) then m % b.qm * (e / b.qm) + m / b.qm else m

/-- Code block `r` of a transport block with its check, with CRC24B and fillers. -/
def LdpcBody.block (b : LdpcBody) (tb : List Bool) (r : Nat) : List Bool :=
  let d := (List.range b.part).map (fun i => nth false tb (r * b.part + i))
  d ++ (if 1 < b.c then crc24B d else []) ++ List.replicate b.fill false

/-- The coded bits of a code block, in the order in which they are sent. -/
def LdpcBody.encode (b : LdpcBody) (tb : List Bool) (r : Nat) : List Bool :=
  let info := b.block tb r
  let code (p : Nat) : Bool := if p + 2 * b.z < b.k then nth false info (p + 2 * b.z) else Config.ldpcParity b.bg b.z info (p + 2 * b.z - b.k)
  let ring := b.ring
  (List.range (b.len r)).map (fun m => code (b.place ring (b.sent (b.len r) m)))

/-- Bits scrambled where the body says so. -/
def LdpcBody.scramble (b : LdpcBody) (x : List Bool) : List Bool :=
  if b.scr then (x.zip (goldBits b.cinit x.length)).map (fun p => p.1 != p.2) else x

/-- The coded bytes of a transport block of bytes. -/
def LdpcBody.encodeAll (b : LdpcBody) (d : List Byte) : List Byte :=
  let a := bitsOf b.tbs d
  let tb := a ++ b.tbCheck a
  packBits (b.scramble ((List.range b.c).flatMap (b.encode tb)))

/-- A soft value and whether it comes from data in error; `none` where nothing has come. -/
abbrev Soft := Option (Int × Bool)

/-- A log-likelihood ratio added with saturation at ±127; the first one of a place that is not combined is stored. -/
def softAdd (o : Soft) (l : Int × Bool) : Soft :=
  match o with
  | none => some (min l.1 127, l.2)
  | some v => some (max (-127) (min 127 (v.1 + l.1)), v.2 || l.2)

/-- The soft values of code block `r` after its bits have come: `old` is what the buffer held, with `COMBINE`. -/
def LdpcBody.soften (b : LdpcBody) (llr : List (Int × Bool)) (old : List Soft) (r : Nat) : List Soft :=
  let ring := b.ring
  (List.range (b.len r)).foldl (fun s m =>
    let p := b.place ring (b.sent (b.len r) m)
    s.set p (softAdd ((s[p]?).getD none) (nth (0, false) llr (b.start r + m)))) old

/-- The variables that check `i` of base row `r` joins. -/
def LdpcBody.joined (b : LdpcBody) (r i : Nat) : List Nat :=
  (List.range (b.nb + 2)).filterMap (fun c => (Config.baseGraph b.bg b.z r c).map (fun v => c * b.z + (i + v) % b.z))

/-- What the decoder holds for a code block: a value for each variable, and a message for each check and variable. -/
structure LdpcSt where
  app : Nat → Int
  msg : Nat → Nat → Int

/-- One check of a layer: min-sum with a scaling of 0.75 on its messages; their rounding is that of Config. -/
def LdpcSt.check (q : LdpcSt) (id : Nat) (vs : List Nat) : LdpcSt :=
  let t (v : Nat) : Int := q.app v - q.msg id v
  let new (v : Nat) : Int :=
    let others := vs.filter (fun u => decide (u ≠ v))
    let mag := others.foldl (fun (a : Nat) u => min a (t u).natAbs) (2 ^ 20)
    let neg := (others.filter (fun u => decide (t u < 0))).length % 2
    Config.ldpcMessage ((if neg = 1 then -1 else 1) * 3 * (mag : Int))
  { app := fun v => if vs.contains v then Config.ldpcValue (t v + new v) else q.app v
    msg := fun i v => if i = id ∧ vs.contains v then new v else q.msg i v }

/-- One iteration over the rows in use. -/
def LdpcBody.iterate (b : LdpcBody) (rows : List Nat) (q : LdpcSt) : LdpcSt :=
  rows.foldl (fun q r => (List.range b.z).foldl (fun q i => q.check (r * b.z + i) (b.joined r i)) q) q

/-- The bits that a decoder's values stand for. -/
def LdpcSt.bits (q : LdpcSt) (n : Nat) : List Bool := (List.range n).map (fun v => decide (q.app v < 0))

/-- Whether every parity check of the rows in use holds. -/
def LdpcBody.parityOk (b : LdpcBody) (rows : List Nat) (q : LdpcSt) : Bool :=
  rows.all (fun r => (List.range b.z).all (fun i => ((b.joined r i).filter (fun v => decide (q.app v < 0))).length % 2 == 0))

/-- Whether the check of a decoded code block holds. -/
def LdpcBody.blockOk (b : LdpcBody) (x : List Bool) : Bool := decide (crc24B (x.take b.part) = (x.drop b.part).take 24)

/-- The iterations of a code block: it stops when every check of the rows in use holds and, with several blocks, its CRC passes. -/
def LdpcBody.run (b : LdpcBody) (rows : List Nat) : Nat → Nat → LdpcSt → LdpcSt × Nat
  | 0, n, q => (q, n)
  | f + 1, n, q =>
    let q1 := b.iterate rows q
    if b.parityOk rows q1 && (decide (b.c ≤ 1) || b.blockOk (q1.bits b.kp)) then (q1, n + 1) else b.run rows f (n + 1) q1

/-- The rows in use: those whose parity column begins within the part of the buffer that was sent, and the first four
(DEDUCED, log entry 5). -/
def LdpcBody.inUse (b : LdpcBody) (soft : List Soft) : List Nat :=
  (List.range b.rows).filter (fun r => decide (r < 4) || ((List.range soft.length).any (fun p =>
    decide ((b.kb - 2 + r) * b.z ≤ p) && ((soft[p]?).getD none).isSome)))

/-- The decoded bits of a code block from its soft values, and the iterations used. -/
def LdpcBody.decode (b : LdpcBody) (soft : List Soft) : List Bool × Nat :=
  let value (v : Nat) : Int :=
    if v < 2 * b.z then 0 else if b.isFill (v - 2 * b.z) then Config.ldpcKnown
    else match (soft[v - 2 * b.z]?).getD none with | some x => x.1 | none => 0
  let r := b.run (b.inUse soft) b.iters 0 ⟨value, fun _ _ => 0⟩
  (r.1.bits b.kp, r.2)

/-- What a decoder leaves: soft bytes, the transport block's bytes, and `RESULT0`. -/
structure LdpcOut where
  soft : List MByte
  out  : List MByte
  r0   : Nat

/-- Decoding of a transport block (R290) from its log-likelihood ratios and, with `COMBINE`, the soft values held. -/
def LdpcBody.decodeAll (b : LdpcBody) (x held : List MByte) : LdpcOut :=
  let g := if b.scr then goldBits b.cinit x.length else []
  let llr := (List.range x.length).map (fun i =>
    let v := nth (0, false) x i
    ((if nth false g i then -v.1.toInt else v.1.toInt), v.2))
  let old (r : Nat) : List Soft :=
    (List.range b.ncb).map (fun p => if b.comb then (let v := nth (0, false) held (r * b.ncb + p); some (v.1.toInt, v.2)) else none)
  let softs := (List.range b.c).map (fun r => b.soften llr (old r) r)
  let res := softs.map b.decode
  let tb := res.flatMap (fun r => r.1.take b.part)
  let a := (tb.take b.tbs) ++ List.replicate (b.tbs - tb.length) false
  let tbOk := if b.tbcrc = 0 then Config.noCrc else decide (b.tbCheck a = (tb.drop b.tbs).take (b.tbCheck a).length)
  let passed := if 1 < b.c then (res.filter (fun r => b.blockOk r.1)).length else if tbOk then 1 else 0
  let bad := softs.map (fun l => l.any (fun o => (o.map (fun v => v.2)).getD false))
  let bytes := packBits a
  { soft := softs.flatMap (fun l => l.map (fun o => match o with | some v => (BitVec.ofInt 8 v.1, v.2) | none => (0, false)))
    out := (List.range bytes.length).map (fun i =>
      (nth 0 bytes i, (List.range 8).any (fun j => nth false bad ((8 * i + j) / b.part))))
    r0 := (if tbOk then 1 else 0) + 2 ^ 8 * res.foldl (fun m r => max m r.2) 0 + 2 ^ 16 * passed }

/-! ### Polar codes (R291) -/

/-- The fields of a polar body. -/
structure PolarBody where
  lg   : Nat
  k    : Nat
  e    : Nat
  list : Nat
  crc  : Nat
  iil  : Bool
  npc  : Nat
  ibil : Bool
  rnti : Nat

/-- The length of the code. -/
def PolarBody.n (b : PolarBody) : Nat := 2 ^ b.lg
/-- The length of the check. -/
def PolarBody.crcLen (b : PolarBody) : Nat := nth 24 [6, 11, 24] b.crc
/-- Bits without the check. -/
def PolarBody.a (b : PolarBody) : Nat := b.k - b.crcLen

/-- The check of a message with the mask on its last 16 bits, or on all of a shorter one. -/
def PolarBody.check (b : PolarBody) (x : List Bool) : List Bool :=
  let c := match b.crc with
    | 0 => crcOf 0x21 6 x
    | 1 => crcOf 0x621 11 x
    | _ => crc24C (if Config.polarOnes then List.replicate 24 true ++ x else x)
  (List.range c.length).map (fun i => nth false c i != decide (c.length - i ≤ 16 ∧ b.rnti.testBit (c.length - 1 - i)))

/-- The order in which the input interleaver reads the bits. -/
def PolarBody.inOrder (b : PolarBody) : List Nat :=
  if b.iil then (((List.range 164).map Config.polarPi).filter (fun p => decide (164 - b.k ≤ p))).map (fun p => p - (164 - b.k))
  else List.range b.k

/-- The pattern of the sub-block interleaver. -/
def subBlocks : List Nat :=
  [0, 1, 2, 4, 3, 5, 6, 7, 8, 16, 9, 17, 10, 18, 11, 19, 12, 20, 13, 21, 14, 22, 15, 23, 24, 25, 26, 28, 27, 29, 30, 31]
/-- The coded bit that the sub-block interleaver puts at place `i`. -/
def PolarBody.sub (b : PolarBody) (i : Nat) : Nat := nth 0 subBlocks (32 * i / b.n) * (b.n / 32) + i % (b.n / 32)

/-- Whether bits are punctured rather than shortened. -/
def PolarBody.punctured (b : PolarBody) : Bool := decide (16 * b.k ≤ 7 * b.e)
/-- The place in the circular buffer of the bit selected `i`-th. -/
def PolarBody.pick (b : PolarBody) (i : Nat) : Nat :=
  if b.n ≤ b.e then i % b.n else if b.punctured then i + b.n - b.e else i

/-- The input bits that rate matching freezes. -/
def PolarBody.preFrozen (b : PolarBody) : List Nat :=
  if b.n ≤ b.e then []
  else if b.punctured then (List.range (b.n - b.e)).map b.sub
    ++ List.range (if 3 * b.n ≤ 4 * b.e then (3 * b.n - 2 * b.e + 3) / 4 else (9 * b.n - 4 * b.e + 15) / 16)
  else ((List.range b.n).drop b.e).map b.sub

/-- The `m` most reliable of a list of input bits. -/
def mostReliable (m : Nat) (l : List Nat) : List Nat :=
  l.filter (fun x => decide ((l.filter (fun y => decide (Config.polarRank x < Config.polarRank y ∨
    (Config.polarRank x = Config.polarRank y ∧ x < y)))).length < m))

/-- The input bits that carry information or parity, in rising order. -/
def PolarBody.info (b : PolarBody) : List Nat :=
  mostReliable (b.k + b.npc) ((List.range b.n).filter (fun i => !b.preFrozen.contains i))

/-- The weight of a row of the code's matrix is two to this power. -/
def rowWeight (i : Nat) : Nat := ((List.range 10).filter (fun j => i.testBit j)).length

/-- The input bits that carry parity. -/
def PolarBody.parity (b : PolarBody) : List Nat :=
  if b.npc = 0 then []
  else
    let q := b.info
    let wm := if b.k + 192 < b.e + 3 then 1 else 0
    let kept := mostReliable (q.length - (b.npc - wm)) q
    let top := mostReliable (q.length - b.npc) q
    let least := top.foldl (fun m i => min m (rowWeight i)) 10
    q.filter (fun i => !kept.contains i) ++ mostReliable wm (top.filter (fun i => decide (rowWeight i = least)))

/-- The input of the code: information bits in order, parity bits from a register of five. -/
def polarFill (info par : List Nat) : List Nat → List Bool → List Bool → List Bool
  | [], _, _ => []
  | i :: t, c, y =>
    let y1 := y.drop 1 ++ y.take 1
    if info.contains i then
      if par.contains i then nth false y1 0 :: polarFill info par t c y1
      else (c.headD false) :: polarFill info par t (c.drop 1) ((nth false y1 0 != c.headD false) :: y1.drop 1)
    else false :: polarFill info par t c y1

/-- The coded bit `j` of an input: the sum of the input bits whose number has every bit of `j`. -/
def polarBit (u : List Bool) (j : Nat) : Bool :=
  ((List.range u.length).filter (fun i => decide (i &&& j = j) && nth false u i)).length % 2 == 1

/-- The least side of a triangle that holds `e` bits. -/
def triSide (e : Nat) : Nat := ((List.range 400).find? (fun t => decide (e ≤ t * (t + 1) / 2))).getD 400
/-- The order in which coded bits leave. -/
def PolarBody.outOrder (b : PolarBody) : List Nat :=
  if b.ibil then
    let t := triSide b.e
    (List.range t).flatMap (fun j => (List.range (t - j)).filterMap (fun i =>
      let k := i * t - i * (i - 1) / 2 + j
      if k < b.e then some k else none))
  else List.range b.e

/-- The coded bits of a message. -/
def PolarBody.encodeBits (b : PolarBody) (x : List Bool) : List Bool :=
  let c := x ++ b.check x
  let u := polarFill b.info b.parity (List.range b.n) (b.inOrder.map (nth false c)) (List.replicate 5 false)
  b.outOrder.map (fun k => polarBit u (b.sub (b.pick k)))

/-- The coded bytes of a message of bytes. -/
def PolarBody.encodeAll (b : PolarBody) (d : List Byte) : List Byte := packBits (b.encodeBits (bitsOf b.a d))

/-- What the decoder knows of coded bit `j`: the sum of what came for it, or that it is a known zero. -/
def PolarBody.known (b : PolarBody) (llr : List Int) (j : Nat) : Option Int :=
  let order := b.outOrder
  let at' := (List.range order.length).filter (fun m => decide (b.sub (b.pick (nth 0 order m)) = j))
  if at'.isEmpty then (if b.e < b.n ∧ !b.punctured then none else some 0) else some ((at'.map (nth 0 llr)).sum)

/-- The message with its check on path `i` of the list, in the order of the path metrics. -/
def PolarBody.path (b : PolarBody) (llr : List Int) (i : Nat) : List Bool :=
  let x := (List.range b.n).map (b.known llr)
  let order := b.inOrder
  (List.range b.k).map (fun j => Config.polarPath ⟨b.lg, b.k, b.e, b.npc, 2 ^ b.list⟩ x i ((order.findIdx? (fun p => decide (p = j))).getD 0))

/-- Whether a decoded message's check holds. -/
def PolarBody.pathOk (b : PolarBody) (c : List Bool) : Bool := decide (b.check (c.take b.a) = c.drop b.a)

/-- Decoding (R291): the path of lowest metric whose check passes, and whether there is one. Where none passes, the bits that are
returned are not stated (log entry 5). -/
def PolarBody.decodeAll (b : PolarBody) (llr : List Int) : List Byte × Bool :=
  match (List.range (2 ^ b.list)).find? (fun i => b.pathOk (b.path llr i)) with
  | some i => (packBits ((b.path llr i).take b.a), true)
  | none => (packBits ((b.path llr (2 ^ b.list)).take b.a), false)

/-! ### Fourier transforms (R289) -/

/-- A value as Q15 rounded to nearest, with +1 as 32,767. -/
def q15 (x : Int) : Int := min 32767 ((2 * x * 32768 + fxOne) / (2 * fxOne))
/-- The twiddle of angle 2π·`k`/`n`, with the kernel's sign. -/
def twiddle (inv : Bool) (k n : Nat) : Int × Int :=
  let a := fxTwoPi * ((k % n : Nat) : Int) / (n : Int)
  (q15 (fxCos a), q15 (if inv then fxSin a else -fxSin a))
/-- A product with a twiddle, truncated (R59). -/
def twMul (w x : Int × Int) : Int × Int := ((w.1 * x.1 - w.2 * x.2) / 2 ^ 15, (w.1 * x.2 + w.2 * x.1) / 2 ^ 15)
/-- A free error of at most `2 r` units in a component of a pass of radix `r`. -/
def fftSlack (r : Nat) (x : List (Int × Int)) (i : Nat) : Int :=
  let v := Config.fftSlack r x i % (4 * r + 1)
  if v ≤ 2 * r then (v : Int) else (2 * r : Int) - (v : Int)

/-- Sample `i` of a pass of radix `r` over `n` samples, of which passes of product `done` are over. The manual leaves open whether a
pass multiplies by its twiddles before or after its butterflies, and the order of the operations in it (DESIGN CHOICE, log entry 5). -/
def fftSample (inv : Bool) (n done r : Nat) (x : List (Int × Int)) (i : Nat) : Int × Int :=
  let left := n / done
  let m := left / r
  let terms := (List.range r).map (fun u =>
    if Config.fftDif then
      let v := i / done % r
      let p := i / done / r
      twMul (twiddle inv (v * (p + m * u)) left) (nth (0, 0) x (i % done + done * (p + m * u)))
    else
      let k := i / m
      twMul (twiddle inv (k * u) (done * r)) (nth (0, 0) x (k % done * left + i % m + m * u)))
  ((terms.map (fun t => t.1)).sum + fftSlack r x (2 * i), (terms.map (fun t => t.2)).sum + fftSlack r x (2 * i + 1))

end Sys2Proof.Machine
end

