-- ==== Sys2Proof/Machine/Helpers.lean ====
section
/-! DEFINITION. The helpers of the radio array (R284 to R292): memory references, descriptor queues, and the descriptors that
copy, transform, code and compress. -/

namespace Sys2Proof.Machine

/-! ### Memory references (R284) -/

/-- A bank reference's place of linear offset `o`: lane and bank address; `none` where it is refused. -/
def bankPlace (r o : Nat) : Option (Nat × Nat) :=
  let lane0 := bitField r 7 6
  let nl := bitField r 13 6 + 1
  let a := bitField r 19 14
  let per := bitField r 34 14
  if a % 16 ≠ 0 then none
  else if bitField r 33 1 = 1 then
    let row := o / 16
    let l := lane0 + row % nl
    let b := a + 16 * (row / nl) + o % 16
    if l < 64 ∧ b ≤ 0x3FFF then some (l, b) else none
  else if per = 0 ∨ per % 16 ≠ 0 then none
  else
    let l := lane0 + o / per
    let b := a + o % per
    if o / per < nl ∧ l < 64 ∧ b ≤ 0x3FFF then some (l, b) else none

/-- The tile that a tile reference names, while slice 0's radio image is ACTIVE. -/
def State.refTile (s : State) (r : Nat) : Option Nat :=
  if s.get (PLN_SLICE_IMG_STATE 0) = 2 then (s.placeOf 0 (bitField r 0 10 / 16)).map (fun g => tileAt g (r % 16)) else none

/-- Whether `n` bytes of a reference from offset `off` are reached for slice `sl` (R284). -/
def State.refOk (s : State) (sl r off n : Nat) : Bool :=
  match bitField r 62 2 with
  | 0 =>
    let c := r % 128
    (List.range ((off + n + 15) / 16 - off / 16)).all (fun i =>
      match bankPlace r (16 * (off / 16 + i)) with
      | some (l, _) => s.ownsBank sl c l && !s.flag (BBA_BANK_OWN_PEND c l)
      | none => false)
  | 3 =>
    let a := bitField r 10 20 + off
    decide (sl = 0) && (s.refTile r).isSome && decide (0x80000 ≤ a ∧ a + n ≤ 0xBC000)
  | k => s.rangeOk sl (decide (k = 2)) (r % 2 ^ 40 + off) n

/-- The pieces of a byte range that lie in one 16-byte row each. -/
def piecesOf16 (a n : Nat) : List (Nat × Nat) :=
  (List.range ((a + n + 15) / 16 - a / 16)).map (fun i =>
    let lo := max a (16 * (a / 16 + i))
    (lo, min (a + n) (16 * (a / 16 + i) + 16) - lo))

/-- Bytes of one bank row read by DMA, with the cluster's error counters (R273, R274). -/
def State.bankRead (s0 : State) (c l a n : Nat) : List MByte × State :=
  let s := s0.wakeCluster c
  let r := s.bankRow c l (a / 16)
  let m := (s.cluster c).bank l
  let w := m.readWord r
  let d := ((w.data.drop (a % 16)).take n).map (fun b => (b, w.marked))
  match rowNote m r with
  | .clean => (d, s)
  | .corrected => (d, s.laneFire c 64 l)
  | .bad => (d, s.tally (BBA_CL_UE c))

/-- Bytes of one bank row written by DMA (R272): an uncorrectable row that would be merged keeps its error. A bank that is being
wiped takes no write (R469). -/
def State.bankWrite (s0 : State) (c l a : Nat) (d : List MByte) : State :=
  let s := s0.wakeCluster c
  if s.bankRefuses c l then s
  else s.onCluster c (fun x => x.setBank l ((x.bank l).writeM (16 * s.bankRow c l (a / 16) + a % 16) d).1)

/-- Bytes read through a reference that was found reachable. -/
def State.refRead (s : State) (sl r off n : Nat) : List MByte × State :=
  match bitField r 62 2 with
  | 0 => (piecesOf16 off n).foldl (fun (q : List MByte × State) p =>
      match bankPlace r p.1 with
      | some (l, a) => let b := q.2.bankRead (r % 128) l a p.2; (q.1 ++ b.1, b.2)
      | none => q) ([], s)
  | 3 =>
    match s.refTile r with
    | some t => if s.groupOn (groupOf t) then s.spadRead t true (bitField r 10 20 + off) n
      else (List.replicate n (0, true), s.fire 9 t (t / 256) sl 0)
    | none => (List.replicate n (0, true), s)
  | k =>
    let q := s.viewRead sl (s.viewLines sl false) (decide (k = 2)) (r % 2 ^ 40 + off) n
    (q.1.getD (List.replicate n (0, true)), q.2)

/-- Bytes written through a reference that was found reachable. -/
def State.refWrite (s : State) (sl r off : Nat) (d : List MByte) : State :=
  match bitField r 62 2 with
  | 0 => (piecesOf16 off d.length).foldl (fun a p =>
      match bankPlace r p.1 with
      | some (l, b) => a.bankWrite (r % 128) l b ((d.drop (p.1 - off)).take p.2)
      | none => a) s
  | 3 =>
    match s.refTile r with
    | some t => if s.groupOn (groupOf t) then (s.spadWrite t true (bitField r 10 20 + off) d).2 else s.fire 9 t (t / 256) sl 0
    | none => s
  | k => (s.homeWrite sl (decide (k = 2)) (r % 2 ^ 40 + off) d).2

/-! ### Queues (R285 to R287) -/

/-- Word `i` of a descriptor. -/
def dw (w : List Word) (i : Nat) : Nat := (nth 0 w i).toNat
/-- A field of a descriptor. -/
def df (w : List Word) (i lo wd : Nat) : Nat := bitField (dw w i) lo wd
/-- A reference held in words `i` and `i + 1`. -/
def dref (w : List Word) (i : Nat) : Nat := dw w i + 2 ^ 32 * dw w (i + 1)

/-- A radio helper event. -/
def State.bbhEvent (s : State) (f : Fld) : State := s.event f 3
/-- The slice of a helper queue. -/
def State.hqSlice (s : State) (q : Nat) : Nat := s.get (BBH_Q_CFG_SLICE q)

/-- The next descriptor of a queue (R285): `none` where its fetch fails. -/
def State.hqDesc (s : State) (q : Nat) : Option (List Word) × State :=
  let sl := s.hqSlice q
  let off := s.get64 (BBH_Q_RING_LO_OFF q) (BBH_Q_RING_HI_OFF q) + 64 * ((s.helper q).cons % 2 ^ s.get (BBH_Q_CFG_LOG2 q))
  let r := s.viewRead sl (s.viewLines sl false) false off 64
  match r.1 with
  | some d => if markedM d then (none, r.2) else
      (some ((chunksOf 4 16 (bytesM d)).map (fun b => BitVec.ofNat 32 (bytesToNat b))), r.2)
  | none => (none, r.2)

/-- Whether a queue has a descriptor that can start now: `ORDER` waits for every earlier one (R286). -/
def State.hqReady (s : State) (q : Nat) : Bool :=
  let h := s.helper q
  s.flag (BBH_Q_CFG_EN q) && !s.flag (BBH_Q_CFG_QERR q) && decide (h.cons ≠ h.prod) &&
    (h.jobs.isEmpty || match (s.hqDesc q).1 with | some w => decide (df w 0 4 1 = 0) | none => true)

/-- Whether it is a queue's turn: no queue of its class at a higher level is ready, and none of its own level comes before it
after the one served last (R285). -/
def State.hqTurn (s : State) (q : Nat) : Bool :=
  let cls := s.get (BBH_Q_CFG_CLASS q)
  let pr := s.get (BBH_Q_CFG_PRIO q)
  let peers := (List.range 64).filter (fun p => decide (s.get (BBH_Q_CFG_CLASS p) = cls) && s.hqReady p)
  let last := mapGet (fun _ => 63) s.radio.last (4 * cls + pr)
  let rank (p : Nat) : Nat := (p + 127 - last) % 64
  s.hqReady q && peers.all (fun p => decide (pr ≤ s.get (BBH_Q_CFG_PRIO p)))
    && peers.all (fun p => decide (s.get (BBH_Q_CFG_PRIO p) ≠ pr) || decide (rank q ≤ rank p))

/-- The class that a kind belongs to; `NOP` belongs to every class. -/
def kindClass (k : Nat) : Option Nat :=
  match k with
  | 1 => some 0 | 2 => some 1 | 3 => some 2 | 4 => some 2 | 5 => some 3 | 6 => some 3
  | 7 => some 4 | 8 => some 4 | 9 => some 4 | _ => none

/-- The engines of a class (R285). -/
def classEngines (c : Nat) : Nat := nth 0 [32, 64, 48, 8, 16] c
/-- Whether an engine of a class is free: each descriptor under way holds one, but for a message that waits for its launch. -/
def State.engineFree (s : State) (c : Nat) : Bool :=
  let busy := (List.range 64).flatMap (fun q => if s.get (BBH_Q_CFG_CLASS q) = c then (s.helper q).jobs.filter (fun j => j.msg.isNone) else [])
  decide (busy.length < classEngines c)

/-- What a descriptor came to: status, results, the egress queue on which the message of an `FH_TX` waits, and the state. -/
structure JobRes where
  status : Nat
  r0     : Nat
  r1     : Nat
  msg    : Option Nat
  st     : State

/-- Nothing written (R286). -/
def State.jobRefused (s : State) : JobRes := ⟨1, 0, 0, none, s⟩
/-- A reference and the bytes that a descriptor reaches through it. -/
abbrev MRef := Nat × Nat
/-- Whether every reference of a descriptor is reached from its start (R284). -/
def State.refsOk (s : State) (sl : Nat) (l : List MRef) : Bool := l.all (fun r => s.refOk sl r.1 0 r.2)
/-- Nothing written: each reference that is refused advances the slice's refusal counter (R284, R286, R315). -/
def State.jobUnreached (s : State) (sl : Nat) (l : List MRef) : JobRes :=
  (s.count (SLC_REFUSE sl) (l.filter (fun r => !s.refOk sl r.1 0 r.2)).length).jobRefused
/-- Done. -/
def State.jobDone (s : State) (bad : Bool) (r0 : Nat) : JobRes := ⟨if bad then 2 else 0, r0, 0, none, s⟩

/-- The words that hold the references a kind writes through. -/
def jobOuts (k : Nat) : List Nat :=
  match k with
  | 1 => [4] | 2 => [5, 7] | 3 => [12, 14] | 4 => [14] | 5 => [7] | 6 => [7] | 7 => [5] | 8 => [5] | _ => []

/-- Whether a reference names a tile whose group is powered off (R35). -/
def State.refDead (s : State) (r : Nat) : Bool :=
  decide (bitField r 62 2 = 3) && match s.refTile r with | some t => !s.groupOn (groupOf t) | none => false

/-- The status of a job whose writes met an error completion: DATA_ERR (R35; DEDUCED, log entry 123). -/
def State.deadWrite (s : State) (w : List Word) (j : JobRes) : JobRes :=
  if j.status = 0 ∧ (jobOuts (df w 0 0 4)).any (fun i => s.refDead (dref w i)) then { j with status := 2 } else j

/-- A queue stops (R285). -/
def State.hqStop (s : State) (q : Nat) : State :=
  ((s.put (BBH_Q_CFG_QERR q) 1).bbhEvent BBH_EVENT_QERR).fire 73 q 4 (s.hqSlice q) 0

/-- A free engine takes the next descriptor of queue `q`, if it is of kind `kind`, and runs `body` on it (R285, R286). The command
of `NOP` also takes descriptors of the kinds that are refused. -/
def State.hqRun (s : State) (q kind : Nat) (body : State → Nat → List Word → JobRes) : State :=
  if !s.hqTurn q ∨ !s.tiersOpen ∨ !s.engineFree (s.get (BBH_Q_CFG_CLASS q)) then s
  else
    let r := s.hqDesc q
    match r.1 with
    | none => r.2.hqStop q
    | some w =>
      let k := df w 0 0 4
      if k ≠ kind ∧ !(kind = 0 ∧ 9 < k) then s
      else
        let h := s.helper q
        let cls := s.get (BBH_Q_CFG_CLASS q)
        let wrong := decide (9 < k ∨ df w 0 20 12 ≠ 0) || (match kindClass k with | some c => decide (c ≠ cls) | none => false)
        let res := if wrong then r.2.jobRefused else r.2.deadWrite w (body r.2 q w)
        let s1 := if res.status = 2 then res.st.fire 72 q 4 (s.hqSlice q) 0 else res.st
        let s2 := s1.onRadio (fun x => { x with last := mapSet (fun _ => 63) x.last (4 * cls + s.get (BBH_Q_CFG_PRIO q)) q })
        s2.onHelper q (fun x => { x with
          cons := (h.cons + 1) % 2 ^ 32
          jobs := x.jobs ++ [⟨h.cons % 2 ^ s.get (BBH_Q_CFG_LOG2 q), w, res.status, res.r0, res.r1, res.msg⟩] })

/-- A completion's event and record (R286, R287). -/
def State.jobReport (s : State) (q : Nat) (j : HelperJob) : State :=
  let s1 := if df j.words 0 6 1 = 1 then s.setEv (df j.words 0 13 7) (df j.words 0 7 6) else s
  if df j.words 0 5 1 = 0 then s1
  else
    let lg := s1.get (BBH_Q_CFG_LOG2 q)
    let n := (s1.helper q).done
    let off := s1.get64 (BBH_Q_CMPL_LO_OFF q) (BBH_Q_CMPL_HI_OFF q) + 16 * (n % 2 ^ lg)
    let w0 := j.idx % 4096 + 2 ^ 12 * j.status + 2 ^ 31 * (1 - n / 2 ^ lg % 2)
    let d := natToBytes 4 w0 ++ natToBytes 4 (dw j.words 1) ++ natToBytes 4 j.r0 ++ natToBytes 4 j.r1
    ((s1.homeWrite (s1.hqSlice q) false off (cleanM d)).2).onHelper q (fun h => { h with done := n + 1 })

/-- HELPER_COMPLETION: descriptor `k` of those under way in a queue completes; a message that waits for its launch does not. -/
def State.hqComplete (s : State) (q k : Nat) : State :=
  match (s.helper q).jobs[k]? with
  | none => s
  | some j =>
    if j.msg.isSome ∨ !s.tiersOpen then s
    else (s.onHelper q (fun h => { h with jobs := h.jobs.eraseIdx k })).jobReport q j

/-- HQ_ENABLE: a write of `BBH_Q_CFG_` (R285). -/
def State.hqWrite (s : State) (q : Nat) (v : Word) : State :=
  let cur := s.hqSlice q
  let on := s.flag (BBH_Q_CFG_EN q)
  let s1 := s.writeCodes (BBH_Q_CFG_EN q).key v false
  let s2 := if on ∧ s1.hqSlice q ≠ cur then (s1.put (BBH_Q_CFG_SLICE q) cur).lockWr 7 else s1
  if v.getLsbD 6 then
    if 4 < s2.get (BBH_Q_CFG_CLASS q) then s2.putB (BBH_Q_CFG_EN q) false
    else (s2.put (BBH_Q_CFG_QERR q) 0).onHelper q (fun h => { h with prod := 0, cons := 0, done := 0 })
  else s2

/-- A slice's helper queues end: descriptors under way end ABORTED, and `EN` is cleared (R286, R323). -/
def State.hqAbort (s : State) (sl : Nat) : State :=
  (List.range 64).foldl (fun a q =>
    if a.hqSlice q = sl then
      let js := (a.helper q).jobs
      let a1 := js.foldl (fun b j => b.jobReport q { j with status := 3, r0 := 0, r1 := 0 }) (a.onHelper q (fun h => { h with jobs := [] }))
      a1.put (BBH_Q_CFG_EN q) 0
    else a) s

/-! ### Descriptors -/

/-- NOP. -/
def jobNop (s : State) (_ : Nat) (_ : List Word) : JobRes := s.jobDone false 0

/-- DMA (R288). -/
def jobDma (s : State) (q : Nat) (w : List Word) : JobRes :=
  let sl := s.hqSlice q
  let n := dw w 6
  let refs := [(dref w 2, n), (dref w 4, n)]
  if n % 16 ≠ 0 ∨ n = 0 ∨ 1048576 < n then s.jobRefused
  else if !s.refsOk sl refs then s.jobUnreached sl refs
  else
    let r := s.refRead sl (dref w 2) 0 n
    (r.2.refWrite sl (dref w 4) 0 r.1).jobDone (markedM r.1) 0

/-- A number with every factor of 2, 3 and 5 divided out. -/
def smoothPart : Nat → Nat → Nat
  | 0, n => n
  | f + 1, n => if n = 0 then 0 else if n % 2 = 0 then smoothPart f (n / 2) else if n % 3 = 0 then smoothPart f (n / 3)
    else if n % 5 = 0 then smoothPart f (n / 5) else n

/-- Whether `n` is a length that an FFT takes (R289). -/
def fftLen (n : Nat) : Bool := decide (8 ≤ n ∧ n ≤ 4096 ∧ smoothPart 13 n = 1)

/-- How often a prime divides `n`, by fuel. -/
def primeCount (p : Nat) : Nat → Nat → Nat
  | 0, _ => 0
  | f + 1, n => if n ≠ 0 ∧ n % p = 0 then primeCount p f (n / p) + 1 else 0

/-- The passes of a transform, in their order: radix 5, radix 3, radix 4 and then radix 2 (R289). -/
def fftPasses (n : Nat) : List Nat :=
  let c2 := primeCount 2 13 n
  List.replicate (primeCount 5 13 n) 5 ++ List.replicate (primeCount 3 13 n) 3 ++ List.replicate (c2 / 2) 4
    ++ List.replicate (c2 % 2) 2

/-- How far a pass of radix `r` shifts its components right before it starts (R289). -/
def fftShift (r : Nat) (x : List (Int × Int)) : Nat :=
  (if r = 2 then 2 else 3) - (x.flatMap (fun v => [v.1, v.2])).foldl (fun h v => min h (rsb 16 (intCode 16 v))) 15

/-- A pass over the samples: how many points earlier passes have joined, the samples, and the block exponent (R289). -/
def fftPass (inv : Bool) (n : Nat) (q : Nat × List (Int × Int) × Int) (r : Nat) : Nat × List (Int × Int) × Int :=
  let k := fftShift r q.2.1
  let x := q.2.1.map (fun v => (v.1 / (2 : Int) ^ k, v.2 / (2 : Int) ^ k))
  (q.1 * r, (List.range n).map (fftSample inv n q.1 r x), q.2.2 + k)

/-- A transform of samples in CI16 with the exponent of its input: the samples and the exponent of its output (R289). -/
def fftRun (inv : Bool) (x : List (Int × Int)) (e : Int) : List (Int × Int) × Int :=
  ((fftPasses x.length).foldl (fftPass inv x.length) (1, x, e)).2

/-- One transform of an FFT (R289). -/
def State.fftOne (s : State) (sl : Nat) (w : List Word) (bad : Bool × State) (b : Nat) : Bool × State :=
  let n := df w 2 0 13
  let r := State.refRead bad.2 sl (dref w 3) (4 * n * b) (4 * n)
  let x := (chunksOf 4 n (bytesM r.1)).map (fun d => (signed 16 (bytesToNat (d.take 2)), signed 16 (bytesToNat (d.drop 2))))
  let e := markedM r.1
  let q := fftRun (df w 2 13 1 = 1) x (nth 0 w 9).toInt
  let out := q.1.flatMap (fun v => natToBytes 2 (intCode 16 v.1) ++ natToBytes 2 (intCode 16 v.2))
  let s1 := r.2.refWrite sl (dref w 5) (4 * n * b) (out.map (fun z => (z, e)))
  (bad.1 || e, s1.refWrite sl (dref w 7) (4 * b) ((natToBytes 4 (intCode 32 q.2)).map (fun z => (z, e))))

/-- FFT (R289). -/
def jobFft (s : State) (q : Nat) (w : List Word) : JobRes :=
  let sl := s.hqSlice q
  let n := df w 2 0 13
  let bt := df w 2 16 8 + 1
  let refs := [(dref w 3, 4 * n * bt), (dref w 5, 4 * n * bt), (dref w 7, 4 * bt)]
  if !fftLen n then s.jobRefused
  else if !s.refsOk sl refs then s.jobUnreached sl refs
  else
    let r := (List.range bt).foldl (s.fftOne sl w) (false, s)
    r.2.jobDone r.1 0

/-- The lifting sizes of the standard (PRESUMED, log entry 5). -/
def liftSize (z : Nat) : Bool :=
  decide (z ≤ 384) && [2, 3, 5, 7, 9, 11, 13, 15].any (fun a => (List.range 8).any (fun j => decide (z = a * 2 ^ j)))

/-- Whether an LDPC body's fields are valid (R290). -/
def ldpcOk (w : List Word) : Bool :=
  liftSize (df w 2 1 9) && decide (df w 2 10 9 ≠ 0) && [1, 2, 4, 6, 8].contains (df w 2 19 4) && decide (df w 8 0 2 ≠ 3)
    && decide (df w 4 18 9 ≤ df w 2 10 9)

/-- The coded bits of a transport block (R290). -/
def ldpcBits (w : List Word) : Nat := df w 4 18 9 * df w 4 0 18 + (df w 2 10 9 - df w 4 18 9) * df w 5 0 18

/-- The fields of an LDPC descriptor. -/
def ldpcBody (w : List Word) : LdpcBody where
  bg := df w 2 0 1
  z := df w 2 1 9
  c := df w 2 10 9
  qm := df w 2 19 4
  rv := df w 2 23 2
  iters := df w 2 25 5 + 1
  comb := df w 2 30 1 = 1
  scr := df w 2 31 1 = 1
  fill := df w 3 0 16
  e0 := df w 4 0 18
  c0 := df w 4 18 9
  e1 := df w 5 0 18
  ncb := df w 6 0 18
  cinit := df w 7 0 31
  tbcrc := df w 8 0 2
  tbs := df w 9 0 21

/-- LDPC_DEC (R290). -/
def jobLdpcDec (s : State) (q : Nat) (w : List Word) : JobRes :=
  let sl := s.hqSlice q
  let b := ldpcBody w
  let ne := ldpcBits w
  let ns := b.c * b.ncb
  let no := (b.tbs + 7) / 8
  let refs := [(dref w 10, ne), (dref w 12, ns), (dref w 14, no)]
  if !ldpcOk w ∨ bitField (dref w 12) 62 2 % 3 = 0 then s.jobRefused
  else if !s.refsOk sl refs then s.jobUnreached sl refs
  else
    let r := s.refRead sl (dref w 10) 0 ne
    let f := if b.comb then r.2.refRead sl (dref w 12) 0 ns else ([], r.2)
    let o := b.decodeAll r.1 f.1
    ((f.2.refWrite sl (dref w 12) 0 o.soft).refWrite sl (dref w 14) 0 o.out).jobDone (markedM r.1 || markedM f.1) o.r0

/-- LDPC_ENC (R290). -/
def jobLdpcEnc (s : State) (q : Nat) (w : List Word) : JobRes :=
  let sl := s.hqSlice q
  let b := ldpcBody w
  let ni := (b.tbs + 7) / 8
  let no := (ldpcBits w + 7) / 8
  let refs := [(dref w 10, ni), (dref w 14, no)]
  if !ldpcOk w then s.jobRefused
  else if !s.refsOk sl refs then s.jobUnreached sl refs
  else
    let r := s.refRead sl (dref w 10) 0 ni
    let bad := markedM r.1
    (r.2.refWrite sl (dref w 14) 0 ((b.encodeAll (bytesM r.1)).map (fun x => (x, bad)))).jobDone bad 0

/-- Whether a polar body's fields are valid (R291). -/
def polarOk (w : List Word) : Bool :=
  decide (5 ≤ df w 2 0 4 ∧ df w 2 0 4 ≤ 10) && decide (df w 3 0 2 ≠ 3) && decide (df w 3 3 2 = 0 ∨ df w 3 3 2 = 3)

/-- The fields of a polar descriptor. -/
def polarBody (w : List Word) : PolarBody where
  lg := df w 2 0 4
  k := df w 2 4 10
  e := df w 2 14 14
  list := df w 2 28 2
  crc := df w 3 0 2
  iil := df w 3 2 1 = 1
  npc := df w 3 3 2
  ibil := df w 3 5 1 = 1
  rnti := df w 4 0 16

/-- POLAR_DEC (R291): LLRs to bits. -/
def jobPolarDec (s : State) (q : Nat) (w : List Word) : JobRes :=
  let sl := s.hqSlice q
  let b := polarBody w
  let no := (b.a + 7) / 8
  let refs := [(dref w 5, b.e), (dref w 7, no)]
  if !polarOk w then s.jobRefused
  else if !s.refsOk sl refs then s.jobUnreached sl refs
  else
    let r := s.refRead sl (dref w 5) 0 b.e
    let bad := markedM r.1
    let o := b.decodeAll (r.1.map (fun x => x.1.toInt))
    (r.2.refWrite sl (dref w 7) 0 (o.1.map (fun x => (x, bad)))).jobDone bad (if o.2 then 1 else 0)

/-- POLAR_ENC (R291): bits to `E` bits. -/
def jobPolarEnc (s : State) (q : Nat) (w : List Word) : JobRes :=
  let sl := s.hqSlice q
  let b := polarBody w
  let ni := (b.a + 7) / 8
  let no := (b.e + 7) / 8
  let refs := [(dref w 5, ni), (dref w 7, no)]
  if !polarOk w then s.jobRefused
  else if !s.refsOk sl refs then s.jobUnreached sl refs
  else
    let r := s.refRead sl (dref w 5) 0 ni
    let bad := markedM r.1
    (r.2.refWrite sl (dref w 7) 0 ((b.encodeAll (bytesM r.1)).map (fun x => (x, bad)))).jobDone bad 0

/-- Whether a fronthaul width is one of R292. -/
def widthOk (wd : Nat) : Bool := [8, 9, 12, 14, 16].contains wd
/-- The bytes of a resource block at a width and method (R70, R292). -/
def rbBytes (wd method : Nat) : Nat := (if method = 0 then 1 else 0) + 3 * wd

/-- A resource block of compressed samples expanded to 24 components, and how many of them saturated (R72, R292). -/
def expandRb (wd method : Nat) (b : List Byte) : List Int × Nat := if method = 0 then bfpExpand wd b else bfpExpand wd (0 :: b)
/-- 24 components as CI16 in 48 bytes (R41). -/
def ciBytes (cs : List Int) : List Byte := cs.flatMap (fun c => natToBytes 2 (intCode 16 c))
/-- The 24 components of 48 bytes of CI16. -/
def ciComps (b : List Byte) : List Int := (chunksOf 2 24 b).map (fun d => signed 16 (bytesToNat d))

/-- EXPAND (R292). -/
def jobExpand (s : State) (q : Nat) (w : List Word) : JobRes :=
  let sl := s.hqSlice q
  let wd := df w 2 0 5
  let me := df w 2 5 2
  let n := df w 2 7 12
  let rb := rbBytes wd me
  let refs := [(dref w 3, rb * n), (dref w 5, 48 * n)]
  if !widthOk wd ∨ (me ≠ 0 ∧ me ≠ 2) then s.jobRefused
  else if !s.refsOk sl refs then s.jobUnreached sl refs
  else
    let r := (List.range n).foldl (fun (q : Nat × Bool × State) p =>
      let d := q.2.2.refRead sl (dref w 3) (rb * p) rb
      let e := expandRb wd me (bytesM d.1)
      let bad := markedM d.1
      (q.1 + e.2, q.2.1 || bad, d.2.refWrite sl (dref w 5) (48 * p) ((ciBytes e.1).map (fun b => (b, bad))))) (0, false, s)
    (r.2.2.count BBH_EXP_SAT r.1).jobDone r.2.1 r.1

/-- 24 components packed at a width without compression. A component that the width does not hold gives a free value, a
function of the component (R57; DESIGN CHOICE, log entry 5). -/
def packRb (wd : Nat) (cs : List Int) : List Byte :=
  let fit (c : Int) : Int := if -(2 : Int) ^ (wd - 1) ≤ c ∧ c < (2 : Int) ^ (wd - 1) then c else (Config.wideComponent wd c : Int)
  bfpPack wd (3 * wd) (cs.map fit)

/-- The bits that a width of modulation compression stands for; 0 stands for 16 (PRESUMED, log entry 69). -/
def modWidth (iq : Nat) : Nat := if iq = 0 then 16 else iq

/-- A component under modulation compression: the constellation shifted where `csf` says so, and the width's bits kept (R292; PRESUMED, log
entry 69). -/
def modComp (iq csf : Nat) (c : Int) : Int :=
  let w := modWidth iq
  (c - (csf : Int) * (2 ^ 15 / 2 ^ w : Nat)) / (2 : Int) ^ (16 - w)

/-- 24 components compressed: by block floating point, by modulation compression, or not at all (R71, R292). -/
def compressRb (wd method iq csf : Nat) (cs : List Int) : List Byte :=
  if method = 0 then bfpCompress wd cs
  else if method = 1 then bfpPack (modWidth iq) (3 * modWidth iq) (cs.map (modComp iq csf))
  else packRb wd cs

/-- A run of resource blocks compressed from a reference: the bytes, each block's marked where its input was in error, and the state. -/
def State.compressRun (s : State) (sl ref wd me n iq csf : Nat) : List MByte × State :=
  (List.range n).foldl (fun (q : List MByte × State) p =>
    let d := q.2.refRead sl ref (48 * p) 48
    let bad := markedM d.1
    (q.1 ++ (compressRb wd me iq csf (ciComps (bytesM d.1))).map (fun b => (b, bad)), d.2)) ([], s)

/-- COMPRESS (R292). -/
def jobCompress (s : State) (q : Nat) (w : List Word) : JobRes :=
  let sl := s.hqSlice q
  let wd := df w 2 0 5
  let me := df w 2 5 2
  let n := df w 2 7 12
  let iq := df w 7 0 4
  let rb := if me = 1 then 3 * modWidth iq else rbBytes wd me
  let refs := [(dref w 3, 48 * n), (dref w 5, rb * n)]
  if (me ≠ 1 ∧ !widthOk wd) ∨ me = 3 then s.jobRefused
  else if !s.refsOk sl refs then s.jobUnreached sl refs
  else
    let r := s.compressRun sl (dref w 3) wd me n iq (df w 7 4 1)
    (r.2.refWrite sl (dref w 5) 0 r.1).jobDone (markedM r.1) 0

/-! ### The commands -/

/-- NOP. -/
def execNop (q : Fin 64) (s : State) : Answer := .next (s.hqRun q 0 jobNop)
/-- DMA. -/
def execDma (q : Fin 64) (s : State) : Answer := .next (s.hqRun q 1 jobDma)
/-- FFT. -/
def execFft (q : Fin 64) (s : State) : Answer := .next (s.hqRun q 2 jobFft)
/-- LDPC_DEC. -/
def execLdpcDec (q : Fin 64) (s : State) : Answer := .next (s.hqRun q 3 jobLdpcDec)
/-- LDPC_ENC. -/
def execLdpcEnc (q : Fin 64) (s : State) : Answer := .next (s.hqRun q 4 jobLdpcEnc)
/-- POLAR_DEC. -/
def execPolarDec (q : Fin 64) (s : State) : Answer := .next (s.hqRun q 5 jobPolarDec)
/-- POLAR_ENC. -/
def execPolarEnc (q : Fin 64) (s : State) : Answer := .next (s.hqRun q 6 jobPolarEnc)
/-- EXPAND. -/
def execExpand (q : Fin 64) (s : State) : Answer := .next (s.hqRun q 7 jobExpand)
/-- COMPRESS. -/
def execCompress (q : Fin 64) (s : State) : Answer := .next (s.hqRun q 8 jobCompress)
/-- HELPER_COMPLETION. -/
def execHelperCompletion (q : Fin 64) (k : Nat) (s : State) : Answer := .next (s.hqComplete q k)
/-- HQ_ENABLE. -/
def execHqEnable (q : Fin 64) (v : Word) (s : State) : Answer := .next (s.hqWrite q v)

end Sys2Proof.Machine
end

