-- ==== Sys2Proof/Machine/EthOps.lean ====
section
/-! DEFINITION. Ethernet transmission (R407 to R422): ports, descriptor rings and write-back, launch times, the guard, and
the deficit round robin. -/

namespace Sys2Proof.Machine

/-- An Ethernet event. -/
def State.ethEvent (s : State) (f : Fld) : State := s.event f 4
/-- The Ethernet blocks changed. -/
def State.onEth (s : State) (f : EthRt → EthRt) : State := { s with eth := f s.eth }
/-- A transmit queue beside its registers. -/
def State.txq (s : State) (q : Nat) : TxqRt := mapGet (fun _ => TxqRt.reset) s.eth.txq q
/-- A transmit queue changed; its `TOKENS` register follows it (R421). -/
def State.onTxq (s : State) (q : Nat) (f : TxqRt → TxqRt) : State :=
  let x := f (s.txq q)
  (s.onEth (fun e => { e with txq := mapSet (fun _ => TxqRt.reset) e.txq q x })).put (TSH_TXQ_TOKENS_TOKENS q) (intCode 32 (x.tokens / 1024))
/-- A receive queue beside its registers. -/
def State.rxq (s : State) (q : Nat) : RxqRt := mapGet (fun _ => RxqRt.reset) s.eth.rxq q
/-- A receive queue changed; its `TOKENS` register follows it (R423). -/
def State.onRxq (s : State) (q : Nat) (f : RxqRt → RxqRt) : State :=
  let x := f (s.rxq q)
  (s.onEth (fun e => { e with rxq := mapSet (fun _ => RxqRt.reset) e.rxq q x })).put (TSH_RXQ_TOKENS_TOKENS q) (intCode 32 (x.tokens / 1024))
/-- A port beside its registers. -/
def State.ethPort (s : State) (p : Nat) : EthPortRt := mapGet (fun _ => EthPortRt.reset) s.eth.port p
/-- A port changed. -/
def State.onPort (s : State) (p : Nat) (f : EthPortRt → EthPortRt) : State :=
  s.onEth (fun e => { e with port := mapSet (fun _ => EthPortRt.reset) e.port p (f (s.ethPort p)) })

/-- Whether a port is UP (R408). -/
def State.ethLink (s : State) (p : Nat) : Bool := decide (s.get (ETH_PORT_STATUS_STATE p) = 2)
/-- A port's rate in Gb/s (R407). -/
def State.portRate (s : State) (p : Nat) : Nat := 100 * 2 ^ s.get (ETH_QUAD_CFG_MODE (p / 4))
/-- The LIVE slice whose range holds transmit queue `q` (R308). -/
def State.txSlice (s : State) (q : Nat) : Option Nat :=
  (List.range 64).find? (fun sl => s.live sl && decide (s.get (SLC_ETHTX_BASE sl) ≤ q ∧ q < s.get (SLC_ETHTX_BASE sl) + s.get (SLC_ETHTX_COUNT sl)))
/-- The LIVE slice whose range holds receive queue `q` (R308). -/
def State.rxSlice (s : State) (q : Nat) : Option Nat :=
  (List.range 64).find? (fun sl => s.live sl && decide (s.get (SLC_ETHRX_BASE sl) ≤ q ∧ q < s.get (SLC_ETHRX_BASE sl) + s.get (SLC_ETHRX_COUNT sl)))

/-! ### Rings -/

/-- Bytes of a ring, buffer or frame read from a space: from host memory what the read returned, if it did. -/
def State.spaceRead (s : State) (sl space addr n : Nat) (host : Option (List Byte)) : Option (List Byte) × State :=
  if space = 0 then (if s.dmaOpen then host.map (fun d => (d ++ List.replicate n 0).take n) else none, s.hostAsk sl addr n)
  else
    let r := s.viewRead sl (s.viewLines sl false) (decide (space = 2)) (addr % 2 ^ 40) n
    (match r.1 with | some d => if markedM d then none else some (bytesM d) | none => none, r.2)

/-- Bytes written to a space; `true` is a failure. For host memory `ok` tells whether the write succeeded. -/
def State.spaceWrite (s : State) (sl space addr : Nat) (d : List Byte) (ok : Bool) : Bool × State :=
  if space = 0 then (!(ok && s.dmaOpen), if ok then s.hostWrite sl addr d else s.dmaGate)
  else s.homeWrite sl (decide (space = 2)) (addr % 2 ^ 40) (cleanM d)

/-- Whether `n` bytes of a buffer translate (R183); for host memory the host's answer tells. -/
def State.spaceOk (s : State) (sl space addr n : Nat) (host : Bool) : Bool :=
  if space = 0 then host else s.rangeOk sl (decide (space = 2)) (addr % 2 ^ 40) n

/-- A descriptor written back (R415, R416): words 4 to 6 before word 0. Without a time stamp, words 4 and 5 are free values. -/
def State.txWriteBack (s0 : State) (f : TxFrame) : State :=
  let fv := s0.takeFree
  let st := (f.fin.getD (0, 0)).1
  let stamp := (f.fin.getD (0, 0)).2
  let sent := decide (st = 0 ∧ df f.desc 0 14 1 = 1)
  let ns := if sent then stamp / 2 ^ 32 else fv.1.toNat
  let fr := if sent then stamp % 2 ^ 32 else 0
  let w0 := bitPut (bitPut (dw f.desc 0) 20 4 st) 31 1 1
  let s1 := ((if sent then s0 else fv.2).spaceWrite f.slice f.space (f.addr + 16) (natToBytes 8 ns ++ natToBytes 4 fr) true).2
  let s2 := (s1.spaceWrite f.slice f.space f.addr (natToBytes 4 w0) true).2
  if df f.desc 0 16 1 = 1 then s2.raise (64 + 16 * f.slice + 4) else s2

/-- The frames at a queue's head that have ended are written back, in ring order (R416). -/
def State.txFlush (s : State) (q : Nat) : List TxFrame → State
  | [] => s
  | f :: t =>
    if f.fin.isSome then
      let s1 := (s.txWriteBack f).onTxq q (fun x => { x with frames := t })
      (s1.put (TSH_TXQ_STATUS_CONS q) ((s1.get (TSH_TXQ_STATUS_CONS q) + 1) % 2 ^ 32)).txFlush q t
    else s

/-- Of the frames not ended, the one on the wire (`air`) or the first that is not ends with a status and stamp. -/
def finHead (air : Bool) (st stamp : Nat) : List TxFrame → List TxFrame
  | [] => []
  | f :: t =>
    if f.fin.isNone ∧ f.air = air then { f with fin := some (st, stamp), air := false } :: t else f :: finHead air st stamp t

/-- A frame of a queue ends: the one on the wire (`air`), or its head (R417, R418); what can be written back is, in ring order. A
queue that empties has no deficit (R420). -/
def State.txEnd (s : State) (q : Nat) (air : Bool) (st stamp : Nat) : State :=
  let s1 := s.onTxq q (fun x => { x with frames := finHead air st stamp x.frames })
  (s1.txFlush q (s1.txq q).frames).onTxq q (fun x => if x.frames.isEmpty ∧ x.msgs.isEmpty then { x with deficit := 0 } else x)

/-- The first message of a queue taken from it. -/
def State.dropMsg (s : State) (q : Nat) : State :=
  s.onTxq q (fun x => { x with msgs := x.msgs.drop 1, deficit := if x.frames.isEmpty ∧ x.msgs.length = 1 then 0 else x.deficit })

/-- A built message is done with: the `FH_TX` descriptor may complete with `st` (R298). -/
def State.msgDone (s : State) (m : TxMsg) (st : Nat) : State :=
  let s1 := s.onHelper m.hq.val (fun h => { h with jobs := h.jobs.map (fun (j : HelperJob) =>
    if j.idx = m.idx ∧ j.msg.isSome then { j with msg := none, status := st } else j) })
  if st = 4 then (s1.tally BBH_TX_LATE).bbhEvent BBH_EVENT_TX_LATE else s1

/-! ### Heads, launch times and the guard -/

/-- A ring frame's launch time in units of 2^-32 ns. -/
def TxFrame.launch (f : TxFrame) : Option Nat := if df f.desc 0 15 1 = 1 then some (dref f.desc 4 * 2 ^ 32) else none

/-- The head of a queue: the first ring frame not ended, or the first message of an earlier launch time (R417). -/
def State.txHead (s : State) (q : Nat) : Option OnWire :=
  let x := s.txq q
  match x.frames.find? (fun f => f.fin.isNone && !f.air), x.msgs with
  | none, [] => none
  | some f, [] => some (.frame q f)
  | none, m :: _ => some (.msg q m)
  | some f, m :: _ => if f.launch.getD 0 ≤ m.launch then some (.frame q f) else some (.msg q m)

/-- The launch time of what heads a queue. -/
def OnWire.launch : OnWire → Option Nat
  | .frame _ f => f.launch
  | .msg _ m => some m.launch
  | .owd _ => none
/-- The bytes before the FCS, padded to 60 (R409). -/
def OnWire.bytes (w : OnWire) : List Byte :=
  let d : List Byte := match w with | .frame _ f => f.data | .msg _ m => m.data | .owd d => d
  d ++ List.replicate (60 - d.length) 0
/-- L of a frame (R409). -/
def OnWire.len (w : OnWire) : Nat := w.bytes.length + 4

/-- Whether what heads a queue of port `p` is late (R418, R298). -/
def State.txIsLate (s : State) (p : Nat) (w : OnWire) : Bool :=
  match w with
  | .frame _ f => match f.launch with
    | some l => decide (l + 1000 * s.get (TSH_PORT_CFG_LT_LATE p) * 2 ^ 32 < s.now)
    | none => false
  | .msg _ m => decide (m.launch + 2000 * 2 ^ 32 < s.now)
  | .owd _ => false

/-- The transmit stamp of a frame whose delimiter is sampled `ph` eighths of a tick after T (R430, R431); none, 0, before the time PLL
locks (R441). -/
def State.txStamp (s : State) (p ph : Nat) : Nat :=
  if !s.time.counts then 0
  else (s.now + ph * (tickUnits / 8) + s.get (TIM_CORR_TX_CORR (s.get (ETH_QUAD_CFG_MODE (p / 4)))) * 2 ^ 26) % 2 ^ 96

/-- The transmit queues that hold something, of a port and level. -/
def State.txOf (s : State) (p l : Nat) : List Nat :=
  (s.eth.txq.map (fun e => e.1)).filter (fun q =>
    decide (s.get (TSH_TXQ_CFG_PORT q) = p ∧ s.get (TSH_TXQ_CFG_LEVEL q) = l) && (s.txHead q).isSome)

/-- The earliest launch time among the level-0 frames of a port that have been taken in and not sent (R422). -/
def State.guardTime (s : State) (p : Nat) : Option Nat :=
  let all := (s.txOf p 0).flatMap (fun q =>
    ((s.txq q).frames.filter (fun f => f.fin.isNone && !f.air)).filterMap TxFrame.launch ++ (s.txq q).msgs.map (fun m => m.launch))
  all.foldl (fun (a : Option Nat) l => match a with | none => some l | some b => some (min b l)) none

/-- Whether the guard allows a frame of cost `c` bytes to start now (R422). -/
def State.guardOk (s : State) (p ph c : Nat) : Bool :=
  match s.guardTime p with
  | none => true
  | some a =>
    let r := s.portRate p
    decide ((s.now + ph * (tickUnits / 8) + 50 * 2 ^ 32) * r + c * 8 * 2 ^ 32 ≤ a * r)

/-- A frame's cost on a port (R420). -/
def State.txCost (s : State) (p : Nat) (w : OnWire) : Nat := w.len + s.get (TSH_PORT_CFG_OVH p)

/-- Whether a queue of level `l` is eligible (R420). -/
def State.txEligible (s : State) (p ph l q : Nat) : Bool :=
  match s.txHead q with
  | none => false
  | some w =>
    let stopped : Bool := match w with | .frame _ _ => s.flag (TSH_TXQ_CFG_QSTOP q) | _ => false
    s.flag (TSH_TXQ_CFG_EN q) && !stopped && !s.txIsLate p w
      && (match w.launch with | some t => s.time.counts && decide (t ≤ s.txStamp p ph) | none => true)
      && (decide (s.get (TSH_TXQ_SHAPE_RATE q) = 0) || decide (0 ≤ (s.txq q).tokens))
      && (decide (l = 0) || s.guardOk p ph (s.txCost p w))

/-! ### The scheduler -/

/-- A level's list with the queues that hold nothing gone and those that have become non-empty before `cur` (R420). -/
def State.txList (s : State) (p l : Nat) : List Nat :=
  let old := mapGet (fun _ => []) (s.ethPort p).lists l
  let now := s.txOf p l
  old.filter (fun q => now.contains q) ++ now.filter (fun q => !old.contains q)

/-- Whether `cur`'s turn goes on. -/
def State.txTurn (s : State) (p l : Nat) : Bool :=
  let old := mapGet (fun _ => []) (s.ethPort p).lists l
  mapGet (fun _ => false) (s.ethPort p).begun l && decide (old.head? = (s.txList p l).head?)

/-- A level's list and turn stored. -/
def State.setTxList (s : State) (p l : Nat) (qs : List Nat) (turn : Bool) : State :=
  s.onPort p (fun x => { x with lists := mapSet (fun _ => []) x.lists l qs, begun := mapSet (fun _ => false) x.begun l turn })

/-- Whether a queue holds one frame or message alone that has not ended. -/
def State.txLast (s : State) (q : Nat) : Bool :=
  decide (((s.txq q).frames.filter (fun f => f.fin.isNone && !f.air)).length + (s.txq q).msgs.length = 1)

/-- The deficit round robin of one level (R420): the queue served, and the state with deficits, list and turn. -/
def drrPick (p ph l : Nat) : Nat → List Nat → Bool → State → Option (Nat × State)
  | 0, _, _, _ => none
  | _, [], _, _ => none
  | f + 1, q :: t, turn, s =>
    if !s.txEligible p ph l q then drrPick p ph l f (t ++ [q]) false s
    else
      let d := (s.txq q).deficit + (if turn then 0 else s.get (TSH_TXQ_DRR_QUANTUM q))
      let cost := match s.txHead q with | some w => s.txCost p w | none => 0
      if cost ≤ d then
        if s.txLast q then some (q, (s.onTxq q (fun x => { x with deficit := 0 })).setTxList p l t false)
        else some (q, (s.onTxq q (fun x => { x with deficit := d - cost })).setTxList p l (q :: t) true)
      else drrPick p ph l f (t ++ [q]) false (s.onTxq q (fun x => { x with deficit := d }))

/-- The head of queue `q` starts on port `p`: the shaper pays for it (R421). -/
def State.txGo (s : State) (p ph q : Nat) : State :=
  match s.txHead q with
  | none => s
  | some w =>
    let stamp := s.txStamp p ph
    let cost := s.txCost p w
    let s1 := if s.get (TSH_TXQ_SHAPE_RATE q) = 0 then s else s.onTxq q (fun x => { x with tokens := x.tokens - 1024 * (cost : Int) })
    let s2 := match w with
      | .frame _ _ => s1.onTxq q (fun x =>
          { x with frames := x.frames.map (fun (f : TxFrame) => if some f = x.frames.find? (fun (g : TxFrame) => g.fin.isNone && !g.air) then { f with air := true } else f) })
      | .msg _ _ => s1.onTxq q (fun x => { x with msgs := x.msgs.drop 1 })
      | .owd _ => s1
    s2.onPort p (fun x => { x with wire := some (w, stamp) })

/-- The lowest level that holds an eligible queue is served; `l` counts the levels up (R420). -/
def State.txServe (s : State) (p ph : Nat) : Nat → State
  | 0 => s
  | n + 1 =>
    let l := 7 - n
    let qs := s.txList p l
    if qs.any (fun q => s.txEligible p ph l q) then
      match drrPick p ph l (150 * qs.length + 1) qs (s.txTurn p l) s with
      | some (q, s1) => s1.txGo p ph q
      | none => s
    else s.txServe p ph n

/-- The heads of a port's queues end without a link (R419). A built message's descriptor completes LATE, the one status of a
message that is not sent. -/
def State.txNoLink (s : State) (p : Nat) : State :=
  ((List.range 8).flatMap (fun l => s.txOf p l)).foldl (fun a q =>
    match a.txHead q with
    | some (.frame _ _) => a.txEnd q false 2 0
    | some (.msg _ m) => (a.dropMsg q).msgDone m 4
    | _ => a) s

/-- ETH_TX_FRAME_START: a frame boundary of port `p` (R419, R420, R422). -/
def State.txStart (s : State) (p ph : Nat) : State :=
  if !s.ethInUse p ∨ (s.ethPort p).wire.isSome then s
  else if !s.ethLink p then s.txNoLink p
  else
    match (s.ethPort p).owd with
    | d :: t =>
      if s.guardOk p ph (s.txCost p (.owd d)) then s.onPort p (fun x => { x with owd := t, wire := some (.owd d, s.txStamp p ph) })
      else s.txServe p ph 8
    | [] => s.txServe p ph 8

/-- What was on a port's wire ends with a status; `st` 0 is sent (R416, R419). -/
def State.txWireEnd (s : State) (p st : Nat) : State :=
  match (s.ethPort p).wire with
  | none => s
  | some (w, stamp) =>
    let s1 := s.onPort p (fun x => { x with wire := none })
    let s2 := if st = 0 then ((s1.emit (.eth p w.bytes)).tally (ETH_TX_FRAMES p)).count (ETH_TX_OCTETS p) w.len else s1
    match w with
    | .frame q f =>
      if ((s2.txq q).frames.head?.map (fun g => g.air)).getD false then s2.txEnd q true st stamp
      else s2.txWriteBack { f with fin := some (st, stamp) }
    | .msg _ m => s2.msgDone m (if st = 0 then 0 else 4)
    | .owd _ => s2

/-- ETH_TX_COMPLETE. -/
def State.txComplete (s : State) (p : Nat) : State := s.txWireEnd p 0

/-- A late head of a queue is not sent (R418). -/
def State.txLate (s : State) (q : Nat) : State :=
  match s.txHead q with
  | none => s
  | some w =>
    if s.txIsLate (s.get (TSH_TXQ_CFG_PORT q)) w ∧ s.flag (TSH_TXQ_CFG_EN q) then
      match w with
      | .frame _ _ => ((s.tally (TSH_TXQ_LATE q)).ethEvent ETH_EVENT_TX_LATE).txEnd q false 1 0
      | .msg _ m => (s.dropMsg q).msgDone m 4
      | .owd _ => s
    else s

/-- FH_TX_LAUNCH: the built message at the head of a radio egress queue is sent at its launch time where the scheduler of its
port serves it, or completes LATE (R298, R420). -/
def State.fhLaunch (s : State) (q ph : Nat) : State :=
  let p := s.get (TSH_TXQ_CFG_PORT q)
  match s.txHead q with
  | some (.msg _ m) =>
    if s.txIsLate p (.msg q m) then s.txLate q
    else
      let r := s.txStart p ph
      match (r.ethPort p).wire with
      | some (.msg q' _, _) => if q' = q then r else s
      | _ => s
  | _ => s

/-! ### Descriptor fetch (R413 to R415) -/

/-- A queue stops (R414), and `DET_081` fires (R507). -/
def State.txStop (s : State) (q : Nat) : State :=
  ((s.put (TSH_TXQ_CFG_QSTOP q) 1).ethEvent ETH_EVENT_QSTOP).fire 81 q 4 ((s.txSlice q).getD 0) 0

/-- Whether a transmit descriptor is refused by its own fields (R415). -/
def State.txBad (s : State) (p : Nat) (w : List Word) : Bool :=
  let len := df w 0 0 14
  decide (df w 0 17 3 ≠ 0 ∨ df w 0 24 7 ≠ 0 ∨ dw w 7 ≠ 0) || decide (len < 14 ∨ 9212 < len)
    || decide (s.get (ETH_PORT_CTRL_MAX_FRAME p) < max 64 (len + 4))
    || (decide (df w 0 15 1 = 1) && decide (s.now + 10000000 * 2 ^ 32 < dref w 4 * 2 ^ 32))

/-- ETH_TX_DESCRIPTOR_FETCH: the next descriptor of a queue and its frame are read. For a ring in host memory `desc` is what the
read returned, and `frame` what the read of the frame came to: no translation, an error, or data. -/
def State.txFetch (s : State) (q : Nat) (desc : Option (List Byte)) (frame : Option (Option (List Byte))) : State :=
  match s.txSlice q with
  | none => s
  | some sl =>
    if !s.flag (TSH_TXQ_CFG_EN q) ∨ s.flag (TSH_TXQ_CFG_QSTOP q) ∨ (s.txq q).fetched = (s.txq q).prod
        ∨ (s.get (TSH_TXQ_CFG_SPACE q) ≠ 0 ∧ !s.tiersOpen) then s
    else
      let space := s.get (TSH_TXQ_CFG_SPACE q)
      let addr := s.get64 (TSH_TXQ_RING_LO_ADDR q) (TSH_TXQ_RING_HI_ADDR q) + 32 * ((s.txq q).fetched % 2 ^ s.get (TSH_TXQ_CFG_LOG2 q))
      let r := s.spaceRead sl space addr 32 desc
      match r.1 with
      | none => r.2.txStop q
      | some d =>
        let w := (chunksOf 4 8 d).map (fun b => BitVec.ofNat 32 (bytesToNat b))
        let len := df w 0 0 14
        let buf := dref w 2
        let add (a : State) (fin : Option (Nat × Nat)) (data : List Byte) : State :=
          let a1 := a.onTxq q (fun x => { x with fetched := (x.fetched + 1) % 2 ^ 32, frames := x.frames ++ [⟨w, space, sl, addr, fin, false, data⟩] })
          a1.txFlush q (a1.txq q).frames
        if r.2.txBad (s.get (TSH_TXQ_CFG_PORT q)) w then add r.2 (some (3, 0)) []
        else if !r.2.spaceOk sl space buf len frame.isSome then
          add (if space = 0 then r.2 else r.2.tally (SLC_REFUSE sl)) (some (3, 0)) []
        else
          let g := r.2.spaceRead sl space buf len (frame.getD none)
          match g.1 with
          | none => add g.2 (some (4, 0)) []
          | some x => add g.2 none x

end Sys2Proof.Machine
end

