-- ==== Sys2Proof/Machine/Fronthaul.lean ====
section
/-! DEFINITION. Fronthaul (R293 to R298): reception of O-RAN U-plane messages into symbol rings, one-way delay responses,
completion of symbols, and the messages that `FH_TX` builds. The layout of O-RAN and eCPRI headers is that of the standards
the manual names (PRESUMED, log entry 21). -/

namespace Sys2Proof.Machine

/-! ### Times of symbols (R278, R279) -/

/-- Tc in units of 2^-32 ns. -/
def tcUnits (tc : Nat) : Nat := tc * 100000 * 2 ^ 32 / 196608
/-- The duration of symbol `k` in Tc. -/
def symbolTc (khz15 : Bool) (k : Nat) : Nat :=
  if khz15 then (if k % 7 = 0 then 141312 else 140288) else (if k = 0 then 71168 else 70144)
/-- The start of symbol `k` in its slot in Tc. -/
def symbolStart (khz15 : Bool) (k : Nat) : Nat := ((List.range k).map (symbolTc khz15)).sum
/-- A slot in Tc. -/
def slotTc (khz15 : Bool) : Nat := if khz15 then 1966080 else 983040

/-- The frame, counted without wrap, whose number is `f` modulo `m` and that is nearest to the present time. -/
def State.nearFrame (s : State) (f m : Nat) : Int :=
  let cur : Int := ((s.nowNs : Int) - s.get BBA_FRAME_CFG_OFF_NS) / 10000000
  let d : Nat := (((f : Int) - cur) % (m : Int)).toNat
  if 2 * d < m then cur + d else cur + d - m

/-- The air start of a symbol in units of 2^-32 ns. -/
def State.symbolTime (s : State) (frame : Int) (khz15 : Bool) (slot k : Nat) : Int :=
  (s.get BBA_FRAME_CFG_OFF_NS + 10000000 * frame) * 2 ^ 32 + tcUnits (slot * slotTc khz15 + symbolStart khz15 k)

/-- The receive window of a symbol of carrier `car`: opening and close (R296). -/
def State.symbolWindow (s : State) (car : Nat) (frame : Int) (slot k : Nat) : Int × Int :=
  let k15 := s.flag (BBH_CAR_CFG_SCS car)
  let t := s.symbolTime frame k15 slot k
  (t + 1000 * s.get (BBH_CAR_CFG_T_MIN car) * 2 ^ 32,
   t + tcUnits (symbolTc k15 k) + 1000 * s.get (BBH_CAR_CFG_T_MAX car) * 2 ^ 32)

/-- The window of the symbol that is numbered `g` (R295) and nearest. -/
def State.gWindow (s : State) (i g : Nat) : Int × Int :=
  let car := s.get (BBH_FH_MAP_CFG_CAR i)
  let per := if s.flag (BBH_CAR_CFG_SCS car) then 10 else 20
  s.symbolWindow car (s.nearFrame (g / 14 / per) 1024) (g / 14 % per) (g % 14)

/-! ### Reception -/

/-- The map index of an eAxC ID (R294). -/
def eaxcIndex (mask id : Nat) : Nat :=
  let bits := (List.range 16).filter (fun i => decide (mask / 2 ^ i % 2 = 1))
  bitsToNat (bits.map (fun i => decide (id / 2 ^ i % 2 = 1)))

/-- The map's `DST` of an entry. -/
def State.fhDst (s : State) (i : Nat) : Nat := s.get64 (BBH_FH_MAP_DST_LO_DST i) (BBH_FH_MAP_DST_HI_DST i)
/-- The offset of a resource block in an entry's symbol ring (R295). -/
def State.fhOffset (s : State) (i g p : Nat) : Nat :=
  g % 2 ^ s.get (BBH_FH_MAP_STR_RLOG2 i) * s.get (BBH_FH_MAP_STR_SYM_STRIDE i) + 48 * p
/-- The symbol of an entry in reception. -/
def State.fhSym (s : State) (i g : Nat) : Option FhSym := s.radio.syms.find? (fun x => decide (x.entry = i ∧ x.g = g))

/-- A symbol's record changed, and begun where there is none. -/
def onSym (i g : Nat) (f : FhSym → FhSym) (l : List FhSym) : List FhSym :=
  if l.any (fun x => decide (x.entry = i ∧ x.g = g)) then l.map (fun x => if x.entry = i ∧ x.g = g then f x else x)
  else f ⟨i, g, [], [], false⟩ :: l

/-- A resource block of a message that came within the window (`inw`) or before it (R295, R296). -/
def State.fhBlock (s : State) (inw : Bool) (i g p : Nat) (d : List Byte) : State :=
  let nrb := s.get (BBH_CAR_CFG_NRB (s.get (BBH_FH_MAP_CFG_CAR i)))
  let o := s.fhOffset i g p
  if nrb ≤ p then s.tally BBH_FH_DROP
  else if inw ∧ ((s.fhSym i g).map (fun x => x.win.contains p)).getD false then s.tally BBH_FH_DUP
  else if !s.refOk 0 (s.fhDst i) o 48 then s.tally BBH_FH_DROP
  else
    let e := expandRb (s.get (BBH_FH_MAP_CFG_WIDTH i)) (2 * s.get (BBH_FH_MAP_CFG_METHOD i)) d
    let s1 := ((s.refWrite 0 (s.fhDst i) o (cleanM (ciBytes e.1)))).count BBH_EXP_SAT e.2
    s1.onRadio (fun r => { r with syms := onSym i g (fun x => { x with got := p :: x.got, win := if inw then p :: x.win else x.win }) r.syms })

/-- The big-endian field of `n` bytes at `o`. -/
def beAt (d : List Byte) (o n : Nat) : Nat := bytesToNat ((d.drop o).take n).reverse

/-- The resource blocks of a section from number `p` on. -/
def State.fhBlocks (s : State) (inw : Bool) (i g rb : Nat) : Nat → Nat → List Byte → State
  | 0, _, _ => s
  | n + 1, p, d => if d.length < rb then s.tally BBH_FH_DROP else (s.fhBlock inw i g p (d.take rb)).fhBlocks inw i g rb n (p + 1) (d.drop rb)

/-- The sections of a message (R295). -/
def State.fhSections (s : State) (inw : Bool) (i g : Nat) : Nat → List Byte → State
  | 0, _ => s
  | f + 1, d =>
    if d.length < 4 then s
    else
      let rb := rbBytes (s.get (BBH_FH_MAP_CFG_WIDTH i)) (2 * s.get (BBH_FH_MAP_CFG_METHOD i))
      let num := beAt d 3 1
      let n := if num = 0 then s.get (BBH_CAR_CFG_NRB (s.get (BBH_FH_MAP_CFG_CAR i))) else num
      (s.fhBlocks inw i g rb n (beAt d 1 2 % 1024) (d.drop 4)).fhSections inw i g f (d.drop (4 + rb * n))

/-- A sequence number met (R293). -/
def State.fhSeq (s : State) (id seq : Nat) : State :=
  let old := mapGet (fun _ => 0) s.radio.rxSeq id
  let s1 := if old ≠ 0 ∧ old % 256 ≠ seq then s.tally BBH_FH_SEQ_GAP else s
  s1.onRadio (fun r => { r with rxSeq := mapSet (fun _ => 0) r.rxSeq id (seq + 1) })

/-- A U-plane message (R293 to R296); `m` begins with the eCPRI common header. One whose entry has a width that R52 does not list is
dropped (DEDUCED, log entry 125). -/
def State.fhUplane (s0 : State) (m : List Byte) (stamp : Nat) : State :=
  if beAt m 7 1 < 128 then s0.tally BBH_FH_DROP
  else
    let id := beAt m 4 2
    let s := s0.fhSeq id (beAt m 6 1)
    let i := eaxcIndex (s.get BBH_FH_EAXC_MASK_MASK) id
    let car := s.get (BBH_FH_MAP_CFG_CAR i)
    let k15 := s.flag (BBH_CAR_CFG_SCS car)
    let slotId := beAt m 10 2 / 64 % 64
    let per := if k15 then 1 else 2
    let slot := beAt m 10 1 / 16 * per + slotId
    let sym := beAt m 11 1 % 64
    if !s.flag (BBH_FH_MAP_CFG_EN i) ∨ s.get (BBH_FH_MAP_CFG_EAXC i) ≠ id ∨ 128 ≤ beAt m 8 1 ∨ beAt m 8 1 / 16 % 8 ≠ 1
        ∨ !s.flag (BBH_CAR_CFG_EN car) ∨ !widthOk (s.get (BBH_FH_MAP_CFG_WIDTH i)) ∨ 10 * per ≤ slot ∨ 14 ≤ sym ∨ per ≤ slotId then s.tally BBH_FH_DROP
    else
      let fr := s.nearFrame (beAt m 9 1) 256
      let w := s.symbolWindow car fr slot sym
      let g := ((fr % 1024).toNat * (10 * per) + slot) * 14 + sym
      let at' : Int := stamp
      if w.2 < at' then (s.tally BBH_FH_LATE).bbhEvent BBH_EVENT_FH_LATE
      else if at' + tcUnits (slotTc k15) < w.1 then s.tally BBH_FH_DROP
      else (if at' < w.1 then s.tally BBH_FH_EARLY else s).fhSections (decide (w.1 ≤ at')) i g m.length (m.drop 12)

/-- The one-way delay response (R293, R422): the request's addresses and tag, the port's first address as source, t2, and the
responder's compensation, which the manual does not give (a free value). -/
def State.owdAnswer (s0 : State) (p : Nat) (frame m : List Byte) (tagLen stamp : Nat) : State :=
  let fv := s0.takeFree
  let s := fv.2
  let ns := stamp / 2 ^ 32
  let be (n v : Nat) : List Byte := (natToBytes n v).reverse
  let src := natToBytes 4 (s.get (ETH_PORT_MAC_LO_ADDR p 0)) ++ natToBytes 2 (s.get (ETH_PORT_MAC_HI_ADDR p 0))
  let body := (m.drop 4).take 1 ++ [(2 : Byte)] ++ be 6 (ns / 1000000000) ++ be 4 (ns % 1000000000) ++ be 8 fv.1.toNat
  let f := (frame.drop 6).take 6 ++ src ++ (frame.drop 12).take (tagLen + 2) ++ [(0x10 : Byte), 5] ++ be 2 20 ++ body
  s.onPort p (fun x => { x with owd := x.owd ++ [f] })

/-- A frame on the fronthaul path of port `p` (R293): `none` where it goes to software. -/
def State.fhFrame (s : State) (p : Nat) (frame : List Byte) (tagLen stamp : Nat) : Option State :=
  let all := frame.drop (14 + tagLen)
  let m := all.take (4 + beAt all 2 2)
  let typ := beAt m 1 1
  let s1 := (s.tally (ETH_RX_FRAMES p)).count (ETH_RX_OCTETS p) (frame.length + 4)
  if beAt m 0 1 % 2 = 1 then some (s1.tally BBH_FH_DROP)
  else if typ = 5 then (if beAt m 5 1 = 0 then some (s1.owdAnswer p frame m tagLen stamp) else none)
  else if typ = 2 then none
  else if typ = 0 ∧ beAt m 0 1 / 16 = 1 then some (s1.fhUplane m stamp)
  else some (s1.tally BBH_FH_DROP)

/-- The number of a symbol of an entry: the numbers wrap with the frames (R295). -/
def State.gWrap (s : State) (i g : Nat) : Nat :=
  g % (14 * 1024 * (if s.flag (BBH_CAR_CFG_SCS (s.get (BBH_FH_MAP_CFG_CAR i))) then 10 else 20))

/-- FH_SYMBOL_COMPLETE: symbol `g0` of entry `i` completes once all its resource blocks are written or its window has closed
(R295). -/
def State.fhComplete (s : State) (i g0 : Nat) : State :=
  let g := s.gWrap i g0
  let nrb := s.get (BBH_CAR_CFG_NRB (s.get (BBH_FH_MAP_CFG_CAR i)))
  let got := ((s.fhSym i g).map (fun x => x.got)).getD []
  let miss := (List.range nrb).filter (fun p => !got.contains p)
  let w := s.gWindow i g
  let shut := decide (w.2 < (s.now : Int) ∧ (s.now : Int) ≤ w.2 + 10000000 * 2 ^ 32)
  if !s.flag (BBH_FH_MAP_CFG_EN i) ∨ ((s.fhSym i g).map (fun x => x.done)).getD false ∨ !(miss.isEmpty || shut) then s
  else
    let s1 := miss.foldl (fun a p =>
      let o := a.fhOffset i g p
      let b := if a.refOk 0 (a.fhDst i) o 48 then a.refWrite 0 (a.fhDst i) o (List.replicate 48 (0, false)) else a
      b.tally BBH_FH_MISSING) s
    let s2 := if miss.isEmpty then s1 else s1.bbhEvent BBH_EVENT_FH_MISSING
    let lately (x : FhSym) : Bool := decide ((s2.now : Int) ≤ (s2.gWindow x.entry x.g).2 + 10000000 * 2 ^ 32)
    let s3 := s2.onRadio (fun r => { r with
      syms := onSym i g (fun x => { x with done := true }) (r.syms.filter (fun x => !x.done || lately x)) })
    let dst := s3.fhDst i
    if s3.flag (BBH_FH_MAP_STR_EVV i) then s3.setEv (if bitField dst 62 2 = 0 then dst % 128 else 0) (s3.get (BBH_FH_MAP_STR_EV i)) else s3

/-! ### Transmission (R297, R298) -/

/-- The headers of a built message from its queue's template (R417). -/
def State.txTemplate (s : State) (q : Nat) : List Byte :=
  natToBytes 4 (s.get (TSH_TPL_W0_DA_LO q)) ++ natToBytes 2 (s.get (TSH_TPL_W1_DA_HI q))
    ++ natToBytes 2 (s.get (TSH_TPL_W1_SA_LO q)) ++ natToBytes 4 (s.get (TSH_TPL_W2_SA_HI q))
    ++ (if s.flag (TSH_TPL_W3_VLAN q) then [(0x81 : Byte), 0x00] ++ (natToBytes 2 (s.get (TSH_TPL_W3_TCI q))).reverse else [])
    ++ [(0xAE : Byte), 0xFE]

/-- FH_TX: a U-plane message built and put on its radio egress queue, which is slice 0's (R310, R314). -/
def jobFhTx (s : State) (hq : Nat) (w : List Word) : JobRes :=
  let sl := s.hqSlice hq
  let car := df w 2 0 8
  let q := df w 2 8 7
  let id := df w 3 0 16
  let sfn := df w 4 0 10
  let slot := df w 4 10 5
  let sym := df w 4 15 4
  let prb := df w 5 0 9
  let n := df w 5 9 9
  let wd := df w 5 18 5
  let me := df w 5 23 2
  let k15 := s.flag (BBH_CAR_CFG_SCS car)
  let per := if k15 then 1 else 2
  let hdr := s.txTemplate q
  let len := hdr.length + 16 + rbBytes wd me * n
  if !widthOk wd ∨ me = 1 ∨ me = 3 ∨ sl ≠ 0 ∨ 10 * per ≤ slot ∨ 14 ≤ sym ∨ 9216 < len + 4 then s.jobRefused
  else if !s.refsOk sl [(dref w 6, 48 * n)] then s.jobUnreached sl [(dref w 6, 48 * n)]
  else
    let r := s.compressRun sl (dref w 6) wd me n 0 0
    let data := bytesM r.1
    let seq := mapGet (fun _ => 0) s.radio.txSeq id
    let be (k v : Nat) : List Byte := (natToBytes k v).reverse
    let num := if 256 ≤ n then 0 else n
    let m := hdr ++ [(0x10 : Byte), 0] ++ be 2 (12 + data.length) ++ be 2 id ++ be 1 seq ++ [(0x80 : Byte)]
      ++ be 1 (0x80 + 16) ++ be 1 (sfn % 256) ++ be 2 (slot / per * 4096 + slot % per * 64 + sym)
      ++ be 3 (df w 4 19 12 * 4096 + prb) ++ be 1 num ++ data
    let t := s.symbolTime (s.nearFrame sfn 1024) k15 slot sym - 2000 * s.get (BBH_CAR_CFG_DL_ADV car) * 2 ^ 32
    let s1 := r.2.onRadio (fun x => { x with txSeq := mapSet (fun _ => 0) x.txSeq id ((seq + 1) % 256) })
    if markedM r.1 then s1.jobDone true 0
    else if t + 2000 * 2 ^ 32 < (s1.now : Int) then ⟨4, 0, 0, none, (s1.tally BBH_TX_LATE).bbhEvent BBH_EVENT_TX_LATE⟩
    else
      let idx := (s.helper hq).cons % 2 ^ s.get (BBH_Q_CFG_LOG2 hq)
      ⟨0, 0, 0, some q, s1.onTxq q (fun x => { x with msgs := x.msgs ++ [⟨t.toNat, Fin.ofNat 64 hq, idx, m⟩] })⟩

/-- FH_TX. -/
def execFhTx (q : Fin 64) (s : State) : Answer := .next (s.hqRun q 9 jobFhTx)
/-- FH_TX_LAUNCH. -/
def execFhTxLaunch (q : Fin 128) (ph : Fin 8) (s : State) : Answer := .next (s.fhLaunch q ph)
/-- FH_SYMBOL_COMPLETE. -/
def execFhSymbolComplete (i : Fin 4096) (g : Nat) (s : State) : Answer := .next (s.fhComplete i g)

end Sys2Proof.Machine
end

