-- ==== Sys2Proof/Machine/Ethernet.lean ====
section
/-! DEFINITION. The commands of the Ethernet ports and of traffic scheduling (R407 to R423). -/

namespace Sys2Proof.Machine

/-! ### Ports (R407, R408) -/

/-- Whether the domain of quad `k` is on (R33). -/
def State.quadOn (s : State) (k : Nat) : Bool := decide (s.get PWR_DOM_ETQ_ON / 2 ^ k % 2 = 1)
/-- An access to a port or quad that is off is noted (R38). -/
def State.ifQuad (s : State) (k : Nat) (f : State → State) : State :=
  if s.quadOn k then f s else s.put (fPwrOff (blkStatus 8)) 1

/-- QUAD_MODE_WRITE (R407). -/
def State.quadWrite (s : State) (k : Nat) (v : Word) : State :=
  let m := v.toNat % 4
  let old := s.get (ETH_QUAD_CFG_MODE k)
  s.ifQuad k (fun a =>
    if m = 3 then a.rsvdWr 8
    else if m ≠ old ∧ [0, 1, 2, 3].any (fun i => a.flag (ETH_PORT_CTRL_EN (4 * k + i))) then (a.lockWr 8).noteRsvd (ETH_QUAD_CFG_MODE k).key v
    else a.writeCodes (ETH_QUAD_CFG_MODE k).key v false)

/-- A port leaves UP (R408, R419, R434). -/
def State.ethDown (s : State) (p st : Nat) : State :=
  let was := s.ethLink p
  let s1 := (s.put (ETH_PORT_STATUS_STATE p) st).put (ETH_PORT_STATUS_FEC_LOCK p) 0
  if was then ((s1.txWireEnd p 2).ethEvent ETH_EVENT_LINK_DOWN).squelchPort p else s1

/-- ETH_PORT_ENABLE: a write of `ETH_PORT_CTRL_` (R407, R408). -/
def State.portWrite (s : State) (p : Nat) (v : Word) : State :=
  s.ifQuad (p / 4) (fun a =>
    if !a.ethInUse p then a.rsvdWr 8
    else
      let was := a.flag (ETH_PORT_CTRL_EN p)
      let a1 := a.writeCodes (ETH_PORT_CTRL_EN p).key v false
      let a2 := a1.put (ETH_PORT_CTRL_MAX_FRAME p) (max 64 (min 9216 (a1.get (ETH_PORT_CTRL_MAX_FRAME p))))
      if a2.flag (ETH_PORT_CTRL_EN p) = was then a2
      else if was then a2.ethDown p 0
      else a2.put (ETH_PORT_STATUS_STATE p) 1)

/-- ETH_LINK_UP (R408). -/
def State.linkUp (s : State) (p : Nat) : State :=
  if s.get (ETH_PORT_STATUS_STATE p) = 1 ∧ s.quadOn (p / 4) then
    ((s.put (ETH_PORT_STATUS_STATE p) 2).put (ETH_PORT_STATUS_FEC_LOCK p) 1).ethEvent ETH_EVENT_LINK_UP
  else s

/-- ETH_LINK_DOWN (R408). -/
def State.linkDown (s : State) (p : Nat) : State := if s.ethLink p then s.ethDown p 1 else s

/-! ### Queues (R412) -/

/-- A field whose write is ignored while a queue is enabled is given back its old value, with `LOCK_WR` (R412). -/
def State.keepField (s old : State) (f : Fld) : State := if s.get f = old.get f then s else (s.put f (old.get f)).lockWr 9

/-- TX_QUEUE_ENABLE: a write of `TSH_TXQ_CFG_` (R412, R420). -/
def State.txqWrite (s : State) (q : Nat) (v : Word) : State :=
  let on := s.flag (TSH_TXQ_CFG_EN q)
  let s1 := s.writeCodes (TSH_TXQ_CFG_EN q).key v false
  let s2 := if on then [TSH_TXQ_CFG_SPACE q, TSH_TXQ_CFG_LOG2 q, TSH_TXQ_CFG_PORT q, TSH_TXQ_CFG_LEVEL q].foldl (fun a f => a.keepField s f) s1 else s1
  let lv := s2.get (TSH_TXQ_CFG_LEVEL q)
  let s3 := s2.put (TSH_TXQ_CFG_LEVEL q) (if q < 128 then 0 else if lv = 0 then 1 else lv)
  if v.getLsbD 0 then
    if (s.txSlice q).isNone ∨ s3.get (TSH_TXQ_CFG_SPACE q) = 3 ∨ !s3.ethInUse (s3.get (TSH_TXQ_CFG_PORT q)) then
      (s.lockWr 9).noteRsvd (TSH_TXQ_CFG_EN q).key v
    else
      ((s3.put (TSH_TXQ_CFG_QSTOP q) 0).put (TSH_TXQ_STATUS_CONS q) 0).onTxq q (fun x =>
        { x with prod := 0, fetched := 0, frames := [], deficit := 0, tokens := 1024 * (s3.get (TSH_TXQ_BURST_BURST q) : Int) })
  else if on then s3.onTxq q (fun x => { x with frames := x.frames.filter (fun f => f.air) })
  else s3

/-- RX_QUEUE_ENABLE: a write of `TSH_RXQ_CFG_` (R412). -/
def State.rxqWrite (s : State) (q : Nat) (v : Word) : State :=
  let on := s.flag (TSH_RXQ_CFG_EN q)
  let s1 := s.writeCodes (TSH_RXQ_CFG_EN q).key v false
  let s2 := if on then [TSH_RXQ_CFG_SPACE q, TSH_RXQ_CFG_LOG2 q, TSH_RXQ_CFG_BUFSZ q].foldl (fun a f => a.keepField s f) s1 else s1
  if v.getLsbD 0 then
    if (s.rxSlice q).isNone ∨ s2.get (TSH_RXQ_CFG_SPACE q) = 3 then (s.lockWr 9).noteRsvd (TSH_RXQ_CFG_EN q).key v
    else
      ((s2.put (TSH_RXQ_CFG_QSTOP q) 0).put (TSH_RXQ_STATUS_CONS q) 0).onRxq q (fun _ =>
        ⟨0, 1024 * (s2.get (TSH_RXQ_PBURST_BURST q) : Int)⟩)
  else s2

/-- A slice's queues are disabled when it is destroyed (R323, R412). -/
def State.ethDisable (s : State) (sl : Nat) : State :=
  let tx := (List.range 1024).filter (fun q => decide (s.get (SLC_ETHTX_BASE sl) ≤ q ∧ q < s.get (SLC_ETHTX_BASE sl) + s.get (SLC_ETHTX_COUNT sl)))
  let rx := (List.range 1024).filter (fun q => decide (s.get (SLC_ETHRX_BASE sl) ≤ q ∧ q < s.get (SLC_ETHRX_BASE sl) + s.get (SLC_ETHRX_COUNT sl)))
  let s1 := tx.foldl (fun a q => if a.flag (TSH_TXQ_CFG_EN q) then
    (a.put (TSH_TXQ_CFG_EN q) 0).onTxq q (fun x => { x with frames := x.frames.filter (fun f => f.air) }) else a) s
  rx.foldl (fun a q => a.put (TSH_RXQ_CFG_EN q) 0) s1

/-- SHAPER_REFILL (R421, R423). -/
def State.refill (s : State) : State :=
  let fill (t : Int) (rate burst : Nat) : Int := min (t + 128 * (rate : Int)) (1024 * (burst : Int))
  let s1 := (List.range 1024).foldl (fun a q =>
    let r := a.get (TSH_TXQ_SHAPE_RATE q)
    if r = 0 then a else a.onTxq q (fun x => { x with tokens := fill x.tokens r (a.get (TSH_TXQ_BURST_BURST q)) })) s
  (List.range 1024).foldl (fun a q =>
    let r := a.get (TSH_RXQ_POLICE_RATE q)
    if r = 0 then a else a.onRxq q (fun x => { x with tokens := fill x.tokens r (a.get (TSH_RXQ_PBURST_BURST q)) })) s1

/-- A write that lowers a burst limits the tokens at once (R421, R423). -/
def State.limitTokens (s : State) (tx : Bool) (q : Nat) : State :=
  if tx then s.onTxq q (fun x => { x with tokens := min x.tokens (1024 * (s.get (TSH_TXQ_BURST_BURST q) : Int)) })
  else s.onRxq q (fun x => { x with tokens := min x.tokens (1024 * (s.get (TSH_RXQ_PBURST_BURST q) : Int)) })

/-! ### Reception (R409 to R411, R414, R416, R423, R430) -/

/-- The receive stamp of a frame on port `p` (R430, R431); none, 0, before the time PLL locks (R441). -/
def State.rxStamp (s : State) (p ph : Nat) : Nat :=
  if !s.time.counts then 0
  else (s.now + ph * (tickUnits / 8) + 2 ^ 96 - s.get (TIM_CORR_RX_CORR (s.get (ETH_QUAD_CFG_MODE (p / 4)))) * 2 ^ 26) % 2 ^ 96

/-- A frame delivered to receive queue `q` (R411, R414, R416, R423). For a ring in host memory `desc` is what the read of its
descriptor returned and `ok` whether the data could be written. -/
def State.deliver (s : State) (p q : Nat) (fhs : Bool) (frame : List Byte) (stamp : Nat) (desc : Option (List Byte)) (ok : Bool) : State :=
  let len := frame.length
  match s.rxSlice q with
  | none => s.tally (ETH_RX_NOMATCH p)
  | some sl =>
    if !s.flag (TSH_RXQ_CFG_EN q) then s.tally (ETH_RX_NOMATCH p)
    else if s.get (TSH_RXQ_CFG_SPACE q) ≠ 0 ∧ !s.tiersOpen then s
    else
      let policed := decide (s.get (TSH_RXQ_POLICE_RATE q) ≠ 0)
      if policed ∧ (s.rxq q).tokens < 0 then s.tally (TSH_RXQ_POL_DROP q)
      else
        let s1 := if policed then s.onRxq q (fun x => { x with tokens := x.tokens - 1024 * ((len : Int) + 4) }) else s
        let cons := s1.get (TSH_RXQ_STATUS_CONS q)
        let stop (a : State) : State := ((a.put (TSH_RXQ_CFG_QSTOP q) 1).ethEvent ETH_EVENT_QSTOP).fire 81 q 4 sl 0
        if s1.flag (TSH_RXQ_CFG_QSTOP q) ∨ cons = (s1.rxq q).prod then s1.tally (TSH_RXQ_NOBUF q)
        else if 256 * s1.get (TSH_RXQ_CFG_BUFSZ q) < len then s1.tally (TSH_RXQ_OVERSIZE q)
        else
          let space := s1.get (TSH_RXQ_CFG_SPACE q)
          let addr := s1.get64 (TSH_RXQ_RING_LO_ADDR q) (TSH_RXQ_RING_HI_ADDR q) + 32 * (cons % 2 ^ s1.get (TSH_RXQ_CFG_LOG2 q))
          let r := s1.spaceRead sl space addr 32 desc
          match r.1 with
          | none => stop r.2
          | some d =>
            let wr := r.2.spaceWrite sl space (bytesToNat (d.take 8)) frame ok
            if wr.1 then stop wr.2
            else
              let w2 := len + 2 ^ 14 * p + 2 ^ 30 * (if fhs then 1 else 0) + 2 ^ 31
              let hi := natToBytes 4 0 ++ natToBytes 8 (stamp / 2 ^ 32) ++ natToBytes 4 (stamp % 2 ^ 32) ++ natToBytes 4 0
              let s2 := (wr.2.spaceWrite sl space (addr + 12) hi true).2
              let s3 := (s2.spaceWrite sl space (addr + 8) (natToBytes 4 w2) true).2
              let s4 := ((s3.put (TSH_RXQ_STATUS_CONS q) ((cons + 1) % 2 ^ 32)).tally (ETH_RX_FRAMES p)).count (ETH_RX_OCTETS p) (len + 4)
              if s4.flag (TSH_RXQ_CFG_IRQ q) then s4.raise (64 + 16 * sl + 4) else s4

/-- Whether a destination address passes a port's filter (R410, order 1). -/
def State.macOk (s : State) (p : Nat) (da : List Byte) : Bool :=
  s.flag (ETH_PORT_CTRL_PROMISC p)
    || (decide ((nth 0 da 0).toNat % 2 = 1) && s.flag (ETH_PORT_CTRL_MCAST_EN p))
    || (List.range 8).any (fun i => s.flag (ETH_PORT_MAC_HI_VALID p i)
      && decide (s.get (ETH_PORT_MAC_LO_ADDR p i) + 2 ^ 32 * s.get (ETH_PORT_MAC_HI_ADDR p i) = bytesToNat da))

/-- ETH_FRAME_RECEIVE: a frame from its destination address to the bytes before its FCS, which was right if `fcs`; `ce` and `ue`
are the FEC codewords corrected and not corrected since the last one. -/
def State.ethReceive (s0 : State) (p ph ce ue : Nat) (fcs : Bool) (frame : List Byte) (desc : Option (List Byte)) (ok : Bool) : State :=
  let s := (List.range ue).foldl (fun (a : State) _ => a.fire 80 p 4 0 0) ((s0.count (ETH_FEC_CE p) ce).count (ETH_FEC_UE p) ue)
  if !s.ethLink p then s0
  else if !fcs then s.tally (ETH_RX_FCS p)
  else if frame.length + 4 < 64 ∨ s.get (ETH_PORT_CTRL_MAX_FRAME p) < frame.length + 4 then s.tally (ETH_RX_LEN p)
  else if !s.macOk p (frame.take 6) then s.tally (ETH_RX_FILTER p)
  else
    let tagged := decide (beAt frame 12 2 = 0x8100)
    let tagLen := if tagged then 4 else 0
    let vid := if tagged then beAt frame 14 2 % 4096 else 0
    let stamp := s.rxStamp p ph
    if s.flag (ETH_PORT_CTRL_FH_EN p) ∧ beAt frame (12 + tagLen) 2 = 0xAEFE then
      match s.fhFrame p frame tagLen stamp with
      | some s1 => s1
      | none =>
        let q := s.get (ETH_PORT_FH_FH_SW_Q p)
        if s.rxSlice q = some 0 then s.deliver p q true frame stamp desc ok else s.tally (ETH_RX_NOMATCH p)
    else
      let i := vid / 2
      let odd := decide (vid % 2 = 1)
      let valid := if odd then s.flag (ETH_VLAN_MAP_VALID_O p i) else s.flag (ETH_VLAN_MAP_VALID_E p i)
      let q := if odd then s.get (ETH_VLAN_MAP_QUEUE_O p i) else s.get (ETH_VLAN_MAP_QUEUE_E p i)
      if valid then s.deliver p q false frame stamp desc ok else s.tally (ETH_RX_NOMATCH p)

/-! ### The commands -/

/-- QUAD_MODE_WRITE. -/
def execQuadModeWrite (k : Fin 8) (v : Word) (s : State) : Answer := .next (s.quadWrite k v)
/-- ETH_PORT_ENABLE. -/
def execEthPortEnable (p : Fin 32) (v : Word) (s : State) : Answer := .next (s.portWrite p v)
/-- ETH_LINK_UP. -/
def execEthLinkUp (p : Fin 32) (s : State) : Answer := .next (s.linkUp p)
/-- ETH_LINK_DOWN. -/
def execEthLinkDown (p : Fin 32) (s : State) : Answer := .next (s.linkDown p)
/-- ETH_FRAME_RECEIVE. -/
def execEthFrameReceive (p : Fin 32) (ph : Fin 8) (ce ue : Nat) (fcs : Bool) (frame : List Byte) (desc : Option (List Byte))
    (ok : Bool) (s : State) : Answer := .next (s.ethReceive p ph ce ue fcs frame desc ok)
/-- TX_QUEUE_ENABLE. -/
def execTxQueueEnable (q : Fin 1024) (v : Word) (s : State) : Answer := .next (s.txqWrite q v)
/-- RX_QUEUE_ENABLE. -/
def execRxQueueEnable (q : Fin 1024) (v : Word) (s : State) : Answer := .next (s.rxqWrite q v)
/-- ETH_TX_DESCRIPTOR_FETCH. -/
def execEthTxDescriptorFetch (q : Fin 1024) (desc : Option (List Byte)) (frame : Option (Option (List Byte))) (s : State) : Answer :=
  .next (s.txFetch q desc frame)
/-- ETH_TX_FRAME_START. -/
def execEthTxFrameStart (p : Fin 32) (ph : Fin 8) (s : State) : Answer := .next (s.txStart p ph)
/-- ETH_TX_COMPLETE. -/
def execEthTxComplete (p : Fin 32) (s : State) : Answer := .next (s.txComplete p)
/-- ETH_TX_LATE. -/
def execEthTxLate (q : Fin 1024) (s : State) : Answer := .next (s.txLate q)
/-- SHAPER_REFILL. -/
def execShaperRefill (s : State) : Answer := .next s.refill

end Sys2Proof.Machine
end

