-- ==== Sys2Proof/Machine/LaneProg.lean ====
section
/-! DEFINITION. Lane programs (R268, R303, R304): the checks of a program image, and its loading into instruction
memories. -/

namespace Sys2Proof.Machine

/-! ### The structure of a program (R268) -/

/-- A loop that is open in the scan of a program: counter and rotation. -/
def pushLoop (o : LaneLoopOp) (st : List (Nat × Bool)) : Option (List (Nat × Bool)) :=
  if 4 ≤ st.length ∨ st.any (fun q => decide (q.1 = o.lc.toNat)) ∨ (o.rot ∧ st.any (fun q => q.2)) then none
  else some ((o.lc.toNat, o.rot) :: st)

/-- The open loops after a bundle; `none` where its loop is refused: an `ENDL` without its `LOOP`, a nesting deeper than 4, a
reused counter, two rotating loops at once. -/
def scanLoops (b : LaneBundle) (st : List (Nat × Bool)) : Option (List (Nat × Bool)) :=
  match b.c with
  | .loop false o => pushLoop o st
  | .loop true o => (pushLoop o st).map (fun l => l.drop 1)
  | .endl lc => match st with
    | q :: t => if q.1 = lc.toNat then some t else none
    | [] => none
  | _ => some st

/-- The first bundle, counted from `i`, that is refused by itself or by the loops around it; `base` is the load address. -/
def scanProg (base i : Nat) (st : List (Nat × Bool)) : List (List Byte) → Option Nat
  | [] => none
  | d :: t =>
    let w := bundleWord d
    if !laneBundleOk (w 0) (w 1) (w 2) (w 3) then some i
    else
      match bundleOf d with
      | none => some i
      | some b =>
        match scanLoops b st with
        | none => some i
        | some st1 =>
          if base + i = 4095 ∧ b.c ≠ .halt then some i
          else scanProg base (i + 1) (if b.c = .halt then [] else st1) t

/-! ### Its issue (R247, R253, R268, R272) -/

/-- The walk through a program: bundle, open loops (counter, begin, iterations left, whether it rotates), whether the
bundle was entered by a branch, BCLK, the region whose names are unknown, bundles since a complex form, the BCLK of recent port
cycles, and results on their way: BCLK, register, and whether a `WAIT`, which may hold for any time, has come since. -/
structure Walk where
  pc     : Nat
  loops  : List (Nat × Nat × Nat)
  branched : Bool
  clk    : Nat
  region : Nat
  since  : Nat
  ports  : List Nat
  lands  : List (Nat × Nat × Bool)

/-- The port cycles of an L slot (R248, R272). -/
def portCycles : LsOp → Nat
  | .ld _ => 1
  | .st o => if accessBytes o.sz = 16 then 1 else 2
  | .aadd _ | .aswp _ => 2
  | _ => 0

/-- The BCLK, counted from its issue, of each port cycle of an L slot: the second follows the first (R261). -/
def portTimes (clk : Nat) (l : LsOp) : List Nat := (List.range (portCycles l)).map (fun i => clk + i)

/-- Whether more than 48 of the port cycles, up to BCLK `t`, lie in the 64 BCLK that end with it (R268, R272). -/
def portsOver (ports : List Nat) (t : Nat) : Bool := decide (48 < (ports.filter (fun p => decide (p ≤ t ∧ t < p + 64))).length)

/-- The results of a bundle of known names: end of BCLK and register; accumulators count from 64 (R247, R248). -/
def landings (clk region : Nat) (b : LaneBundle) : List (Nat × Nat) :=
  let m : List (Nat × Nat) := match b.mop with
    | .nop => []
    | .aclr => [(clk, 64 + b.m.acc.toNat)]
    | .mpy | .mac | .msu => [(clk + 1, 64 + b.m.acc.toNat)]
    | _ => [(clk + 4, 64 + b.m.acc.toNat), (clk + 4, 65 + b.m.acc.toNat)]
  let a : List (Nat × Nat) := match b.aop with
    | .nop => []
    | .exth | .extc | .extw | .xch => [(clk + 1, b.a.vd.toNat)]
    | .maxi | .mini => [(clk, b.a.vd.toNat), (clk, (b.a.vd.toNat + 1) % 64)]
    | _ => [(clk, b.a.vd.toNat)]
  let l : List (Nat × Nat) := match b.l with
    | .ld o => (List.range (accessBytes o.sz / 4)).map (fun j => (clk + 2, (o.vr.toNat + j) % 64))
    | .aadd o | .aswp o => [(clk + 3, o.vr.toNat)]
    | .movv vr _ _ => [(clk, vr.toNat)]
    | _ => []
  m ++ (a ++ l).filter (fun p => decide (p.2 < 64 - region))

/-- Whether two results of one bundle meet. -/
def meet : List (Nat × Nat) → Bool
  | [] => false
  | p :: t => t.contains p || meet t

/-- Whether a bundle's results can meet those on their way: one that a `WAIT` has followed meets any later or equal end of its own
register, since the wait may hold for as long as that takes (R247). -/
def meetOld (new : List (Nat × Nat)) (old : List (Nat × Nat × Bool)) : Bool :=
  old.any (fun o => new.any (fun p => decide (p.2 = o.2.1 ∧ (p.1 = o.1 ∨ (o.2.2 = true ∧ p.1 ≤ o.1)))))

/-- Where the walk goes after a bundle. A loop is followed for at most 66 iterations: what 64 BCLK can show repeats after
that. -/
def walkNext (b : LaneBundle) (w : Walk) : Walk :=
  let next := { w with pc := w.pc + 1, branched := false }
  let close (lc : Nat) : Walk := match w.loops with
    | (q, st, n) :: t => if q = lc then
        (if 1 < n then { w with pc := st, branched := true, loops := (q, st, n - 1) :: t } else { next with loops := t })
      else next
    | [] => next
  match b.c with
  | .loop true o => close o.lc.toNat
  | .endl lc => close lc.toNat
  | .halt => { next with loops := [], ports := [], lands := [], since := 3, region := 0 }
  | _ => next

/-- The first bundle of a walk that breaks a rule of issue. -/
def walkProg (prog : List LaneBundle) : Nat → Walk → Option Nat
  | 0, _ => none
  | f + 1, w =>
    match prog[w.pc]? with
    | none => none
    | some b =>
      let w1 : Walk := match b.c with
        | .loop _ o => if w.branched then w else
            { w with
              loops := (o.lc.toNat, w.pc, min 66 (o.count.toNat + 1)) :: w.loops
              region := if o.rot then regionOf o.rsz else w.region }
        | _ => w
      let times := portTimes w1.clk b.l
      let ports := times ++ w1.ports.filter (fun p => decide (w1.clk < p + 64))
      let waits := match b.c with | .wait _ => true | _ => false
      let old := (w1.lands.filter (fun p => decide (w1.clk ≤ p.1))).map (fun p => (p.1, p.2.1, p.2.2 || waits))
      let new := landings w1.clk w1.region b
      if (w1.since < 3 ∧ b.mop ≠ .nop) ∨ meet new ∨ meetOld new old ∨ times.any (portsOver ports) then some w.pc
      else
        let cx := decide (b.mop = .cmpy ∨ b.mop = .cmac ∨ b.mop = .cmacj)
        let ends := new.map (fun p => (p.1, p.2, false)) ++ old
        let w2 := { w1 with since := if cx then 0 else w1.since + 1, ports := ports, lands := ends }
        let w3 := walkNext b w2
        walkProg prog f { w3 with clk := w1.clk + 1 + b.idle }

/-- The first refused bundle of a program (R268). -/
def progFault (base : Nat) (ds : List (List Byte)) : Option Nat :=
  match scanProg base 0 [] ds with
  | some i => some i
  | none => walkProg (ds.map (fun d => (bundleOf d).getD bundleNop)) (2 ^ 40) ⟨0, [], false, 0, 0, 3, [], []⟩

/-! ### The image (R303, R304) -/

/-- The bytes of a program image from its source: `host` is what host memory holds. -/
def State.progFetch (s : State) (ok : Bool) (host : List Byte) (n : Nat) : Option (List Byte) × State :=
  let a := s.get64 BBA_PROG_ADDR_LO_ADDR BBA_PROG_ADDR_HI_ADDR / 256 * 256
  let sl := s.get BBA_PROG_SRC_SLICE
  match s.get BBA_PROG_SRC_SPACE with
  | 0 => (if ok ∧ n ≤ host.length ∧ s.dmaOpen then some (host.take n) else none, s.hostAsk sl a n)
  | 3 => (none, s)
  | k =>
    let r := s.viewRead sl (s.viewLines sl false) (decide (k = 2)) a n
    (r.1.bind (fun d => if markedM d then none else some (bytesM d)), r.2)

/-- Whether a signature block stands at `off` of an image and names an enrolled key (R139). -/
def State.sigBlockOk (s : State) (img : List Byte) (off : Nat) : Bool :=
  let slot := leAt img (off + 5) 1
  decide (leAt img off 4 = 0x4749535A ∧ leAt img (off + 4) 1 = 1 ∧ slot < 8 ∧ s.get PLN_IMG_POLICY_KEY_EN / 2 ^ slot % 2 = 1)

/-- The signature policy for a program image (R140, R303); `sig` is the warden's verdict. -/
def State.progPolicy (s : State) (img : List Byte) (off : Nat) (sig : Bool) : Bool :=
  let lc := s.get HOL_LC_STATE
  if lc = lcScrapped then false
  else if leAt img 9 1 % 2 = 1 then decide (lc ≠ lcBlank) && s.sigBlockOk img off && sig
  else decide (lc ≠ lcDeployed) && s.flag PLN_IMG_POLICY_ALLOW_UNSIGNED

/-- The failure of a program image's header (R303, R304); `none` where it passes. -/
def progHeader (h : List Byte) : Option Nat :=
  if leAt h 0 4 ≠ 0x504E4C5A then some 2
  else if leAt h 4 2 ≠ 1 ∨ leAt h 6 2 ≠ 0x8840 ∨ leAt h 8 1 ≠ 0xB1 then some 3
  else if leAt h 0x3C 4 ≠ crc32c (h.take 0x3C) then some 4
  else if leAt h 9 1 / 2 ≠ 0 ∨ leAt h 0x10 44 ≠ 0 then some 2
  else if leAt h 0xA 2 = 0 ∨ 4096 < leAt h 0xA 2 then some 7
  else none

/-- The failure of a whole program image, with its detail, or its bundles (R304). -/
def State.progImage (s : State) (img : List Byte) (sig : Bool) : (Nat × Nat) ⊕ List (List Byte) :=
  let n := leAt img 0xA 2
  let bs := (img.drop 64).take (16 * n)
  let ds := chunksOf 16 n bs
  if leAt img 0xC 4 ≠ crc32c bs then .inl (4, 0)
  else if !s.progPolicy img ((64 + 16 * n + 255) / 256 * 256) sig then .inl (5, 0)
  else
    match progFault (s.get BBA_PROG_DST_BUNDLE) ds with
    | some i => .inl (6, i)
    | none =>
      let c1 := s.get BBA_PROG_DST_CL_FIRST + s.get BBA_PROG_DST_CL_COUNT
      if 4096 < s.get BBA_PROG_DST_BUNDLE + n ∨ 128 < c1 ∨ s.get BBA_PROG_DST_CL_COUNT = 0 then .inl (7, 0)
      else .inr ds

/-- The failure of a program image, with its detail, or its bundles, and the state after its fetches (R304). -/
def State.progCheck (s : State) (ok : Bool) (host : List Byte) (sig : Bool) : ((Nat × Nat) ⊕ List (List Byte)) × State :=
  let r := s.progFetch ok host 64
  match r.1 with
  | none => (.inl (1, 0), r.2)
  | some h =>
    match progHeader h with
    | some e => (.inl (e, 0), r.2)
    | none =>
      let q := r.2.progFetch ok host ((64 + 16 * leAt h 0xA 2 + 255) / 256 * 256 + (if leAt h 9 1 % 2 = 1 then 256 else 0))
      match q.1 with
      | none => (.inl (1, 0), q.2)
      | some img => (q.2.progImage img sig, q.2)

/-- PROG_START (R304): fetch and checks; a failure ends the load, a checked image waits to be written. -/
def State.progStart (s : State) (ok : Bool) (host : List Byte) (sig : Bool) : State :=
  if s.flag BBA_PROG_STATUS_BUSY ∨ (s.get BBA_PROG_SRC_SPACE ≠ 0 ∧ !s.tiersOpen) then s
  else
    let c := s.progCheck ok host sig
    match c.1 with
    | .inl e => ((c.2.put BBA_PROG_STATUS_ERR e.1).put BBA_PROG_STATUS_DETAIL e.2).bbaEvent BBA_PROG_STATUS_DONE
    | .inr ds =>
      let at3 := (s.get BBA_PROG_DST_CL_FIRST, s.get BBA_PROG_DST_CL_COUNT, s.get BBA_PROG_DST_BUNDLE)
      (c.2.put BBA_PROG_STATUS_BUSY 1).onRadio (fun r => { r with prog := ds, progAt := at3 })

/-- PROG_LOAD_DONE (R304): the bundles stand in every target cluster. They are written in IDLE gaps: while a target runs a task the
load goes on (item 3). A target that is off is woken, as by DMA (R273, R283; DEDUCED, log entry 73). -/
def State.progDone (s : State) : State :=
  let at0 := s.radio.progAt
  if s.flag BBA_PROG_STATUS_BUSY ∧ (List.range at0.2.1).all (fun i => decide (s.clState (at0.1 + i) ≠ clRun)) then
    let ws : List CWord := s.radio.prog.map (fun d => ⟨d, false⟩)
    let p := s.radio.progAt
    let s1 := (List.range p.2.1).foldl (fun a i =>
      (a.wakeCluster (p.1 + i)).onCluster (p.1 + i) (fun x => { x with imem := x.imem.writeWords p.2.2 ws })) s
    let s2 := s1.onRadio (fun r => { r with prog := [] })
    (((s2.put BBA_PROG_STATUS_BUSY 0).put BBA_PROG_STATUS_ERR 0).put BBA_PROG_STATUS_DETAIL 0).bbaEvent BBA_PROG_STATUS_DONE
  else s

/-- PROG_START. -/
def execProgStart (ok : Bool) (host : List Byte) (sig : Bool) (s : State) : Answer := .next (s.progStart ok host sig)
/-- PROG_LOAD_DONE. -/
def execProgLoadDone (s : State) : Answer := .next s.progDone

end Sys2Proof.Machine
end

