-- ==== Sys2Proof/Machine/Slices.lean ====
section
/-! DEFINITION. Slices (R305 to R330, R350): creation and its checks, destruction, doorbells and the mailbox, the log of
written pages, and the transfer record. -/

namespace Sys2Proof.Machine

/-- A slice event. -/
def State.slcEvent (s : State) (f : Fld) : State := s.event f 7

/-! ### Creation (R306, R311, R196) -/

/-- Whether two ranges share a member. -/
def rangesMeet (a b : Nat × Nat) : Bool := decide (0 < a.2 ∧ 0 < b.2 ∧ a.1 < b.1 + b.2 ∧ b.1 < a.1 + a.2)

/-- The slices outside FREE. -/
def State.takenSlices (s : State) : List Nat := (List.range 64).filter s.taken

/-- The windows of a slice. -/
def allWindows : List Window := [.a, .b, .img, .stage, .save]
/-- The entries of a slice's window as a range. -/
def State.winRange (s : State) (sl : Nat) (w : Window) : Nat × Nat := (s.winBase sl w, s.winCount sl w)

/-- Whether an entry is one that a window allows (R182). -/
def State.xtAllows (s : State) (w : Window) (e : Nat) : Bool :=
  let b := s.flag (MEM_XT_TIER_B e)
  let sp := s.flag (MEM_XT_SPREAD e)
  s.flag (MEM_XT_VALID e) && (match w with | .b => b && !sp | .save => !b && sp | _ => !b)

/-- The conditions of R196. -/
def State.memGrantOk (s : State) (sl : Nat) : Bool :=
  let own := allWindows.map (fun w => s.winRange sl w)
  let others := s.takenSlices.flatMap (fun q => allWindows.map (fun w => s.winRange q w))
  let n := ((List.range 64).filter (fun g => s.granted sl g)).length
  (List.range 5).all (fun i => (List.range 5).all (fun j => decide (j ≤ i) || !rangesMeet (nth (0, 0) own i) (nth (0, 0) own j)))
    && own.all (fun r => others.all (fun q => !rangesMeet r q) && decide (r.1 + r.2 ≤ 4224))
    && allWindows.all (fun w => (List.range (s.winCount sl w)).all (fun i => s.xtAllows w (s.winBase sl w + i)))
    && (decide (sl = 0) || decide ((n * 12416 + 262143) / 262144 ≤ s.winCount sl .save))
    && decide (s.get (MEM_SLC_STGLN_LINES sl) ≤ s.winCount sl .stage * 2 ^ 20)

/-- Whether a range of a slice meets that of no slice outside FREE. -/
def State.apart (s : State) (sl : Nat) (f : Nat → Nat × Nat) : Bool := s.takenSlices.all (fun q => !rangesMeet (f sl) (f q))

/-- The ranges of a grant. -/
def State.strmRange (s : State) (sl : Nat) : Nat × Nat := (s.get (SLC_STRM_BASE_VALUE sl), s.get (SLC_STRM_COUNT_VALUE sl))
/-- Regions. -/
def State.drvRange (s : State) (sl : Nat) : Nat × Nat := (s.get (SLC_DRV_BASE sl), s.get (SLC_DRV_COUNT sl))
/-- Keys. -/
def State.keyRange (s : State) (sl : Nat) : Nat × Nat := (s.get (SLC_KEYS_BASE sl), s.get (SLC_KEYS_COUNT sl))
/-- Multicast groups. -/
def State.mcRange (s : State) (sl : Nat) : Nat × Nat := (s.get (SLC_MCAST_BASE sl), s.get (SLC_MCAST_COUNT sl))
/-- Transmit queues. -/
def State.txRange (s : State) (sl : Nat) : Nat × Nat := (s.get (SLC_ETHTX_BASE sl), s.get (SLC_ETHTX_COUNT sl))
/-- Receive queues. -/
def State.rxRange (s : State) (sl : Nat) : Nat × Nat := (s.get (SLC_ETHRX_BASE sl), s.get (SLC_ETHRX_COUNT sl))

/-- Whether a granted group passes check 2. -/
def State.groupGrantOk (s : State) (sl g : Nat) : Bool :=
  s.present g && !s.quarantined g && !s.retired g && (s.holder g).isNone && (decide (sl ≠ 0) || s.marked g)

/-- The first check of R311 that a slice fails. -/
def State.createCause (s : State) (sl : Nat) : Option Nat :=
  let pasid := s.get (SLC_PASID_PASID sl)
  let within (r : Nat × Nat) (n lim : Nat) : Bool := decide (r.2 ≤ n ∧ (r.2 = 0 ∨ r.1 + r.2 ≤ lim))
  let mc := s.mcRange sl
  let cg := s.get (DSP_SLC_CTRL_COMMIT_MGROUP sl)
  if !s.flag (SLC_PASID_VALID sl) ∨ s.takenSlices.any (fun q => decide (s.get (SLC_PASID_PASID q) = pasid)) then some 1
  else if (List.range 64).any (fun g => s.granted sl g && !s.groupGrantOk sl g) then some 2
  else if !s.memGrantOk sl then some 3
  else if 1048576 < (s.strmRange sl).1 + (s.strmRange sl).2 ∨ !s.apart sl s.strmRange then some 4
  else if !within (s.drvRange sl) 4096 4096 ∨ !within (s.keyRange sl) 256 4096 ∨ !within mc 255 256 ∨ (0 < mc.2 ∧ mc.1 = 0)
      ∨ !s.apart sl s.drvRange ∨ !s.apart sl s.keyRange ∨ !s.apart sl s.mcRange then some 5
  else if !within (s.txRange sl) 256 1024 ∨ !within (s.rxRange sl) 256 1024 ∨ !s.apart sl s.txRange ∨ !s.apart sl s.rxRange
      ∨ (sl ≠ 0 ∧ 0 < (s.txRange sl).2 ∧ (s.txRange sl).1 < 128) then some 6
  else if s.get (SLC_WEIGHT_WEIGHT sl) = 0 ∨ s.get (SLC_WEIGHT_MBX_LOG2 sl) < 4 ∨ 12 < s.get (SLC_WEIGHT_MBX_LOG2 sl) then some 7
  else if cg ≠ 0 ∧ !(mc.1 ≤ cg ∧ cg < mc.1 + mc.2) then some 8
  else none

/-- CREATE (R306, R311, R320). `CAUSE` keeps the last refused creation. -/
def State.create (s : State) (sl : Nat) : State :=
  if s.taken sl then s.lockWr 0xc
  else
    match s.createCause sl with
    | some c => s.put (SLC_STATE_CAUSE sl) c
    | none =>
      let s1 := s.put (SLC_STATE_STATE sl) slcLive
      let s2 := (((s1.put (SLC_MBX_REQ_PROD_INDEX sl) 0).put (SLC_MBX_REQ_CONS_INDEX sl) 0).put (SLC_MBX_RSP_PROD_INDEX sl) 0).put (SLC_MBX_RSP_CONS_INDEX sl) 0
      let s3 := s2.onStream sl (fun x => { StreamRt.reset with prof := x.prof })
      let s4 : State := if sl = 0 then { s3 with cyc := { s3.cyc with valid := false } } else
        ((List.range 64).filter (fun g => s3.granted sl g)).foldl (fun a g => a.put (DSP_GRP_STATE_SLICE g) sl) s3
      s4.refreshGuards

/-! ### Destruction (R323, R324, R350) -/

/-- Whether a mover operation is PARKED on a fabric target that is not fenced (R176, R323). -/
def State.heldOp (s : State) (x : Tile) (sl c : Nat) : Bool :=
  match mapGet (fun _ => none) x.ctxs c with
  | some o => decide (o.slice = sl ∧ ctxState moverTotal x c = 2 ∧ o.out ≠ []) && decide (7 ≤ o.desc.op.toNat ∧ o.desc.op.toNat ≤ 11)
      && !s.opTargets (fun d => decide (s.member d = memFenced)) o
  | none => false

/-- Whether a group holds such an operation. -/
def State.groupHeld (s : State) (sl g : Nat) : Bool :=
  (groupTiles g).any (fun t => (List.range 16).any (fun c => s.heldOp (s.tile t) sl c))

/-- A slice's mover operations torn down, but for those that are held. -/
def State.tearSlice (s : State) (sl : Nat) : State :=
  let gs := (List.range 64).filter (fun g => s.granted sl g)
  let s1 := gs.foldl (fun a g => (groupTiles g).foldl (fun b t =>
    let x := b.tile t
    let keep (p : Nat × Option MvOp) : Bool := match p.2 with | some o => decide (o.slice ≠ sl) || b.heldOp x sl p.1 | none => false
    let ctxs := x.ctxs.filter keep
    let live := ctxs.filterMap (fun p => p.2)
    (b.setTile t { x with
      ctxs := ctxs
      mvq := x.mvq.filter (fun o => decide (o.slice ≠ sl))
      scb := x.scb.filter (fun e => live.any (fun o => decide (o.entry = e.1)) || (decide (sl ≠ 0) && x.run.radio && decide (48 ≤ e.1))) }).refreshTile t) a) s
  s1.voidOrphans

/-- A group of a slice cleared (R323, item 5) and given up. -/
def State.clearGroup (s : State) (sl g : Nat) : State :=
  let s1 := (groupTiles g).foldl (fun a t => ((a.clearTenant t).onTile t (fun x =>
    { tearDown false x with cx := TileCtx.empty, run := TileRun.reset, ej := [], saved := none, keptInt := [] })).refreshTile t) s
  let s2 := s1.putPairBit HOL_SEAL_GROUPS_LO_SEAL HOL_SEAL_GROUPS_HI_SEAL g false
  let s3 := s2.onGroup g (fun r => { GroupRt.reset with idleAt := if s.get (DSP_GRP_STATE_STATE g) = grpIdle then r.idleAt else s.raw })
  let s4 := (s3.setReg (DSP_GRP_STATE_STATE g).key 0).put (DSP_GRP_GUARD_INTACT g) 0
  let s5 := if s4.groupOn g then s4.setGroupState g grpIdle modeIdle else s4.setGroupState g grpOff modeOff
  let s6 := s5.setGroupOwner g 0
  if s6.quarantined g then s6.powerOffGroup g else s6

/-- Rows of a region of a tile's scratchpad and the spare rows that serve it written to zeros. -/
def State.zeroSpad (s : State) (t lo n : Nat) : State :=
  let spares := (List.range 16).filter (fun i => s.flag (TIL_REPAIR_MAP_VALID t i) && decide (lo ≤ 256 * s.get (TIL_REPAIR_MAP_ROW t i) ∧ 256 * s.get (TIL_REPAIR_MAP_ROW t i) < lo + n))
  s.onTile t (fun x => { x with spad := spares.foldl (fun m i => m.zeroRange (256 * (3072 + i)) 256) (x.spad.zeroRange lo n) })

/-- The radio stops with slice 0 (R324, R350). -/
def State.stopRadio (s : State) : State :=
  let c := s.cyc
  let s1 := State.put { s with cyc := { c with valid := false, force := false } } DSP_CYC_CTRL_EN 0
  let s2 := (s1.put DSP_CYC_CTRL_PEND 0).onRadio (fun r => { r with stageRes := r.stageRes.map (fun (e : Nat × Nat) => (e.1, 3)) })
  let s3 := ((List.range 64).filter (fun g => decide (s2.get (DSP_GRP_STATE_STATE g) = grpLent))).foldl (fun a g =>
    ((groupTiles g).foldl (fun b t => (b.onTile t dropRadio).refreshTile t) a).giveBack g) s2
  let s4 := ((List.range 64).filter s3.marked).foldl (fun a g => (groupTiles g).foldl (fun b t =>
    (b.zeroSpad t 0x80000 0x40000).onTile t (fun x => { x with rstore := TileStore.empty })) a) s3
  (List.range 128).foldl (fun a k =>
    if a.clState k = clRun ∧ a.get (BBA_CL_STATUS_SLICE k) = 0 then (a.put (BBA_CL_STATUS_STATE k) clIdle).onCluster k ClusterRt.clearLanes else a) s4

/-- Every bank of a slice released (R270, R271): at once where no task runs on its lane. -/
def State.releaseBanks (s : State) (sl : Nat) : State :=
  (List.range 128).foldl (fun a c => (List.range 64).foldl (fun b l =>
    if !b.ownsBank sl c l then b
    else
      let b1 := if b.flag (BBA_BANK_OWN_PEND c l) then b else b.beginRelease c l
      if b1.laneBusy c l then b1 else (b1.bankWipe c l).bankReleased c l) a) s

/-- Whether a slice still owns a bank. -/
def State.hasBank (s : State) (sl : Nat) : Bool := (List.range 128).any (fun c => (List.range 64).any (fun l => s.ownsBank sl c l))

/-- A slice's page-mover descriptors end and leave the queue: with result ABORTED, or with their own where they were performed
already (R201; R323, item 4). -/
def State.pmDrop (s : State) (sl : Nat) : State :=
  let gone := s.mem.pm.filter (fun (d : PmDesc) => decide (d.slice = sl))
  let kept := s.mem.pm.filter (fun (d : PmDesc) => decide (d.slice ≠ sl))
  let wait := s.mem.pmWait.filter (fun (d : PmDesc) => decide (d.slice ≠ sl))
  let s1 := State.put { s with mem := { s.mem with pm := kept, pmWait := wait } } MEM_PM_STATUS_QUEUED kept.length
  (gone.foldl (fun a (d : PmDesc) => a.pmReport d (d.res.getD 3)) s1).pmRefill.pmStart

/-- A slice's streams end (R323, item 4). -/
def State.dropStreams (s : State) (sl : Nat) : State :=
  let r := s.strmRange sl
  let s1 := (List.range r.2).foldl (fun a i => a.setEntry (r.1 + i) (entPut (a.entryHome (r.1 + i)) 0 0 3 0)) s
  let s2 := (s1.onStream sl (fun x => { StreamRt.reset with prof := x.prof })).refreshRings sl
  State.hqAbort (s2.pmDrop sl) sl

/-- A slice becomes FREE (R306, R323). -/
def State.freeSlice (s : State) (sl : Nat) : State :=
  ((s.put (SLC_STATE_STATE sl) slcFree).refreshGuards).slcEvent (SLC_EVENT_FREED sl)

/-- The groups of a slice whose clearing waits: lent, or held (R323). -/
def State.waitGroups (s : State) (sl : Nat) : List Nat × List Nat :=
  let gs := (List.range 64).filter (fun g => s.granted sl g)
  (gs.filter (fun g => decide (sl ≠ 0 ∧ s.get (DSP_GRP_STATE_STATE g) = grpLent)), gs.filter (fun g => s.groupHeld sl g))

/-- DESTROY (R323). -/
def State.destroy (s : State) (sl : Nat) : State :=
  if !s.live sl then s.lockWr 0xc
  else
    let s0 := s.put (SLC_STATE_STATE sl) slcDestroying
    let s1 := if s0.loading ∧ s0.loader.slice = sl then s0.loadFail ⟨0x21, sectNone, 0⟩ else s0
    let n := ((s1.slice sl).steps.head?.map (fun (r : StepRt) => r.num)).getD (s1.slice sl).nextRelease
    let s2 := ((s1.returnBorrowed sl).discardFrom sl n).tearSlice sl
    let s3 := (s2.removeImage sl).onSlice sl (fun x => { SliceRt.reset with arith := x.arith })
    let s4 := s3.onDrv (fun d => { d with
      hold := d.hold.filter (fun h => decide (h.slice ≠ sl)), reorder := d.reorder.filter (fun h => decide (h.slice ≠ sl))
      gated := d.gated.filter (fun h => decide (h.slice ≠ sl)), defq := d.defq.filter (fun h => decide (h.slice ≠ sl)) })
    let s5 := ((s4.put (DSP_SLC_STATE_STATE sl) dspStopped).put (DSP_SLC_SAVE_SAVE_PEND sl) 0).put (DSP_SLC_SAVE_SAVED sl) 0
    let s6 := ((s5.refreshSlice sl).dropStreams sl).ethDisable sl
    let s7 := if sl = 0 then s6.stopRadio else s6
    let w := s7.waitGroups sl
    let gs := (List.range 64).filter (fun g => s7.granted sl g && !w.1.contains g && !w.2.contains g)
    let s8 := gs.foldl (fun a g => a.clearGroup sl g) s7
    let s9 := w.1.foldl (fun a g => ((groupTiles g).foldl (fun b t => b.onTile t (fun x => { x with saved := none })) a).onGroup g
      (fun r => { r with before := grpIdle, dumped := false })) s8
    let s10 := s9.releaseBanks sl
    let es := allWindows.flatMap (fun x => (List.range (s10.winCount sl x)).map (fun i => s10.winBase sl x + i))
    let s11 := es.foldl (fun a e => a.put (MEM_XT_VALID e) 0) s10
    let s11a := (List.range (s11.get (SLC_DRV_COUNT sl))).foldl (fun a i => a.put (DRV_REGION_CFG_VALID ((s11.get (SLC_DRV_BASE sl) + i) % 4096)) 0) s11
    let s12 := (s11a.logSlots sl).foldl (fun a k => a.put (SLC_LOG_CTRL_EN k) 0) s11a
    if w.1 = [] ∧ !s12.hasBank sl then
      if w.2 = [] then s12.freeSlice sl else s12.put (SLC_STATE_STATE sl) slcWaitEpoch
    else s12

/-- SLICE_FREE (R323, item 8): what destruction waited for has come. -/
def State.sliceFree (s : State) (sl : Nat) : State :=
  let st := s.get (SLC_STATE_STATE sl)
  if st ≠ slcDestroying ∧ st ≠ slcWaitEpoch then s
  else
    let w := s.waitGroups sl
    if w.1 ≠ [] ∨ s.hasBank sl then s
    else if w.2 ≠ [] then s.put (SLC_STATE_STATE sl) slcWaitEpoch
    else
      let gs := (List.range 64).filter (fun g => s.granted sl g)
      (((gs.foldl (fun a g => a.clearGroup sl g) s).voidOrphans)).freeSlice sl

/-! ### Doorbells and the mailbox (R316 to R320, R413) -/

/-- A refused doorbell write (R315, R318). -/
def State.doorbellRefused (s : State) (sl : Nat) : State := (s.slcEvent (SLC_EVENT_DB_REF sl)).tally (SLC_REFUSE sl)

/-- Whether a producer write is in range (R318). -/
def doorbellOk (p c n v : Nat) : Bool := decide ((v + 2 ^ 32 - p) % 2 ^ 32 ≤ n ∧ (v + 2 ^ 32 - c) % 2 ^ 32 ≤ n)

/-- A doorbell write: ignored unless the slice is LIVE, refused unless `ok`, and made by `f`. -/
def State.doorbell (s : State) (sl : Nat) (ok : Bool) (f : State → State) : State :=
  if !s.live sl then s else if ok then f s else s.doorbellRefused sl

/-- The mailbox ring size. -/
def State.mbxSize (s : State) (sl : Nat) : Nat := 2 ^ s.get (SLC_WEIGHT_MBX_LOG2 sl)

/-- MBX_REQ_PROD (R319). -/
def State.mbxReqProd (s : State) (sl v : Nat) : State :=
  let p := s.get (SLC_MBX_REQ_PROD_INDEX sl)
  s.doorbell sl (doorbellOk p (s.get (SLC_MBX_REQ_CONS_INDEX sl)) (s.mbxSize sl) v) (fun a =>
    if v = p then a else (a.put (SLC_MBX_REQ_PROD_INDEX sl) v).slcEvent (SLC_EVENT_MBX_REQ sl))

/-- MBX_RSP_CONS. -/
def State.mbxRspCons (s : State) (sl v : Nat) : State :=
  let p := s.get (SLC_MBX_RSP_CONS_INDEX sl)
  let d := (v + 2 ^ 32 - p) % 2 ^ 32
  s.doorbell sl (decide (d ≤ s.mbxSize sl ∧ d ≤ (s.get (SLC_MBX_RSP_PROD_INDEX sl) + 2 ^ 32 - p) % 2 ^ 32))
    (fun a => a.put (SLC_MBX_RSP_CONS_INDEX sl) v)

/-- MBX_RSP_PROD_WRITE (R319, R320). -/
def State.mbxRspProd (s : State) (sl v : Nat) : State :=
  if !s.live sl then s.lockWr 0xc else (s.put (SLC_MBX_RSP_PROD_INDEX sl) v).raise (64 + 16 * sl)

/-- STM_CMD_PROD (R236, R237). -/
def State.stmCmdProd (s : State) (sl v : Nat) : State :=
  let r := s.stream sl
  s.doorbell sl (s.flag (STM_SLC_CTRL_ENABLE sl) && doorbellOk r.cmdProd r.cmdCons (2 ^ profCmdLog r.prof) v)
    (fun a => a.onStream sl (fun x => { x with cmdProd := v }))

/-- HQ_PROD (R285). -/
def State.hqProd (s : State) (sl q v : Nat) : State :=
  let h := s.helper q
  let ok := decide (s.hqSlice q = sl) && s.flag (BBH_Q_CFG_EN q) && !s.flag (BBH_Q_CFG_MODE q)
  s.doorbell sl (ok && doorbellOk h.prod h.cons (2 ^ s.get (BBH_Q_CFG_LOG2 q)) v) (fun a => a.onHelper q (fun x => { x with prod := v }))

/-- ETX_PROD (R413). -/
def State.etxProd (s : State) (sl j v : Nat) : State :=
  let q := (s.txRange sl).1 + j
  s.doorbell sl (decide (j < (s.txRange sl).2) && s.flag (TSH_TXQ_CFG_EN q)
      && doorbellOk (s.txq q).prod (s.get (TSH_TXQ_STATUS_CONS q)) (2 ^ s.get (TSH_TXQ_CFG_LOG2 q)) v)
    (fun a => a.onTxq q (fun x => { x with prod := v }))

/-- ERX_PROD (R413). -/
def State.erxProd (s : State) (sl j v : Nat) : State :=
  let q := (s.rxRange sl).1 + j
  s.doorbell sl (decide (j < (s.rxRange sl).2) && s.flag (TSH_RXQ_CFG_EN q)
      && doorbellOk (s.rxq q).prod (s.get (TSH_RXQ_STATUS_CONS q)) (2 ^ s.get (TSH_RXQ_CFG_LOG2 q)) v)
    (fun a => a.onRxq q (fun x => { x with prod := v }))

/-- A doorbell write that names no RW field of the page (R316, R318). -/
def State.doorbellBad (s : State) (sl : Nat) : State := s.doorbell sl false (fun a => a)

/-! ### The log of written pages (R325 to R327) -/

/-- A buffer of a log slot written to zeros. -/
def State.zeroLog (s : State) (k b : Nat) : State := s.setTier false (s.mem.tierA.zeroRange (logBuffer k b) (96 * 2 ^ 20))

/-- SWAP (R327). -/
def State.logSwap (s : State) (k : Nat) : State :=
  if s.flag (SLC_LOG_CTRL_SWAP_BUSY k) then s.lockWr 0xc
  else
    let b := 1 - s.get (SLC_LOG_CTRL_ACTIVE k)
    (((s.zeroLog k b).put (SLC_LOG_CTRL_ACTIVE k) b).put (SLC_LOG_CTRL_SWAP_BUSY k) 1)

/-- Whether a logged write of a slot's slice waits for its translation: it has its bit and is not yet performed (R454). -/
def State.logHeld (s : State) (k : Nat) : Bool :=
  s.pcie.held.any (fun h => match h with
    | .write _ p _ _ => decide (p = some (s.get (SLC_PASID_PASID (s.get (SLC_LOG_CTRL_SLICE k)))))
    | _ => false)

/-- SWAP_DONE: once the writes of the old buffer have been performed (R327, step 3). -/
def State.logSwapped (s : State) (k : Nat) : State := if s.logHeld k then s else s.put (SLC_LOG_CTRL_SWAP_BUSY k) 0

/-- LOG_ENABLE: a write of `SLC_LOG_CTRL_` (R327). -/
def State.logWrite (s : State) (k : Nat) (v : Word) : State :=
  let on := s.flag (SLC_LOG_CTRL_EN k)
  let old := s.get (SLC_LOG_CTRL_SLICE k)
  let s1 := s.writeCodes (SLC_LOG_CTRL_SLICE k).key v false
  let s2 := if on ∧ s1.get (SLC_LOG_CTRL_SLICE k) ≠ old then (s1.put (SLC_LOG_CTRL_SLICE k) old).lockWr 0xc else s1
  let s3 := if v.getLsbD 8 then ((s2.zeroLog k 0).zeroLog k 1).put (SLC_LOG_CTRL_ACTIVE k) 0 else s2
  if v.getLsbD 9 then s3.logSwap k else s3

/-! ### The transfer record (R329) -/

/-- The device address of a slice's transfer record. -/
def State.xferAddr (s : State) (sl : Nat) : Nat := s.get (SLC_XFER_LO_ADDR sl) / 256 * 256 + 2 ^ 32 * (s.get (SLC_XFER_HI_ADDR sl) % 128)

/-- Whether a transfer is accepted. An address in column 287 is none. -/
def State.xferOk (s : State) (sl : Nat) : Bool :=
  decide (s.get (DSP_SLC_STATE_STATE sl) = dspStopped) && !s.flag (STM_SLC_CTRL_ENABLE sl) && decide (s.xferAddr sl / 2 ^ 28 % 288 ≠ 287)

/-- The transfer record from offset 0x10 on. -/
def State.xferBody (s : State) (sl : Nat) : List Byte :=
  let r := s.stream sl
  let st := s.strmRange sl
  let var (i : Nat) : Nat := mapGet (fun _ => 0) (s.slice sl).heldVar i - 1
  natToBytes 4 (s.get (DSP_SLC_STEP_LO_STEP sl)) ++ natToBytes 4 (s.get (DSP_SLC_STEP_HI_STEP sl))
    ++ natToBytes 4 st.1 ++ natToBytes 4 st.2
    ++ natToBytes 4 r.headA ++ natToBytes 4 r.tailA ++ natToBytes 4 r.headB ++ natToBytes 4 r.tailB
    ++ List.replicate 0xD0 0
    ++ (List.range 64).flatMap (fun i => natToBytes 2 (var i))
    ++ List.replicate 0xE80 0
    ++ (List.range 4096).flatMap (fun i =>
        let b := mapGet (fun _ => 0) r.batch i
        natToBytes 4 (if b = 0 then 0 else 2 ^ 31 + (b - 1)))
    ++ (List.range st.2).flatMap (fun i => (s.entryHome (st.1 + i)).take 72 ++ List.replicate 56 0)

/-- The first 16 bytes of a transfer record. -/
def xferHead (body : List Byte) : List Byte :=
  natToBytes 4 0x58534C5A ++ natToBytes 4 1 ++ natToBytes 4 (16 + body.length) ++ natToBytes 4 (crc32c body)

/-- EXPORT. -/
def State.exportSlice (s : State) (sl : Nat) : State :=
  if !s.xferOk sl then s.put (SLC_STATE_XFER_ERR sl) 1
  else if !s.tiersOpen then s
  else
    let b := s.xferBody sl
    let s1 := (s.devWrite false (s.xferAddr sl) (cleanM (xferHead b ++ b))).2
    ((s1.logDevice false (s.xferAddr sl) (16 + b.length)).put (SLC_STATE_XFER_ERR sl) 0).slcEvent (SLC_EVENT_XFER_DONE sl)

/-- A transfer record read and checked: the failure, or 0, the record, and the state after the reads. Its length is that of its own stream
count, of at most 2^20 (R329). -/
def State.importRead (s : State) (sl : Nat) : Nat × List Byte × State :=
  let a := s.xferAddr sl
  let hd := s.devRead false a 32 sl
  let h := bytesM (hd.1.getD [])
  let len := leField h 8 4
  if hd.1 = none ∨ markedM (hd.1.getD []) ∨ leField h 0 4 ≠ 0x58534C5A ∨ leField h 4 4 ≠ 1 ∨ len ≠ 0x5000 + 128 * leField h 0x1C 4
      ∨ 2 ^ 20 < leField h 0x1C 4 then (2, [], hd.2)
  else
    let r := hd.2.devRead false a len sl
    let d := bytesM (r.1.getD [])
    if r.1 = none ∨ markedM (r.1.getD []) ∨ leField d 12 4 ≠ crc32c (d.drop 16) then (2, [], r.2)
    else if leField d 0x18 4 ≠ (s.strmRange sl).1 ∨ leField d 0x1C 4 ≠ (s.strmRange sl).2 then (3, [], r.2)
    else (0, d, r.2)

/-- The tail of a ring whose head is `h`, from the four bytes of a record: the indices wrap there. -/
def tailFrom (h t : Nat) : Nat := h + (t + 2 ^ 32 - h % 2 ^ 32) % 2 ^ 32

/-- IMPORT. -/
def State.importSlice (s : State) (sl : Nat) : State :=
  if !s.xferOk sl then s.put (SLC_STATE_XFER_ERR sl) 1
  else if !s.tiersOpen then s
  else
    let st := s.strmRange sl
    let r := s.importRead sl
    let d := r.2.1
    if r.1 ≠ 0 then (r.2.2.put (SLC_STATE_XFER_ERR sl) r.1).slcEvent (SLC_EVENT_XFER_DONE sl)
    else
      let step := leField d 0x10 8
      let vars := (List.range 64).foldl (fun m i => let v := leField d (0x100 + 2 * i) 2; mapSet (fun _ => 0) m i (if v = 0 then 0 else v + 1)) ([] : SMap Nat)
      let batch := (List.range 4096).foldl (fun m i => let w := leField d (0x1000 + 4 * i) 4
        mapSet (fun _ => 0) m i (if w / 2 ^ 31 = 1 then w % 2 ^ 20 + 1 else 0)) ([] : SMap Nat)
      let s1 := (List.range st.2).foldl (fun b i => b.setEntry (st.1 + i) ((d.drop (0x5000 + 128 * i)).take 128)) r.2.2
      let s2 := (s1.onStream sl (fun x => { x with
        headA := leField d 0x20 4, tailA := tailFrom (leField d 0x20 4) (leField d 0x24 4)
        headB := leField d 0x28 4, tailB := tailFrom (leField d 0x28 4) (leField d 0x2C 4), batch := batch })).refreshRings sl
      let s3 := s2.onSlice sl (fun x => { x with heldVar := vars, nextRelease := step })
      (((s3.put (DSP_SLC_STEP_LO_STEP sl) step).put (DSP_SLC_STEP_HI_STEP sl) (step / 2 ^ 32)).put (SLC_STATE_XFER_ERR sl) 0).slcEvent (SLC_EVENT_XFER_DONE sl)

/-! ### The commands -/

/-- CREATE. -/
def execCreate (sl : Fin 64) (s : State) : Answer := .next (s.create sl)
/-- DESTROY. -/
def execDestroy (sl : Fin 64) (s : State) : Answer := .next (s.destroy sl)
/-- SLICE_FREE. -/
def execSliceFree (sl : Fin 64) (s : State) : Answer := .next (s.sliceFree sl)
/-- MBX_REQ_PROD. -/
def execMbxReqProd (sl : Fin 64) (v : Word) (s : State) : Answer := .next (s.mbxReqProd sl v.toNat)
/-- MBX_RSP_CONS. -/
def execMbxRspCons (sl : Fin 64) (v : Word) (s : State) : Answer := .next (s.mbxRspCons sl v.toNat)
/-- MBX_RSP_PROD_WRITE. -/
def execMbxRspProdWrite (sl : Fin 64) (v : Word) (s : State) : Answer := .next (s.mbxRspProd sl v.toNat)
/-- STM_CMD_PROD. -/
def execStmCmdProd (sl : Fin 64) (v : Word) (s : State) : Answer := .next (s.stmCmdProd sl v.toNat)
/-- HQ_PROD. -/
def execHqProd (sl q : Fin 64) (v : Word) (s : State) : Answer := .next (s.hqProd sl q v.toNat)
/-- ETX_PROD. -/
def execEtxProd (sl : Fin 64) (j : Fin 256) (v : Word) (s : State) : Answer := .next (s.etxProd sl j v.toNat)
/-- ERX_PROD. -/
def execErxProd (sl : Fin 64) (j : Fin 256) (v : Word) (s : State) : Answer := .next (s.erxProd sl j v.toNat)
/-- LOG_ENABLE. -/
def execLogEnable (k : Fin 4) (v : Word) (s : State) : Answer := .next (s.logWrite k v)
/-- SWAP. -/
def execSwap (k : Fin 4) (s : State) : Answer := .next (s.logSwap k)
/-- SWAP_DONE. -/
def execSwapDone (k : Fin 4) (s : State) : Answer := .next (s.logSwapped k)
/-- EXPORT. -/
def execExport (sl : Fin 64) (s : State) : Answer := .next (s.exportSlice sl)
/-- IMPORT. -/
def execImport (sl : Fin 64) (s : State) : Answer := .next (s.importSlice sl)

end Sys2Proof.Machine
end

