-- ==== Sys2Proof/Machine/Pcie.lean ====
section
/-! DEFINITION. The PCIe function (R451 to R459): BAR 2 and doorbell-page requests, the configuration space and MSI-X,
address translation, and the function's resets. -/

namespace Sys2Proof.Machine

/-! ### Doorbell pages (R40, R316) -/

/-- A write to an offset of a slice's doorbell page. -/
def State.pageWrite (s : State) (sl off v : Nat) : State :=
  if off = 0 then s.mbxReqProd sl v
  else if off = 4 then s.mbxRspCons sl v
  else if off = 0x10 then s.stmCmdProd sl v
  else if 0x100 ≤ off ∧ off < 0x200 then s.hqProd sl ((off - 0x100) / 4) v
  else if 0x400 ≤ off ∧ off < 0x800 then s.etxProd sl ((off - 0x400) / 4) v
  else if 0x800 ≤ off ∧ off < 0xC00 then s.erxProd sl ((off - 0x800) / 4) v
  else s.doorbellBad sl

/-- A read of an offset of a slice's doorbell page. An index of another slice's queue reads 0 (R314). -/
def State.pageRead (s : State) (sl off : Nat) : Nat :=
  if off = 0 then s.get (SLC_MBX_REQ_PROD_INDEX sl)
  else if off = 4 then s.get (SLC_MBX_RSP_CONS_INDEX sl)
  else if off = 8 then s.get (SLC_MBX_REQ_CONS_INDEX sl)
  else if off = 12 then s.get (SLC_MBX_RSP_PROD_INDEX sl)
  else if off = 0x10 then (s.stream sl).cmdProd
  else if off = 0x14 then sl + 2 ^ 8 * s.get (SLC_PASID_PASID sl) + 2 ^ 28 * s.get (SLC_STATE_STATE sl)
  else if 0x100 ≤ off ∧ off < 0x200 then
    (if s.hqSlice ((off - 0x100) / 4) = sl then (s.helper ((off - 0x100) / 4)).prod else 0)
  else if 0x400 ≤ off ∧ off < 0x800 then
    (if (off - 0x400) / 4 < (s.txRange sl).2 then (s.txq ((s.txRange sl).1 + (off - 0x400) / 4)).prod else 0)
  else if 0x800 ≤ off ∧ off < 0xC00 then
    (if (off - 0x800) / 4 < (s.rxRange sl).2 then (s.rxq ((s.rxRange sl).1 + (off - 0x800) / 4)).prod else 0)
  else 0

/-- The slice that a PASID is bound to (R307). -/
def State.pasidSlice (s : State) (p : Nat) : Option Nat := s.takenSlices.find? (fun sl => decide (s.get (SLC_PASID_PASID sl) = p))

/-- The doorbell page of a slice holds an offset of the window (R40). -/
def inPage (sl off : Nat) : Bool := decide (0xC80000 + 4096 * sl ≤ off ∧ off < 0xC80000 + 4096 * sl + 4096)

/-- A request of 32 bits to a doorbell page; `none` is a read. -/
def State.pageAccess (s : State) (who : Requester) (sl off : Nat) (v : Option Word) : State :=
  match v with
  | some w => (s.pageWrite sl off w.toNat).complete who .ok []
  | none => s.complete who .ok (natToBytes 4 (s.pageRead sl off))

/-- A BAR 0 request with a PASID, of a host whose link is up: only its slice's doorbell page is reached (R40, R315). -/
def State.pasidRequest (s : State) (rid : BitVec 16) (pasid : BitVec 20) (off size : Nat) (v : Option Word) : State :=
  let who : Requester := .pcie rid (some pasid)
  if !s.flag fLinkUp then s
  else
  match s.pasidSlice pasid.toNat with
  | none => (s.tally SLC_UNBOUND).complete who .ur []
  | some sl =>
    if !inPage sl off then (s.tally (SLC_REFUSE sl)).complete who .ur []
    else if size ≠ 4 ∨ off % 4 ≠ 0 then (s.rsvdWr 0xc).complete who .ur []
    else s.pageAccess who sl (off % 4096) v

/-! ### BAR 2 (R453) -/

/-- A BAR 2 request: tier A at offsets below 2^40, tier B above. A poisoned write is dropped and fires `DET_098` (R507). -/
def State.bar2 (s : State) (rid : BitVec 16) (pasid : Option (BitVec 20)) (off : Nat) (acc : Access) (poisoned : Bool) : State :=
  let who : Requester := .pcie rid pasid
  let isWrite : Bool := match acc with | .write _ => true | .read _ => false
  let go (sl : Option Nat) : State :=
    if isWrite && poisoned then s.fire 98 0 4 (sl.getD 0) (off % 2 ^ 32)
    else s.tierAccess ⟨who, sl, decide (2 ^ 40 ≤ off), off % 2 ^ 40, acc⟩
  if !s.flag fLinkUp then s
  else
  match pasid with
  | none => go none
  | some p =>
    match s.pasidSlice p.toNat with
    | none => (s.tally SLC_UNBOUND).complete who .ur []
    | some sl => go (some sl)

/-! ### Address translation (R454) -/

/-- The held writes at the front that may go now: a write whose page is translated is sent, or ends where it is not
permitted; at a miss its Translation Request is sent unless it is on the way. -/
def State.drainHeld : Nat → State → State
  | 0, s => s
  | n + 1, s =>
    match s.pcie.held with
    | [] => s
    | .msix v :: t => State.drainHeld n ((s.onPcie (fun p => { p with held := t })).msixSend v)
    | .write asked pasid addr data :: t =>
      match s.atsFind pasid addr with
      | some e =>
        let s1 := s.onPcie (fun p => { p with held := t })
        State.drainHeld n (if e.wr then s1.emit (.dmaTr pasid (e.dst + (addr - e.base)) data) else s1)
      | none =>
        if asked then s
        else (s.onPcie (fun p => { p with held := .write true pasid addr data :: t })).emit (.atsRequest pasid (addr / 4096 * 4096) true)

/-- A read of host memory answered or sent: data and refusals end it, silence leaves it waiting (R454, R456). -/
def State.hostAnswer (s : State) (r : HostRead) : State :=
  match r.ans with
  | .silent => s.onPcie (fun p => { p with reads := p.reads ++ [{ r with held := false }] })
  | .abort => s.complete (.core r.hart) .err []
  | .data d => s.complete (.core r.hart) .ok ((d ++ List.replicate r.len 0).take r.len)

/-- A core's read is sent: as translated, ended where it is not permitted, held on a miss, or untranslated (R454). -/
def State.hostReadSend (s : State) (r : HostRead) : State :=
  if s.flag fAtsEn then
    match s.atsFind r.pasid r.addr with
    | some e => if e.rd then (s.emit (.dmaRead r.pasid (e.dst + (r.addr - e.base)) r.len true)).hostAnswer r else s.complete (.core r.hart) .err []
    | none => (s.onPcie (fun p => { p with reads := p.reads ++ [{ r with held := true }] })).emit (.atsRequest r.pasid (r.addr / 4096 * 4096) false)
  else (s.emit (.dmaRead r.pasid r.addr r.len false)).hostAnswer r

/-- The requests that need no translation any more, or cannot have it, go on. -/
def State.releaseReads (s : State) (f : HostRead → Bool) : State :=
  let now := s.pcie.reads.filter (fun r => r.held && f r)
  now.foldl (fun a r => a.hostReadSend r) (s.onPcie (fun p => { p with reads := p.reads.filter (fun r => !(r.held && f r)) }))

/-- ATS_TRANSLATION_COMPLETE: the answer enters the cache; the requests it was awaited by go on, or end where it grants
no permission (R454). The cache keeps its newest 8,192 entries. -/
def State.atsComplete (s : State) (e : AtsEntry) : State :=
  if !s.flag fAtsEn then s
  else
    let s1 := if e.rd ∨ e.wr then s.onPcie (fun p => { p with cache := (e :: p.cache).take 8192 }) else s
    let denied (h : HeldDma) : Bool := match h with | .write _ p a _ => e.hits p a && !e.wr | .msix _ => false
    let unask (h : HeldDma) : HeldDma := match h with | .write k p a d => .write (k && !e.hits p a) p a d | .msix v => .msix v
    let s2 := s1.onPcie (fun p => { p with held := (p.held.filter (fun h => !denied h)).map unask })
    let s3 := State.drainHeld s2.pcie.held.length s2
    let bad := s3.pcie.reads.filter (fun r => r.held && e.hits r.pasid r.addr && !e.rd)
    let s4 := s3.onPcie (fun p => { p with reads := p.reads.filter (fun r => !(r.held && e.hits r.pasid r.addr && !e.rd)) })
    (bad.foldl (fun a r => a.complete (.core r.hart) .err []) s4).releaseReads (fun r => e.hits r.pasid r.addr)

/-- Whether an entry meets the range of an Invalidate Request. -/
def AtsInval.meets (i : AtsInval) (pasid : Option Nat) (base len : Nat) : Bool :=
  decide (i.pasid = pasid ∧ i.base < base + len ∧ base < i.base + 2 ^ i.log2)

/-- ATS_INVALIDATE. -/
def State.atsInvalidate (s : State) (i : AtsInval) : State :=
  s.onPcie (fun p => { p with
    cache := p.cache.filter (fun e => !i.meets e.pasid e.base (2 ^ e.log2))
    invals := p.invals ++ [i] })

/-- ATS_INVALIDATE_DONE: the completion is sent once no read that used the entries is under way. -/
def State.atsInvalDone (s : State) (tag : Nat) : State :=
  match s.pcie.invals.find? (fun i => decide (i.tag = tag)) with
  | none => s
  | some i =>
    if s.pcie.reads.any (fun r => !r.held && i.meets r.pasid r.addr r.len) then s
    else (s.onPcie (fun p => { p with invals := p.invals.filter (fun j => decide (j.tag ≠ tag)) })).emit (.atsDone tag)

/-- COMPLETION_TIMEOUT: a core's oldest read without a completion ends (R456), and `DET_099` fires (R507). -/
def State.hostTimeout (s : State) (hart : Fin 32) : State :=
  match s.pcie.reads.find? (fun r => decide (r.hart = hart ∧ r.held = false)) with
  | none => s
  | some r => ((s.fire 99 0 4 ((r.pasid.bind s.pasidSlice).getD 0) (r.addr % 2 ^ 32)).onPcie (fun p => { p with reads := p.reads.erase r })).complete (.core hart) .err []

/-! ### The function's state (R456, R459) -/

/-- The pending messages that may leave now are sent, lowest vector first (R459). -/
def State.sendPending (s : State) : State :=
  (List.range 2048).foldl (fun a v =>
    if a.pcie.pba.contains v ∧ a.flag fMsixEn ∧ !a.flag fMsixMask ∧ !(a.msixEntry v).masked ∧ a.dmaOpen then
      (a.onPcie (fun p => { p with pba := p.pba.filter (fun x => decide (x ≠ v)) })).msix v
    else a) s

/-- Requests that were held end when DMA may no longer leave (R456): writes are not sent, reads end as error completions,
and messages are pending again. -/
def State.dmaClosed (s : State) : State :=
  if s.dmaOpen then s
  else
    let hs := s.pcie.held
    let rs := s.pcie.reads.filter (fun r => r.held)
    let vs := hs.filterMap (fun h => match h with | .msix v => some v | .write _ _ _ _ => none)
    let s1 := s.onPcie (fun p => { p with held := [], reads := p.reads.filter (fun r => !r.held), pba := vs ++ p.pba.filter (fun v => !vs.contains v) })
    let s2 := rs.foldl (fun a r => a.complete (.core r.hart) .err []) s1
    if rs ≠ [] ∨ hs.any (fun h => match h with | .write _ _ _ _ => true | .msix _ => false) then s2.dmaGate else s2

/-- The switches of the configuration space set. -/
def State.setConfig (s : State) (c : FnConfig) : State :=
  let s1 := ((((s.putB fBme c.bme).putB fD3hot c.d3hot).putB fMsixEn c.msixEn).putB fMsixMask c.msixMask).putB fAtsEn c.atsEn
  (s1.putB PCI_LINK_STATUS_BME c.bme).onPcie (fun p => { p with timeout := c.timeout })

/-- The translation cache ends with ATS: what was held goes out untranslated (R454). -/
def State.atsOff (s : State) : State :=
  if s.flag fAtsEn then s
  else
    let hs := s.pcie.held
    let s1 := s.onPcie (fun p => { p with held := [], cache := [] })
    (hs.foldl (fun a h => match h with
      | .write _ p ad d => a.emit (.dma p ad d)
      | .msix v => a.msixSend v) s1).releaseReads (fun _ => true)

/-- CONFIGURATION_SPACE_WRITE. The host reaches the function while the link is up. -/
def State.configWrite (s : State) (c : FnConfig) : State :=
  if !s.flag fLinkUp then s else ((s.setConfig c).dmaClosed.atsOff).sendPending

/-- MSIX_UNMASK: an entry of the MSI-X table written (R452, R459). -/
def State.msixWrite (s : State) (vec : Nat) (e : MsixEntry) : State :=
  if !s.flag fLinkUp then s
  else (s.onPcie (fun p => { p with table := mapSet (fun _ => msixReset) p.table vec e })).sendPending

/-- Configuration space, the MSI-X table and the translation cache cleared (R456). -/
def State.functionReset (s : State) : State :=
  let s1 := (s.setConfig ⟨false, false, false, false, false, 0⟩).dmaClosed
  s1.onPcie (fun p => { p with table := [], pba := [], cache := [], invals := [] })

/-- The link goes down (R456). -/
def State.pcieDown (s : State) : State :=
  if !s.flag fLinkUp then s
  else
    let s1 := (((s.put PCI_LINK_STATUS_UP 0).put PCI_LINK_STATUS_SPEED 0).put PCI_LINK_STATUS_WIDTH 0).put PCI_LINK_STATUS_FLIT 0
    (s1.dmaClosed).event PCI_EVENT_LINK_DOWN 9

/-- PCIE_RESET (R538). -/
def State.pcieReset (s : State) : State := s.pcieDown.functionReset

/-- The identity of the function (R5, R451): the subsystem's comes from the card's configuration. -/
def State.fnIdentity (s : State) : FnIdentity := ⟨0x1FD3, 0x8840, 0xB1, 0x120000, s.hol.card.subVendor, s.hol.card.subId⟩

/-- The links that train (R6): 4, 8 or 16 lanes at 2.5 to 64 GT/s, the last in FLIT mode. -/
def linkOk (speed width : Nat) (flit : Bool) : Bool :=
  decide ((width = 4 ∨ width = 8 ∨ width = 16) ∧ 1 ≤ speed ∧ speed ≤ 6) && (decide (speed ≠ 6) || flit)

/-- PCIE_LINK_UP: the link trains once the hub is out of reset (R544), at a width and rate that R6 lists; the function presents its
identity. -/
def State.pcieUp (s : State) (speed width : Nat) (flit : Bool) : State :=
  if !s.flag PWR_STATE_HUB_RUN || !linkOk speed width flit then s
  else
    ((((s.put PCI_LINK_STATUS_UP 1).put PCI_LINK_STATUS_SPEED speed).put PCI_LINK_STATUS_WIDTH width).putB PCI_LINK_STATUS_FLIT flit).emit
      (.function s.fnIdentity)

/-! ### The commands -/

/-- PASID_BAR0_REQUEST: `v` is the value of a write; a request without one is a read. -/
def execPasidBar0Request (rid : BitVec 16) (pasid : BitVec 20) (off : BitVec 28) (size : BitVec 13) (v : Option Word) (s : State) : Answer :=
  .next (s.pasidRequest rid pasid off.toNat size.toNat v)
/-- BAR2_REQUEST. -/
def execBar2Request (rid : BitVec 16) (pasid : Option (BitVec 20)) (off : BitVec 41) (acc : Access) (poisoned : Bool) (s : State) : Answer :=
  .next (s.bar2 rid pasid off.toNat acc poisoned)
/-- ATS_TRANSLATION_COMPLETE: a range of 2^(12 + `log2`) bytes. -/
def execAtsTranslationComplete (pasid : Option (BitVec 20)) (base dst : BitVec 64) (log2 : Fin 19) (rd wr : Bool) (s : State) : Answer :=
  .next (s.atsComplete ⟨pasid.map (fun (p : BitVec 20) => p.toNat), base.toNat, 12 + log2.val, dst.toNat, rd, wr⟩)
/-- ATS_INVALIDATE. -/
def execAtsInvalidate (tag : Fin 32) (pasid : Option (BitVec 20)) (base : BitVec 64) (log2 : Fin 53) (s : State) : Answer :=
  .next (s.atsInvalidate ⟨tag.val, pasid.map (fun (p : BitVec 20) => p.toNat), base.toNat, 12 + log2.val⟩)
/-- ATS_INVALIDATE_DONE. -/
def execAtsInvalidateDone (tag : Fin 32) (s : State) : Answer := .next (s.atsInvalDone tag.val)
/-- COMPLETION_TIMEOUT. -/
def execCompletionTimeout (hart : Fin 32) (s : State) : Answer := .next (s.hostTimeout hart)
/-- CONFIGURATION_SPACE_WRITE. -/
def execConfigurationSpaceWrite (c : FnConfig) (s : State) : Answer := .next (s.configWrite c)
/-- MSIX_UNMASK. -/
def execMsixUnmask (vec : Fin 2048) (e : MsixEntry) (s : State) : Answer := .next (s.msixWrite vec.val e)
/-- FUNCTION_LEVEL_RESET. -/
def execFunctionLevelReset (s : State) : Answer := .next s.functionReset
/-- PCIE_RESET. -/
def execPcieReset (s : State) : Answer := .next s.pcieReset
/-- PCIE_LINK_DOWN. -/
def execPcieLinkDown (s : State) : Answer := .next s.pcieDown
/-- PCIE_LINK_UP. -/
def execPcieLinkUp (speed : Fin 8) (width : Fin 32) (flit : Bool) (s : State) : Answer := .next (s.pcieUp speed.val width.val flit)

end Sys2Proof.Machine
end

