-- ==== Sys2Proof/Machine/HostCores.lean ====
section
/-! DEFINITION. The host cores: roles and reset (R443), accesses to the tiers and to host memory (R444, R445), and boot
(R448 to R450). -/

namespace Sys2Proof.Machine

/-- Whether a core runs. -/
def State.coreRuns (s : State) (c : Nat) : Bool := s.flag (PCI_CORE_CFG_RUN c)
/-- The slice that a core's requests are made for; `none` is the manager (R443). -/
def State.coreSlice (s : State) (c : Nat) : Option Nat :=
  if s.flag (PCI_CORE_CFG_ROLE c) then some (s.get (PCI_CORE_CFG_SLICE c)) else none
/-- Whether a core's requests are taken: in SLICE role its slice must be LIVE (R443). -/
def State.coreOk (s : State) (c : Nat) : Bool :=
  match s.coreSlice c with
  | none => true
  | some sl => s.live sl

/-- What the `time` CSR of every core reads: the raw counter in units of 10 ns (R447). -/
def State.timeCsr (s : State) : Nat := s.time.raw / (10 * 2 ^ 32)

/-! ### Roles and reset -/

/-- A core begins at the boot entry with its hart number in a0 (R449). -/
def State.startCore (s : State) (c : Nat) : State :=
  match s.pcie.boot with
  | none => s
  | some (pc, image) => (s.put (PCI_CORE_CFG_RUN c) 1).emit (.coreStart c pc c image)

/-- A core held in reset: its architectural state and its requests are lost. -/
def State.stopCore (s : State) (c : Nat) : State :=
  ((s.put (PCI_CORE_CFG_RUN c) 0).onPcie (fun p => { p with
    reads := p.reads.filter (fun r => decide (r.hart.val ≠ c))
    tierQ := p.tierQ.filter (fun q => match q.who with | .core h => decide (h.val ≠ c) | _ => true) })).emit (.coreStop c)

/-- CORE_CFG_WRITE: `ROLE` and `SLICE` are written while the core is in reset; then `RUN` releases it or holds it. Before a
boot image has been accepted no core leaves reset (R449). -/
def State.coreCfg (s : State) (c : Nat) (v : Word) : State :=
  let was := s.coreRuns c
  let role := v.toNat / 2 % 128
  let s1 := if v.toNat / 256 ≠ 0 then s.rsvdWr 0x10 else s
  let f : Fld := ⟨(PCI_CORE_CFG_RUN c).key, 1, 7⟩
  let s2 := if was then (if s1.get f = role then s1 else s1.lockWr 0x10) else s1.put f role
  if v.getLsbD 0 ∧ !was then s2.startCore c
  else if !v.getLsbD 0 ∧ was then s2.stopCore c
  else s2

/-! ### Accesses -/

/-- CORE_TIER_ACCESS. -/
def State.coreTier (s : State) (c : Fin 32) (tierB : Bool) (off : Nat) (acc : Access) : State :=
  if !s.coreRuns c.val then s
  else if !s.coreOk c.val then s.complete (.core c) .fault []
  else s.tierAccess ⟨.core c, s.coreSlice c.val, tierB, off, acc⟩

/-- CORE_HOST_ACCESS: an access to host memory under the slice's PASID, or under none (R444, R454, R456). -/
def State.coreHost (s : State) (c : Fin 32) (addr : Nat) (acc : Access) (ans : HostAns) : State :=
  if !s.coreRuns c.val then s
  else if !s.coreOk c.val then s.complete (.core c) .fault []
  else if !s.dmaOpen then s.dmaGate.complete (.core c) .err []
  else
    match acc with
    | .write d =>
      let s1 := match s.coreSlice c.val with
        | some sl => s.hostWrite sl addr d
        | none => s.hostWritePlain addr d
      s1.complete (.core c) .ok []
    | .read n =>
      let pasid := (s.coreSlice c.val).map (fun (sl : Nat) => s.get (SLC_PASID_PASID sl))
      s.hostReadSend ⟨c, pasid, addr, n, false, ans⟩

/-! ### Boot (R448 to R450) -/

/-- Boot stages: WAIT. -/
def bootWait : Nat := 0
/-- FETCH. -/
def bootFetch : Nat := 1
/-- CHECK. -/
def bootCheck : Nat := 2
/-- RUNNING. -/
def bootRunning : Nat := 3
/-- FAILED. -/
def bootFailed : Nat := 4

/-- The image's tier-A device address. -/
def State.bootAddr (s : State) : Nat :=
  s.get PCI_CPX_BOOT_ADDR_LO_ADDR / 256 * 256 + 2 ^ 32 * (s.get PCI_CPX_BOOT_ADDR_HI_ADDR % 128)

/-- The stage set, with `BOOT_EVT` for RUNNING and FAILED. -/
def State.bootStage (s : State) (st : Nat) : State :=
  let s1 := s.put PCI_CPX_BOOT_STAGE st
  if bootRunning ≤ st then s1.event PCI_EVENT_BOOT_EVT 9 else s1

/-- The sequence stops with a code of R450. -/
def State.bootFail (s : State) (e : Nat) : State := (s.put PCI_CPX_BOOT_ERR e).bootStage bootFailed

/-- Step 2 of R449 begins. -/
def State.bootBegin (s : State) : State := (s.put PCI_CPX_BOOT_ERR 0).bootStage bootFetch

/-- BOOT_START: with tier A open, a FLASH image is copied; a HOST image waits for `GO`. -/
def State.bootStart (s : State) : State :=
  if s.get PCI_CPX_BOOT_STAGE ≠ bootWait ∨ !s.flag MEM_INIT_A_DONE then s
  else if s.flag PCI_CPX_BOOT_SRC then s else s.bootBegin

/-- GO: ignored in FETCH and CHECK, and before the warden is past step 1. -/
def State.bootGo (s : State) : State :=
  if s.get PCI_CPX_BOOT_STAGE = bootFetch ∨ s.get PCI_CPX_BOOT_STAGE = bootCheck ∨ !s.flag MEM_INIT_A_DONE then s else s.bootBegin

/-- Tier-A bytes at the image's place; `none` if a word is in error. -/
def State.bootRead (s : State) (n : Nat) : Option (List Byte) × State :=
  let r := s.devView false s.bootAddr n
  (r.1.bind (fun d => if markedM d then none else some (bytesM d)), r.2)

/-- Whether the header of a boot image is refused, and with which code (R448, R450). -/
def bootHeaderErr (h : List Byte) : Option Nat :=
  let len := leAt h 0xC 4
  if leAt h 0 4 ≠ 0x4243485A then some 2
  else if leAt h 4 2 ≠ 1 ∨ leAt h 6 2 ≠ 0x8840 ∨ leAt h 8 1 ≠ 0xB1 then some 3
  else if leAt h 0xFC 4 ≠ crc32c (h.take 0xFC) then some 4
  else if leAt h 9 1 / 2 ≠ 0 ∨ leAt h 0xA 2 ≠ 0 ∨ leAt h 0x1C 224 ≠ 0 then some 2
  else if len < 2 ∨ 262144 < len ∨ leAt h 0x10 8 % 4 ≠ 0 ∨ 256 * len ≤ leAt h 0x10 8 then some 4
  else none

/-- The signature policy of R140 for a boot image; `sig` is the warden's verdict. -/
def State.bootPolicy (s : State) (img : List Byte) (sig : Bool) : Bool :=
  let lc := s.get HOL_LC_STATE
  if lc = lcScrapped then false
  else if leAt img 9 1 % 2 = 1 then decide (lc ≠ lcBlank) && s.sigBlockOk img (img.length - 256) && sig
  else decide (lc ≠ lcDeployed) && s.flag PLN_IMG_POLICY_ALLOW_UNSIGNED

/-- The image checked, and core 0 started or the boot failed (R449, items 3 and 4). -/
def State.bootChecked (s0 : State) (sig : Bool) : State :=
  let h := s0.bootRead 256
  match h.1 with
  | none => h.2.bootFail 1
  | some hd =>
    let s := h.2.bootStage bootCheck
    match bootHeaderErr hd with
    | some e => s.bootFail e
    | none =>
      let r := s.bootRead (256 * leAt hd 0xC 4)
      match r.1 with
      | none => r.2.bootFail 1
      | some img =>
        let fin := img.length - (if leAt hd 9 1 % 2 = 1 then 256 else 0)
        if leAt hd 0x18 4 ≠ crc32c ((img.take fin).drop 256) then r.2.bootFail 4
        else if !s.bootPolicy img sig then r.2.bootFail 5
        else
          let base := 2 ^ 40 + s.bootAddr
          let s1 := r.2.onPcie (fun p => { p with boot := some (base + leAt hd 0x10 8, base) })
          (if s1.coreRuns 0 then s1 else s1.startCore 0).bootStage bootRunning

/-- BOOT_FETCH_DONE: `flash` is what the card's boot flash holds, if it was read without error. -/
def State.bootFetched (s : State) (flash : Option (List Byte)) (sig : Bool) : State :=
  if s.get PCI_CPX_BOOT_STAGE ≠ bootFetch then s
  else if s.flag PCI_CPX_BOOT_SRC then s.bootChecked sig
  else
    match flash with
    | none => s.bootFail 1
    | some d =>
      let r := s.devWrite false s.bootAddr (cleanM d)
      if r.1 then r.2.bootFail 1 else r.2.bootChecked sig

/-! ### The commands -/

/-- CORE_CFG_WRITE. -/
def execCoreCfgWrite (c : Fin 32) (v : Word) (s : State) : Answer := .next (s.coreCfg c.val v)
/-- CORE_TIER_ACCESS. -/
def execCoreTierAccess (c : Fin 32) (tierB : Bool) (off : BitVec 40) (acc : Access) (s : State) : Answer :=
  .next (s.coreTier c tierB off.toNat acc)
/-- CORE_HOST_ACCESS: `addr` is the IOVA, and `ans` what the host answers to a read. -/
def execCoreHostAccess (c : Fin 32) (addr : BitVec 47) (acc : Access) (ans : HostAns) (s : State) : Answer :=
  .next (s.coreHost c addr.toNat acc ans)
/-- BOOT_START. -/
def execBootStart (s : State) : Answer := .next s.bootStart
/-- GO. -/
def execGo (s : State) : Answer := .next s.bootGo
/-- BOOT_FETCH_DONE. -/
def execBootFetchDone (flash : Option (List Byte)) (sig : Bool) (s : State) : Answer := .next (s.bootFetched flash sig)

end Sys2Proof.Machine
end

