-- ==== Sys2Proof/Machine/Replay.lean ====
section
/-! DEFINITION. Replay before commit (R511 to R520), what a link detector watches (R22), quarantine (R518) and margins (R523). -/

namespace Sys2Proof.Machine

/-! ### Targets (R513) -/

/-- Whether a group meets the conditions of R513 for a replay of a logical group of slice `sl` whose original runs on `orig`. -/
def State.targetOk (s : State) (orig g : Nat) : Bool :=
  s.present g && !s.quarantined g && !s.retired g && !s.pairBit HOL_SEAL_GROUPS_LO_SEAL HOL_SEAL_GROUPS_HI_SEAL g
    && !s.granted 0 g && (s.marked orig || !s.marked g) && decide (g / 16 ≠ orig / 16)

/-- Whether a group is in the pool: named there and granted to no slice. -/
def State.pooled (s : State) (g : Nat) : Bool :=
  s.pairBit INT_POOL_LO_POOL INT_POOL_HI_POOL g && (s.holder g).isNone

/-- Whether a group runs a replay or waits for one. -/
def State.targetBusy (s : State) (g : Nat) : Bool := s.integ.replays.any (fun r => decide (r.target = g))

/-- The generation of a slice's image. -/
def State.imageGen (s : State) (sl : Nat) : Nat := match (s.slice sl).image with
  | some im => im.gen
  | none => 0

/-- The tenants that a group may be borrowed from, by lowest `PRIO` and then highest number. -/
def State.lenders (s : State) (sl : Nat) : List Nat :=
  sortDesc (fun (t : Nat) => (t : Int) - 64 * (s.get (DSP_SLC_SAVE_PRIO t) : Int))
    ((List.range 64).filter (fun t => decide (t ≠ 0 ∧ t ≠ sl) && s.live t && !s.flag (DSP_SLC_SAVE_SAVE_PEND t)
      && decide (s.get (DSP_SLC_STATE_STATE t) ≠ dspPreempted)))

/-- The targets for a replay in the order of R513, each with the slice it is borrowed from. -/
def State.targets (s : State) (sl lg orig : Nat) : List (Nat × Option Nat) :=
  let ok := (List.range 64).filter (s.targetOk orig)
  let holds := ok.filter (fun g => s.pooled g && decide (mapGet (fun _ => none) s.integ.holds g = some (sl, lg, s.imageGen sl)))
  let pool := ok.filter s.pooled
  let lent := (s.lenders sl).flatMap (fun t => (ok.filter (fun g => s.granted t g && (s.sliceGroups t).contains g)).map (fun g => (g, some t)))
  (holds ++ pool).map (fun g => (g, none)) ++ lent

/-- The first target that is free and not lent to slice 0 (R342): none of `spent`, and none of `avoid` where there is another. -/
def State.pickTarget (s : State) (sl lg orig : Nat) (spent : List Nat) (avoid : Nat → Bool) : Option (Nat × Option Nat) :=
  let free := (s.targets sl lg orig).filter (fun q => !s.targetBusy q.1 && (s.group q.1).saveFor.isNone
    && decide (s.get (DSP_GRP_STATE_STATE q.1) ≠ grpLent) && !spent.contains q.1)
  match free.find? (fun q => !avoid q.1) with
  | some q => some q
  | none => free.head?

/-- Whether a logical group has a target outside `spent`, free or not. -/
def State.hasTarget (s : State) (sl lg orig : Nat) (spent : List Nat) : Bool := (s.targets sl lg orig).any (fun q => !spent.contains q.1)

/-- A replay record placed on a target: ready at once where the target holds the sections (R514), else to be set up; a
borrowed group is saved first (R344). -/
def State.placeReplay (s : State) (r : Replay) (q : Nat × Option Nat) : State :=
  let g := q.1
  let s1 : State := { s with integ := { s.integ with replays := s.integ.replays ++ [{ r with target := g, borrow := q.2, setup := false, voided := false, digest := none, overlay := [] }] } }
  match q.2 with
  | some t => s1.onGroup g (fun x => { x with saveFor := some t, keptAt := some (x.step, x.seg, x.begun) })
  | none => s1.powerOnGroup g

/-- The logical group's share of the step begins on a target that is set up: its journal so far is there (R515). -/
def State.startReplay (s : State) (r : Replay) : State :=
  let g := r.target
  let rs := s.integ.replays.map (fun x => if x.target = g then { x with setup := true } else x)
  let s1 : State := { s with integ := { s.integ with replays := rs } }
  let fresh (x : Tile) : Tile := { tearDown false x with run := TileRun.reset, ej := [], cx := TileCtx.empty }
  let s2 := (groupTiles g).foldl (fun a t => (a.onTile t fresh).refreshTile t) s1
  let s3 := (s2.onGroup g (fun x => { x with replay := true, step := r.step, seg := 0, begun := false, running := false, resume := false, prologue := false })).setGroupState g grpBoundary modeTenant
  let js := (s3.integ.journals.filter (fun j => decide (j.slice = r.slice ∧ j.step = r.step ∧ j.lgroup = r.lgroup))).flatMap (fun (j : Journal) => j.lines)
  (js.foldl (fun a e => a.onTile (tileAt g (e.ltile % 16)) (applyEntry e)) s3).refreshGuards

/-- A replay that cannot be performed (R519). -/
def State.noReplay (s : State) (sl n lg : Nat) : State :=
  let g := ((s.placeOf sl lg).getD 0)
  let s1 := ((s.tally INT_SKIPS).fire 153 g (g / 16) sl 0).event INT_EVENT_SKIP 8
  if (s1.stepRec sl n).suspect.contains lg then
    if (s1.slice sl).retrySusp = some n then s1.stepFail sl n 4
    else (s1.onSlice sl (fun x => { x with retrySusp := some n })).rerunSteps sl n true
  else ((s1.onStepRec sl n (fun r => { r with sampled := r.sampled.filter (fun x => decide (x ≠ lg)) })).refreshMarks sl).maybeReady sl

/-- A replay record dropped, its target given up. -/
def State.dropReplay (s : State) (r : Replay) : State :=
  let rs := s.integ.replays.filter (fun x => decide (x.target ≠ r.target))
  State.releaseTarget { s with integ := { s.integ with replays := rs } } r

/-- Whether the journal of a logical group and step has every line (R511). -/
def State.journalFull (s : State) (sl n lg : Nat) : Bool :=
  s.integ.journals.all (fun j => decide (j.slice ≠ sl ∨ j.step ≠ n ∨ j.lgroup ≠ lg) || j.full)

/-- A replay under way of a logical group whose journal has become incomplete (R519). -/
def State.brokenReplay (s : State) (sl lg : Nat) : Option Replay :=
  s.integ.replays.find? (fun r => decide (r.slice = sl ∧ r.lgroup = lg) && !s.journalFull sl r.step lg)

/-- A logical group's share of the oldest step that samples or suspects it is placed on a target (R513). A replay that a
detector voided starts again elsewhere (R515). -/
def State.placeStep (s : State) (sl lg : Nat) : State :=
  let dead := s.integ.replays.find? (fun r => decide (r.slice = sl ∧ r.lgroup = lg) && r.voided)
  let s0 := match dead with
    | some r => s.dropReplay r
    | none => s
  match (s0.slice sl).steps.find? (fun r => (r.sampled ++ r.suspect).contains lg && !r.matched.contains lg
      && !s0.integ.replays.any (fun q => decide (q.slice = sl ∧ q.lgroup = lg ∧ q.step = r.num))) with
  | none => s0
  | some r =>
    let orig := (s0.placeOf sl lg).getD 0
    let (tie, first) := match dead with
      | some d => (d.tie, d.first)
      | none => (false, none)
    let spent := (dead.toList.map (fun d => d.target)) ++ (first.toList.map (fun f => f.1))
    let avoid (g : Nat) : Bool := first.any (fun f => decide (g / 16 = f.1 / 16))
    if !s0.journalFull sl r.num lg then s0.noReplay sl r.num lg
    else
      match s0.pickTarget sl lg orig spent avoid with
      | some q =>
        let rec0 : Replay := ⟨sl, r.num, lg, orig, q.1, tie, false, none, first, q.2, false, []⟩
        let s1 := s0.placeReplay rec0 q
        if mapGet (fun _ => none) s1.integ.holds q.1 = some (sl, lg, s1.imageGen sl) then s1.startReplay rec0 else s1
      | none => if s0.hasTarget sl lg orig spent then s0 else s0.noReplay sl r.num lg

/-- REPLAY_START: a replay whose journal has become incomplete cannot be performed (R519); otherwise the group's share is placed. -/
def State.replayStart (s : State) (sl lg : Nat) : State :=
  match s.brokenReplay sl lg with
  | some r => (s.dropReplay r).noReplay sl r.step lg
  | none => s.placeStep sl lg

/-- REPLAY_SETUP_DONE (R514): the sections and INIT data are on the target, which is not lent meanwhile (R343). -/
def State.replaySetup (s : State) (g : Nat) : State :=
  match s.integ.replays.find? (fun r => decide (r.target = g) && !r.setup) with
  | none => s
  | some r =>
    if (r.borrow.isSome ∧ s.get (DSP_GRP_STATE_STATE g) ≠ grpSaved) ∨ s.get (DSP_GRP_STATE_STATE g) = grpLent then s
    else
      match (s.slice r.slice).image.bind (fun im => im.groups.find? (fun x => decide (x.lgroup = r.lgroup))) with
      | none => s
      | some gs =>
        let s1 := (((s.powerOnGroup g).writeGroup gs g true).put (DSP_GRP_GUARD_INTACT g) 0).putIf r.borrow.isSome (DSP_GRP_STATE_STATE g) grpBoundary
        let h := mapSet (fun _ => none) s1.integ.holds g (if r.borrow.isNone then some (r.slice, r.lgroup, s1.imageGen r.slice) else none)
        State.startReplay { s1 with integ := { s1.integ with holds := h } } r

/-! ### Verdicts (R517, R518) -/

/-- A group quarantined while a load is under way: a load whose image is known and targets the group aborts, except in its
WRITE, which checks at its end; one that is still fetching remembers the group (R141, R143). -/
def State.quarantineLoad (s : State) (g : Nat) : State :=
  if s.get PLN_LOAD_STATUS_STAGE = stCheck ∧ s.loadTargets.any (fun q => decide (q.2 = g)) then s.loadFail ⟨0x21, sectNone, 0⟩
  else if s.loading then { s with loader := { s.loader with quar := s.loader.quar ++ [g] } }
  else s

/-- A group quarantined (R518): one that no slice holds is powered off. -/
def State.quarantine (s0 : State) (g : Nat) : State :=
  let s := s0.quarantineLoad g
  let h := mapSet (fun _ => none) s.integ.holds g none
  let s1 := State.putPairBit { s with integ := { s.integ with holds := h } } INT_QUAR_LO_QUAR INT_QUAR_HI_QUAR g true
  let s2 := s1.event INT_EVENT_QUAR 8
  if (s2.holder g).isNone then s2.powerOffGroup g else s2

/-- A grant's bit of one group. -/
def State.setGrant (s : State) (sl g : Nat) (b : Bool) : State := s.putPairBit (SLC_GROUPS_LO_GROUPS sl) (SLC_GROUPS_HI_GROUPS sl) g b

/-- A faulty original group: it is quarantined and replaced in its slice's grant, and the step runs again (R518). -/
def State.replaceGroup (s : State) (sl n lg orig : Nat) (first : Option Nat) : State :=
  let s1 := s.quarantine orig
  let pool := (List.range 64).filter (fun g => s1.targetOk orig g && s1.pooled g && !s1.targetBusy g)
  let pick := match first with
    | some f => if pool.contains f then some f else pool.head?
    | none => pool.head?
  match pick with
  | none => s1.stepFail sl n 4
  | some g =>
    let held := decide (mapGet (fun _ => none) s1.integ.holds g = some (sl, lg, s1.imageGen sl))
    let s2 := s1.rerunSteps sl n true
    let lent := decide (s2.get (DSP_GRP_STATE_STATE orig) = grpLent)
    let s3 := ((s2.setGrant sl orig false).setGrant sl g true).putPairBit INT_POOL_LO_POOL INT_POOL_HI_POOL g false
    let s4 := s3.onSlice sl (fun x => { x with place := mapSet (fun _ => 0) x.place lg (g + 1) })
    let h := mapSet (fun _ => none) s4.integ.holds g none
    let s5 : State := { s4 with integ := { s4.integ with holds := h } }
    let s6 := if lent then
        ((groupTiles orig).foldl (fun a t => a.onTile t (fun x => { x with saved := none })) s5).onGroup orig (fun q => { q with before := grpIdle })
      else (s5.dropStores orig false).powerOffGroup orig
    let s7 := s6.powerOnGroup g
    let s8 := match (s7.slice sl).image.bind (fun im => im.groups.find? (fun x => decide (x.lgroup = lg))) with
      | some gs => if held then s7 else s7.writeGroup gs g true
      | none => s7
    (((s8.enterGroup sl lg g).onGroup g (fun q => { q with step := n })).put (DSP_GRP_STATE_SLICE orig) 0).refreshGuards

/-- A detector of class Q strikes a group: it is quarantined, and its step is run again with the group replaced (R506, R518).
With no step on it, it is replaced without a rerun where a pool group qualifies (DEDUCED, log entry 25). -/
def State.groupFaulty (s : State) (g : Nat) : State :=
  let sl := s.get (DSP_GRP_STATE_SLICE g)
  match s.lgroupOn sl g with
  | some lg =>
    if sl = 0 then s.quarantine g
    else
      let n := ((s.slice sl).steps.find? (fun r => decide (r.num = (s.group g).step))).map (fun r => r.num)
      s.replaceGroup sl (n.getD (s.slice sl).nextRelease) lg g none
  | none => s.quarantine g

/-- The verdict MATCH for a logical group in a step (R517). -/
def State.replayMatch (s : State) (sl n lg : Nat) : State :=
  ((s.onStepRec sl n (fun r => { r with matched := r.matched ++ [lg] })).refreshMarks sl).maybeReady sl

/-- A tie-break replay on a third group, on another die than the first target's where there is one (R517). While every third group is
busy the verdict waits: `s` is then as it was. -/
def State.tieBreak (s : State) (r : Replay) : State :=
  let s1 := (s.tally INT_REPLAYS).dropReplay r
  let d := r.digest.getD (0, 0)
  match s1.pickTarget r.slice r.lgroup r.orig [r.target] (fun (g : Nat) => decide (g / 16 = r.target / 16)) with
  | some q =>
    let rec0 : Replay := ⟨r.slice, r.step, r.lgroup, r.orig, q.1, true, false, none, some (r.target, d), q.2, false, []⟩
    let s2 := s1.placeReplay rec0 q
    if mapGet (fun _ => none) s2.integ.holds q.1 = some (r.slice, r.lgroup, s2.imageGen r.slice) then s2.startReplay rec0 else s2
  | none => if s1.hasTarget r.slice r.lgroup r.orig [r.target] then s else s1.noReplay r.slice r.step r.lgroup

/-- The original's digest, altered by an armed injection of `DET_020` (R508). -/
def State.originalDigest (s : State) (r : Replay) : (Nat × Nat) × State :=
  let k := 64 * r.step + r.lgroup
  let d := mapGet (fun _ => (0, 0)) (s.slice r.slice).digests k
  if s.integ.flipDigest.getLsbD r.orig then
    let d1 := (d.1, (d.2 + 1) % 2 ^ 64)
    let f := s.integ.flipDigest &&& ~~~(BitVec.ofNat 64 (2 ^ r.orig))
    let s1 : State := { s with integ := { s.integ with flipDigest := f } }
    (d1, (s1.onSlice r.slice (fun x => { x with digests := mapSet (fun _ => (0, 0)) x.digests k d1 })).put INT_INJECT_ARM 0)
  else (d, s)

/-- REPLAY_VERDICT: both digests are complete and are compared (R517). -/
def State.replayVerdict (s : State) (sl lg : Nat) : State :=
  match s.integ.replays.find? (fun r => decide (r.slice = sl ∧ r.lgroup = lg) && r.setup && !r.voided && s.journalFull sl r.step lg) with
  | none => s
  | some r =>
    let ran := stepFrom (stepNext r.step) (s.group r.target).step && (groupTiles r.target).all (fun t => !(s.tile t).opsLeft sl r.step 4096)
    if !(ran && s.groupDone sl r.step r.orig) then s
    else
      let o := s.originalDigest r
      let d := r.digest.getD (0, 0)
      let done (a : State) : State := (a.dropReplay r).tally INT_REPLAYS
      match r.first with
      | none => if o.1 = d then (done o.2).replayMatch sl r.step lg else o.2.tieBreak r
      | some (t, d1) =>
        let s1 := done o.2
        if d = d1 then
          let s2 := (s1.tally INT_MISMATCH).fire 20 r.orig (r.orig / 16) sl 0
          s2.replaceGroup sl r.step lg r.orig (some t)
        else if d = o.1 then (s1.quarantine t).replayMatch sl r.step lg
        else (s1.tally INT_MISMATCH).stepFail sl r.step 4

/-- QUAR_CLEAR (R518). -/
def State.quarClear (s : State) (hi : Bool) (v : Word) : State :=
  (List.range 32).foldl (fun a i =>
    let g := if hi then 32 + i else i
    if v.getLsbD i then
      (if (a.holder g).isSome then a.lockWr 0xd else a.putPairBit INT_QUAR_LO_QUAR INT_QUAR_HI_QUAR g false)
    else a) s

/-! ### What a detector watches (R507) -/

/-- The kinds of instance that run a step: tiles and groups (R507). -/
def instGroup (d inst : Nat) : Option Nat :=
  if d ≤ 11 then (if inst < 1024 then some (groupOf inst) else none)
  else if d ≤ 21 then (if inst < 64 then some inst else none)
  else none

/-- The dies that a saddle link joins (R19). -/
def sdlDies (i : Nat) : Nat × Nat := nth (0, 1) [(0, 1), (0, 2), (1, 3), (2, 3)] i

/-- Whether data between dies `a` and `b` may be on a saddle link: between facing dies on their own; between diagonal ones on any, since the
image chooses the path (R19; DEDUCED, log entry 108). -/
def onSaddle (i a b : Nat) : Bool := decide (a ≠ b ∧ (sdlDies i = (min a b, max a b) ∨ a + b = 3))

/-- The die at the far end of a mover operation of tile `t`; `none` is the hub (R23, R24). -/
def State.opDie (s : State) (t : Nat) (o : MvOp) : Option Nat :=
  if o.desc.op = 1 ∨ o.desc.op = 2 then (s.physTile (s.opId t o) (groupOf t) (recRtile o.desc)).map (fun d => d / 256)
  else if (o.desc.op = 3 ∨ o.desc.op = 4) ∧ o.desc.remote.toNat / 2 ^ 63 = 0 then (s.translate o.slice .a (unitAddr o.desc 0)).map homeDie
  else none

/-- Whether a tile of a group has an operation with requests or replies under way that meets a condition. -/
def State.opsUnderWay (s : State) (g : Nat) (f : Nat → MvOp → Bool) : Bool :=
  (groupTiles g).any (fun t => ((s.tile t).ctxs.filterMap (fun p => p.2)).any (fun o => !o.dead && !o.out.isEmpty && f t o))

/-- Whether a row of a route waits at a tile of a group whose source and destination dies meet a condition. -/
def State.rowsUnderWay (s : State) (g : Nat) (f : Nat → Nat → Bool) : Bool :=
  (groupTiles g).any (fun d => (s.tile d).ej.any (fun e =>
    let id := s.runId d
    match (s.slice id.slice).image.bind (fun im => (im.groups.flatMap (fun q => q.routes)).find? (fun r => decide (r.dst = id.ltile ∧ r.id = e.1))) with
    | some r => (match s.physTile id g r.src with | some p => f (p / 256) (d / 256) | none => false)
    | none => false))

/-- Whether what group `g` runs has data in flight on the link that a detector watches: a saddle link, a bridge with the col port
behind it, or the col ports of tier B and of Dravsel (R19, R22, R25, R507). -/
def State.onLink (s : State) (d inst g : Nat) : Bool :=
  let bridge (t : Nat) (o : MvOp) : Bool := match s.opDie t o with
    | none => decide (t / 256 = inst)
    | some b => decide (t / 256 + b = 3 ∧ (t / 256 = inst ∨ b = inst))
  if d = 32 then
    s.opsUnderWay g (fun t o => (match s.opDie t o with | some b => onSaddle inst (t / 256) b | none => false)) || s.rowsUnderWay g (onSaddle inst)
  else if d = 33 ∨ (d = 34 ∧ inst < 4) then s.opsUnderWay g bridge
  else if d = 34 ∧ inst = 4 then s.opsUnderWay g (fun _ o => decide ((o.desc.op = 3 ∨ o.desc.op = 4) ∧ o.desc.remote.toNat / 2 ^ 63 = 1))
  else if d = 34 ∧ inst = 5 then s.opsUnderWay g (fun _ o => decide (7 ≤ o.desc.op.toNat ∧ o.desc.op.toNat < 12))
  else false

/-! ### Margins (R522, R523) -/

/-- MARGIN_SAMPLE: monitor `m` of die `d` reads `v`, in 0.1 % of the clock period. -/
def State.marginSample (s : State) (d m v : Nat) : State :=
  let s1 := s.put (INT_DIE_MARGIN d) (min v (s.get (INT_DIE_MARGIN d)))
  let due : Bool := match mapFind d s1.integ.marginAt with
    | some t => decide (t + 100 ≤ s1.ms)
    | none => true
  if v < s1.get INT_MARGIN_CFG_MIN_MARGIN ∧ due then
    let mk := mapInsert d s1.ms (mapErase d s1.integ.marginAt)
    State.fire { s1 with integ := { s1.integ with marginAt := mk } } (128 + d) m d 0 v
  else s1

/-- SUPPLY_DROOP: droop detector `m` of die `d` has seen the supply `v` mV below nominal for 5 ns. -/
def State.supplyDroop (s : State) (d m v : Nat) : State :=
  let s1 := s.put (INT_DIE_DROOP d) (max v (s.get (INT_DIE_DROOP d)))
  if s1.get INT_MARGIN_CFG_DROOP_MV < v then s1.fire (133 + d) m d 0 v else s1

/-- The target clock step of a die (R535): deratings that `DERATE_CLR` has cancelled no longer count. -/
def State.tclkTarget (s : State) (d : Nat) : Nat :=
  min 7 (s.get (PWR_TCLK_CAP d) + (s.get (PWR_TCLK_DERATE d) - mapGet (fun _ => 0) s.integ.derateOld d))

/-- `PEND` of a die. -/
def State.refreshTclk (s : State) (d : Nat) : State := s.putB (PWR_TCLK_PEND d) (decide (s.get (PWR_TCLK_STEP d) ≠ s.tclkTarget d))

/-- DERATE_CLR (R535): the die's corner counts are cleared at once, and the deratings counted so far are cancelled at its next
clock change. -/
def State.derateClr (s : State) (d : Nat) : State :=
  let cs := s.integ.corners.filter (fun c => decide (c.die ≠ d))
  let old := mapSet (fun _ => 0) s.integ.derateOld d (if d < 4 then s.get (PWR_TCLK_DERATE d) else 0)
  let s1 : State := { s with integ := { s.integ with corners := cs, derateOld := old } }
  if d < 4 then s1.refreshTclk d else s1

/-! ### The commands -/

/-- REPLAY_START. -/
def execReplayStart (sl lg : Fin 64) (s : State) : Answer := .next (s.replayStart sl lg)
/-- REPLAY_SETUP_DONE. -/
def execReplaySetupDone (g : Fin 64) (s : State) : Answer := .next (s.replaySetup g)
/-- REPLAY_VERDICT. -/
def execReplayVerdict (sl lg : Fin 64) (s : State) : Answer := .next (s.replayVerdict sl lg)
/-- QUAR_CLEAR. -/
def execQuarClear (hi : Bool) (v : Word) (s : State) : Answer := .next (s.quarClear hi v)
/-- MARGIN_SAMPLE. -/
def execMarginSample (d : Fin 5) (m : Fin 96) (v : BitVec 10) (s : State) : Answer := .next (s.marginSample d m v.toNat)
/-- SUPPLY_DROOP. -/
def execSupplyDroop (d : Fin 5) (m : Fin 16) (v : BitVec 8) (s : State) : Answer := .next (s.supplyDroop d m v.toNat)
/-- DERATE_CLR. -/
def execDerateClr (d : Fin 5) (s : State) : Answer := .next (s.derateClr d)

end Sys2Proof.Machine
end

