-- ==== Sys2Proof/Machine/Salet.lean ====
section
/-! DEFINITION. The Salet management bus (R476 to R502): frames, beacons and heartbeats, bit loading, messages, and the line
and polarity tests. -/

namespace Sys2Proof.Machine

/-! ### Sending (R481, R489, R490, R494, R502) -/

/-- Whether frames may be sent on a bus (R494). -/
def State.busUsable (s : State) (b : Bool) : Bool :=
  s.flag (SAL_BUS_CTRL_TX_EN (busNo b)) && !s.flag (SAL_BUS_STATUS_TX_OFF (busNo b)) && s.flag (SAL_BUS_STATUS_BEACON_OK (busNo b))

/-- The bus of a message's attempt (R494). -/
def State.attemptBus (s : State) (m : SalTx) : Option Bool :=
  match m.bus with
  | some b => if s.busUsable b then some b else none
  | none =>
    let p := decide ((m.att + s.get SAL_CFG_PREF_B) % 2 = 1)
    if s.busUsable p then some p else if s.busUsable (!p) then some (!p) else none

/-- Whether a message may go on a bus now: no frame is being received there (R489). -/
def State.salMayGo (s : State) (m : SalTx) (b : Bool) : Bool :=
  s.flag SAL_CFG_EN && (s.salBus b).rx.isNone && !m.sent &&
    (if m.bcast then m.left.contains b && s.busUsable b else decide (s.attemptBus m = some b))

/-- Whether an injection fires now (R502); it clears `ARM`. -/
def State.salInject (s : State) (point : Nat) (b : Bool) : Bool × State :=
  if s.flag SAL_INJECT_ARM ∧ s.get SAL_INJECT_POINT = point ∧ s.get SAL_INJECT_BUS = busNo b then (true, s.put SAL_INJECT_ARM 0)
  else (false, s)

/-- A check value, made wrong if an injection says so: which wrong value is a free value. -/
def State.checkOrWrong (s : State) (wrong : Bool) (c : Nat) : Nat × State :=
  if wrong then
    let v := s.takeFree
    (Nat.xor c (1 + v.1.toNat % (2 ^ 32 - 1)), v.2)
  else (c, s)

/-- The loading of a frame's data symbols (R490). -/
def tableLoading (t : Option SalTable) : List Nat := loadingBits (t.map (fun x => x.bits))
/-- Bits per symbol of a loading (R478, R481). -/
def tableBits (t : Option SalTable) : Nat := loadingSum (tableLoading t)

/-- Data symbols for a payload (R481). -/
def symbolsFor (len : Nat) (t : Option SalTable) : Nat := if len = 0 then 0 else (8 * (len + 4) + tableBits t - 1) / tableBits t

/-- The first 50 bytes of a header (R481). -/
def salHeader (typ dst : Nat) (bcast : Bool) (src lver len nsym cycle : Nat) : List Byte :=
  [BitVec.ofNat 8 (typ + 16), BitVec.ofNat 8 (dst % 64 + if bcast then 128 else 0), BitVec.ofNat 8 (src % 64), BitVec.ofNat 8 lver]
    ++ natToBytes 2 len ++ natToBytes 2 nsym ++ natToBytes 2 cycle ++ List.replicate 40 0

/-- A frame leaves on a bus: header with `HCRC`, payload and FCS (R481, R502), on the data symbols that `body` makes of the payload and
its FCS. -/
def State.sendFrame (s : State) (b : Bool) (hdr payload : List Byte) (data : Bool) (body : List Byte → List (List Carrier)) : State :=
  let i1 := s.salInject 1 b
  let h := i1.2.checkOrWrong i1.1 (crc32c hdr)
  let i2 := if data then h.2.salInject 2 b else (false, h.2)
  let f := i2.2.checkOrWrong i2.1 (crc32c payload)
  let tail := if payload = [] then [] else payload ++ natToBytes 4 f.1
  let head := hdr ++ natToBytes 4 h.1
  let wave := salWave (s.flag (SAL_BUS_STATUS_INVERT (busNo b))) head (body tail)
  (f.2.emit (.salet b (head ++ tail) wave)).tally (SAL_TX_FRAMES (busNo b))

/-- A manager's message ends (R494). -/
def State.userDone (s : State) (m : SalTx) (result : Nat) : State :=
  if m.user then ((s.put SAL_TX_CTRL_BUSY 0).put SAL_TX_CTRL_RESULT result).salEvent SAL_EVENT_TX_DONE else s

/-- Message `k` of the queue replaced or removed. -/
def State.setTx (s : State) (k : Nat) (m : Option SalTx) : State :=
  s.onSal (fun r => { r with txq := r.txq.take k ++ m.toList ++ r.txq.drop (k + 1) })

/-- The table that an attempt is sent under (R490). -/
def State.txTable (s : State) (m : SalTx) (b : Bool) : Option SalTable :=
  if m.bcast ∨ 2 ≤ m.att then none else (s.salPeer b m.dst).tx

/-- SALET_FRAME_SEND: message `k` goes on a bus (R489, R494). -/
def State.salSend (s : State) (b : Bool) (k : Nat) : State :=
  match s.sal.txq[k]? with
  | none => s
  | some m =>
    if !s.salMayGo m b then s
    else
      let drop := if m.mtype = 6 then s.salInject 4 b else (false, s)
      if drop.1 then drop.2.setTx k none
      else
        let t := s.txTable m b
        let payload := [BitVec.ofNat 8 m.mtype, (0 : Byte)] ++ natToBytes 2 m.mseq ++ natToBytes 2 m.aseq ++ natToBytes 2 0 ++ m.body
        let hdr := salHeader 0 m.dst m.bcast s.salNode ((t.map (fun x => x.ver)).getD 0) payload.length (symbolsFor payload.length t) 0
        let s1 := drop.2.sendFrame b hdr payload true (dataSymbols (tableLoading t))
        let s2 := if m.att = 0 then s1 else s1.tally (SAL_TX_RETRY (busNo b))
        if m.bcast then
          let left := m.left.filter (fun x => decide (x ≠ b))
          if left.any (fun x => s2.busUsable x) then s2.setTx k (some { m with left := left })
          else (s2.setTx k none).userDone m 1
        else if m.mtype = 6 then s2.setTx k none
        else
          let s3 := s2.setTx k (some { m with sent := true, left := [b] })
          s3.onSal (fun r => { r with lastTx := mapInsert m.dst s.ms (mapErase m.dst r.lastTx) })

/-- SALET_RETRY_TIMEOUT: message `k` has had no ACK in time (R491, R494). -/
def State.salRetry (s : State) (k : Nat) : State :=
  match s.sal.txq[k]? with
  | none => s
  | some m =>
    if !m.sent then s
    else if m.att + 1 < s.get SAL_TIMING_RETRIES then
      (s.setTx k (some { m with att := m.att + 1, sent := false })).onSal (fun r => { r with
        probes := r.probes ++ (m.left.map (fun b => (m.dst, b))).filter (fun p => !r.probes.contains p) })
    else (s.setTx k none).userDone m 2

/-- SALET_TX_GO: a write of `SAL_TX_CTRL` with `GO` (R494). -/
def State.salTxGo (s : State) (v : Word) : State :=
  let s1 := s.writeCodes SAL_TX_CTRL_DST.key v false
  if !v.getLsbD 19 then s1
  else if s1.flag SAL_TX_CTRL_BUSY then s1.lockWr 0xf
  else
    let len := s1.get SAL_TX_CTRL_LEN
    let dst := s1.get SAL_TX_CTRL_DST
    let bc := s1.flag SAL_TX_CTRL_BCAST
    if len = 0 ∨ 1528 < len ∨ (!bc ∧ dst = s1.salNode) then s1.put SAL_TX_CTRL_RESULT 3
    else
      let body := ((List.range ((len + 3) / 4)).flatMap (fun i => natToBytes 4 (s1.get (SAL_TXBUF_WORD i)))).take len
      ((s1.put SAL_TX_CTRL_BUSY 1).put SAL_TX_CTRL_RESULT 0).salQueue dst bc 7 body none true

/-! ### Mailboxes (R473, R495 to R497) -/

/-- A response's 16 words: `STATUS`, the tag, and results. -/
def rspWords (tag : Word) (status : Nat) (ws : List Word) : List Word :=
  ([BitVec.ofNat 32 status, tag] ++ ws ++ List.replicate 16 0).take 16

/-- A node's command is answered: its response is kept and sent (R495, R496). -/
def State.salAnswer (s : State) (node mseq : Nat) (ws : List Word) : State :=
  let body := ws.flatMap (fun w => natToBytes 4 w.toNat)
  let mark (x : SalSeen) : SalSeen := if x.mseq = mseq then { x with rsp := some body } else x
  let s1 := s.onSal (fun r => { r with hist := mapSet (fun _ => []) r.hist node ((mapGet (fun _ => []) r.hist node).map mark) })
  s1.salQueue node false 2 body none false

/-- A command answered, to its own mailbox (R473). -/
def State.holAnswer (s : State) (c : HolCmd) (status : Nat) (ws : List Word) : State :=
  let rs := rspWords (nth 0 c.words 1) status ws
  match c.node with
  | some n => s.salAnswer n.1 n.2 rs
  | none =>
    let s1 := (List.range 16).foldl (fun a i => a.put (HOL_RSP_WORD i) (nth (0 : Word) rs i).toNat) s
    (s1.put HOL_CMD_CTRL_BUSY 0).holEvent HOL_EVENT_CMD_DONE

/-- The code of a command. -/
def holOpc (c : HolCmd) : Nat := (nth (0 : Word) c.words 0).toNat % 256

/-- Commands with unknown codes at the front of the queue are answered UNKNOWN. -/
def State.holSkip : Nat → State → State
  | 0, s => s
  | n + 1, s =>
    match s.hol.queue with
    | [] => s
    | c :: t => if 1 ≤ holOpc c ∧ holOpc c ≤ 10 then s else State.holSkip n ((s.onHol (fun h => { h with queue := t })).holAnswer c 5 [])

/-- A command joins the queue of both mailboxes (R473). -/
def State.holEnqueue (s : State) (c : HolCmd) : State :=
  let s1 := (s.onHol (fun h => { h with queue := h.queue ++ [c] })).wakeWarden
  State.holSkip s1.hol.queue.length s1

/-! ### Reception (R482, R483, R493, R496) -/

/-- SALET_PREAMBLE: reception starts, or is captured by a preamble at least 6 dB stronger. `level` is the P1 power below full
scale in units of 0.5 dB. -/
def State.preamble (s : State) (b : Bool) (level afc : Nat) (clip : Bool) : State :=
  if !s.flag SAL_CFG_EN then s
  else
    let s1 := s.putIf clip (SAL_BUS_STATUS_CLIP (busNo b)) 1
    match (s1.salBus b).rx with
    | none => s1.onBus b (fun x => { x with rx := some (level, afc) })
    | some (p, _) =>
      if level + 12 ≤ p then (s1.onBus b (fun x => { x with rx := some (level, afc) })).tally (SAL_RX_CAPTURE (busNo b)) else s1

/-- FALSE_RECEPTION: the header check has failed (R482). -/
def State.falseRx (s : State) (b : Bool) : State :=
  if !s.flag SAL_CFG_EN then s else (s.onBus b (fun x => { x with rx := none })).tally (SAL_RX_FALSE (busNo b))

/-- A frame has been received whole: `SAL_BUS_RX_` reports it. -/
def State.frameEnd (s : State) (b : Bool) : State :=
  match (s.salBus b).rx with
  | none => s
  | some (level, afc) =>
    ((s.put (SAL_BUS_RX_AFC (busNo b)) afc).put (SAL_BUS_RX_LEVEL (busNo b)) level).onBus b (fun x => { x with rx := none })

/-- Whether a DATA frame is delivered (R482, R493), and what its reception does. -/
def State.salReceive (s : State) (f : SalFrame) : Bool × State :=
  let b := f.busB
  if !s.flag SAL_CFG_EN then (false, s)
  else
    let s1 := s.frameEnd b
    if !f.bcast ∧ f.dst.toNat ≠ s.salNode then (false, s1)
    else if f.lver ≠ 0 ∧ !(s.salPeer b f.src.toNat).rx.any (fun t => decide (t.ver = f.lver.toNat)) then
      (false, (s1.tally (SAL_RX_BADLVER (busNo b))).salQueue f.src.toNat false 8 (List.replicate 109 0) (some b) false)
    else if !f.fcsOk then (false, s1.tally (SAL_RX_CRC (busNo b)))
    else (true, s1.tally (SAL_RX_OK (busNo b)))

/-- A message acknowledged on the bus it came on (R494). The ACK's own number is a free value. -/
def State.salAck (s : State) (f : SalFrame) : State :=
  if f.bcast then s
  else
    let v := s.takeFree
    v.2.onSal (fun r => { r with txq := r.txq ++
      [⟨f.src.toNat, false, 6, v.1.toNat % 2 ^ 16, f.mseq.toNat, [], 0, false, some f.busB, [], false⟩] })

/-- The receive queue's registers. -/
def State.refreshRx (s : State) : State :=
  let q := s.sal.rxq
  let h := q.head?
  let body := (h.map (fun x => x.body)).getD []
  let s1 := (((s.putB SAL_RX_STATUS_VALID h.isSome).put SAL_RX_STATUS_SRC ((h.map (fun x => x.src)).getD 0)).putB SAL_RX_STATUS_BUS
    ((h.map (fun x => x.busB)).getD false)).put SAL_RX_STATUS_MTYPE ((h.map (fun x => x.mtype)).getD 0)
  let s2 := (s1.put SAL_RX_STATUS_LEN body.length).put SAL_RX_STATUS_COUNT q.length
  (List.range 382).foldl (fun a i => a.put (SAL_RXBUF_WORD i) (bytesToNat ((body.drop (4 * i)).take 4))) s2

/-- A message enters the receive queue (R495). -/
def State.rxPush (s : State) (f : SalFrame) (mtype : Nat) : State :=
  (s.onSal (fun r => { r with rxq := r.rxq ++ [⟨f.src.toNat, f.busB, mtype, f.body⟩] })).refreshRx.salEvent SAL_EVENT_RX_MSG

/-- What is kept of the messages of a source. -/
def State.salHist (s : State) (n : Nat) : List SalSeen := mapGet (fun _ => []) s.sal.hist n

/-- A message received (R495, R496): a duplicate is acknowledged again, and a command that has been run is answered again; a
message for a full receive queue is not kept; any other is acknowledged and acted on. -/
def State.salMessage (s : State) (f : SalFrame) (queued : Bool) (act : State → State) : State :=
  let r := s.salReceive f
  if !r.1 then r.2
  else
    let n := f.src.toNat
    match (r.2.salHist n).find? (fun x => decide (x.mseq = f.mseq.toNat)) with
    | some x =>
      let s1 := r.2.salAck f
      (match x.rsp with | some body => s1.salQueue n false 2 body none false | none => s1)
    | none =>
      if queued ∧ 8 ≤ r.2.sal.rxq.length then r.2.put SAL_RX_STATUS_OVF 1
      else
        let s1 := r.2.onSal (fun q => { q with hist := mapSet (fun _ => []) q.hist n ((⟨f.mseq.toNat, none⟩ :: r.2.salHist n).take 32) })
        act (s1.salAck f)

/-- CMD (R497). -/
def State.salCmd (s : State) (f : SalFrame) : State :=
  s.salMessage f false (fun a =>
    let ws := (List.range 16).map (fun i => BitVec.ofNat 32 (bytesToNat ((f.body.drop (4 * i)).take 4)))
    if a.pairBit SAL_CMD_NODES_LO_NODES SAL_CMD_NODES_HI_NODES f.src.toNat then a.holEnqueue ⟨some (f.src.toNat, f.mseq.toNat), ws⟩
    else (a.salAnswer f.src.toNat f.mseq.toNat (rspWords (nth 0 ws 1) 1 [])).salEvent SAL_EVENT_CMD_REFUSED)

/-- A message for the receive queue: RSP, RECORD, EPOCH_ACK or USER. -/
def State.salQueued (s : State) (f : SalFrame) (mtype : Nat) : State := s.salMessage f true (fun a => a.rxPush f mtype)

/-- The member states of a message written into the inactive bank (R397). -/
def State.stageMembers (s : State) (d : List Byte) : State :=
  let b := 1 - s.get DRV_EPOCH_BANK
  (List.range 256).foldl (fun a i => a.setReg (DRV_MEMBER_STATE b i).key (BitVec.ofNat 32 (bytesToNat ((d.drop (4 * i)).take 4)))) s

/-- EPOCH: the warden applies the epoch, logging a refusal, or the message is queued for the manager (R498). -/
def State.salEpoch (s : State) (f : SalFrame) : State :=
  if !s.flag SAL_CFG_WARDEN_EPOCH then s.salQueued f 4
  else
    s.salMessage f false (fun a =>
      let e := leAt f.body 0 2
      let refused (x : State) : State := let v := x.takeFree; v.2.wardenLog (v.1.toNat % 256) (v.1.toNat / 256 % 256) 0 v.2.holTemp e
      if !a.flag PWR_STATE_HUB_RUN then refused a
      else
        let a1 := (a.stageMembers (f.body.drop 4)).applyWrite (BitVec.ofNat 32 (e + 2 ^ 16 * (leAt f.body 2 1 % 2) + 2 ^ 17))
        if a1.flag DRV_EPOCH_VALID ∧ a1.get DRV_EPOCH_EPOCH = e ∧ !(a.flag DRV_EPOCH_VALID ∧ a.get DRV_EPOCH_EPOCH = e) then a1
        else refused a1)

/-- The version of the table held for sending, in its register. -/
def fLver (b : Bool) (n : Nat) : Fld := if b then SAL_PEER_LVER_B n else SAL_PEER_LVER_A n

/-- LOAD: a table is installed, or dropped by version 0 (R493, R495). -/
def State.salLoad (s : State) (f : SalFrame) : State :=
  s.salMessage f false (fun a =>
    let v := leAt f.body 0 1
    let n := f.src.toNat
    let bits := (List.range 216).map (fun i => leAt f.body (1 + i / 2) 1 / (if i % 2 = 0 then 1 else 16) % 16)
    (a.onPeer f.busB n (fun p => { p with tx := if v = 0 then none else some ⟨v, bits⟩ })).put (fLver f.busB n) v)

/-- SALET_ACK (R494). -/
def State.salAcked (s : State) (f : SalFrame) : State :=
  let r := s.salReceive f
  if !r.1 then r.2
  else
    let hit (m : SalTx) : Bool := decide (m.dst = f.src.toNat ∧ m.mseq = f.aseq.toNat ∧ m.mtype ≠ 6) && !m.bcast && (m.sent || decide (0 < m.att))
    match r.2.sal.txq.find? hit with
    | none => r.2
    | some m => (r.2.onSal (fun q => { q with txq := q.txq.erase m })).userDone m 1

/-- RX_POP. -/
def State.rxPop (s : State) : State := (s.onSal (fun r => { r with rxq := r.rxq.tail })).refreshRx

/-! ### Probes and bit loading (R491, R492) -/

/-- Whether an energy is at least `db` dB above another; with no energy it is not. -/
def aboveBy (db e noise : Nat) : Bool := decide (0 < e ∧ 10 ^ db * noise ^ 10 ≤ e ^ 10)

/-- The loading of a subcarrier from its probe energy and its error energy (R492). -/
def loadingOf (maxb margin : Nat) (e : Nat × Nat) : Nat :=
  (List.range 9).foldl (fun (b k : Nat) => if decide (0 < k ∧ k ≤ maxb) && aboveBy (11 + 3 * (k - 1) + margin) e.1 e.2 then k else b) 0

/-- PROBE: a table is measured and sent back in a LOAD message (R492). -/
def State.salProbe (s : State) (b : Bool) (src dst : Nat) (es : List (Nat × Nat)) : State :=
  if !s.flag SAL_CFG_EN then s
  else
    let s1 := s.frameEnd b
    if dst ≠ s.salNode then s1
    else
      let raw := (List.range 216).map (fun i => loadingOf (s.get SAL_LOADING_MAXB) (s.get SAL_LOADING_MARGIN_DB) (nth (0, 0) es i))
      let bits := if raw.foldl (· + ·) 0 < 432 then List.replicate 216 2 else raw
      let old := (s.salPeer b src).rx
      let v := ((old.head?.map (fun t => t.ver)).getD 0) % 255 + 1
      let body := BitVec.ofNat 8 v :: (List.range 108).map (fun i => BitVec.ofNat 8 (nth 0 bits (2 * i) + 16 * nth 0 bits (2 * i + 1)))
      ((s1.tally (SAL_RX_OK (busNo b))).onPeer b src (fun p => { p with rx := (⟨v, bits⟩ :: p.rx).take 2 })).salQueue src false 8 body (some b) false

/-- Whether a probe to a peer is due (R491). -/
def State.probeDue (s : State) (b : Bool) (n : Nat) : Bool :=
  let every := 1000 * s.get SAL_LOADING_PROBE_S
  s.sal.probes.contains (n, b) ||
    (match mapFind n s.sal.lastTx with
      | some t => decide (s.ms ≤ t + every ∧ mapGet (fun _ => 0) s.sal.lastProbe (2 * n + busNo b) + every ≤ s.ms)
      | none => false)

/-- PROBE_SEND (R489, R491): eight symbols of the sequence, with no payload. -/
def State.probeSend (s : State) (b : Bool) (n : Nat) : State :=
  if !s.flag SAL_CFG_EN ∨ !s.busUsable b ∨ (s.salBus b).rx.isSome ∨ n = s.salNode ∨ !s.probeDue b n then s
  else
    let s1 := s.sendFrame b (salHeader 2 n false s.salNode 0 0 8 0) [] false (fun _ => probeSymbols)
    s1.onSal (fun r => { r with
      probes := r.probes.filter (fun p => decide (p ≠ (n, b)))
      lastProbe := mapInsert (2 * n + busNo b) s.ms (mapErase (2 * n + busNo b) r.lastProbe) })

/-! ### Beacons and heartbeats (R485 to R488) -/

/-- BEACON: a cycle starts (R485, R486). -/
def State.beacon (s : State) (b : Bool) (src cycle : Nat) : State :=
  if !s.flag SAL_CFG_EN then s
  else
    let i := busNo b
    let own := s.flag (SAL_BUS_STATUS_BEACONING i)
    let s0 := (s.frameEnd b).tally (SAL_RX_OK i)
    let newNode := decide (s0.get (SAL_BUS_STATUS_BEACON_NODE i) ≠ src)
    let s1 := s0.put (SAL_BUS_STATUS_BEACON_NODE i) src
    if own ∧ s.salNode < src then s1
    else
      let s2 := (s1.put (SAL_BUS_STATUS_BEACONING i) 0).put (SAL_BUS_STATUS_BEACON_OK i) 1
      s2.onBus b (fun x => { x with
        cycle := cycle
        heard := some s.raw
        fresh := true
        shift := s0.get (SAL_BUS_RX_AFC i)
        pol := if newNode then none else x.pol })

/-- BEACON_TIMEOUT: the node begins beaconing (R485). Its cycle number goes on from the last one heard. -/
def State.beaconTimeout (s : State) (b : Bool) : State :=
  let i := busNo b
  if !s.flag SAL_CFG_EN ∨ !s.flag SAL_CFG_BEACON_EN ∨ s.flag (SAL_BUS_STATUS_BEACONING i) then s
  else
    let x := s.salBus b
    let next := match x.heard with
      | some t => x.cycle + (s.raw - t) / (2 ^ 32 * 1000000)
      | none => 0
    ((s.put (SAL_BUS_STATUS_BEACONING i) 1).put (SAL_BUS_STATUS_BEACON_OK i) 1).onBus b (fun y => { y with cycle := (next + 65535) % 65536 })

/-- BEACON_SEND (R486). -/
def State.beaconSend (s : State) (b : Bool) : State :=
  let i := busNo b
  if !s.flag SAL_CFG_EN ∨ !s.flag (SAL_BUS_STATUS_BEACONING i) ∨ !s.busUsable b then s
  else
    let c := ((s.salBus b).cycle + 1) % 65536
    let s1 := s.onBus b (fun x => { x with cycle := c, heard := some s.raw, fresh := true, shift := 0 })
    s1.sendFrame b (salHeader 1 0 true s.salNode 0 0 0 c) [] false (fun _ => [])

/-- A bus's view of a peer. -/
def fView (b : Bool) (n : Nat) : Fld := if b then SAL_PEER_VIEW_B n else SAL_PEER_VIEW_A n
/-- A bus's ATTN of a peer. -/
def fAttn (b : Bool) (n : Nat) : Fld := if b then SAL_PEER_ATTN_B n else SAL_PEER_ATTN_A n

/-- A peer's device state from its two views (R488). -/
def State.peerState (s : State) (n : Nat) : State :=
  if !s.flag (SAL_BUS_STATUS_BEACON_OK 0) ∧ !s.flag (SAL_BUS_STATUS_BEACON_OK 1) then s
  else
    let a := s.get (SAL_PEER_VIEW_A n)
    let b := s.get (SAL_PEER_VIEW_B n)
    let seen := (s.salPeer false n).seen || (s.salPeer true n).seen
    let st := if a = 2 ∨ b = 2 then 2 else if a = 1 ∨ b = 1 then 1 else if (a = 3 ∨ b = 3) ∧ seen then 3 else 0
    if s.get (SAL_PEER_STATE n) = st then s
    else
      let s1 := (s.put (SAL_PEER_STATE n) st).salEvent SAL_EVENT_PEER_STATE
      if st = 3 then s1.salEvent SAL_EVENT_PEER_LOST else s1

/-- What a node reads in a heartbeat symbol of one peer: its ALIVE, RUNNING and ATTN subcarriers (R487). -/
structure SalBeat where
  alive   : Bool
  running : Bool
  attn    : Bool
  deriving DecidableEq, Repr

/-- Whether subcarrier `k` of a heartbeat symbol is ON: 12 dB above the mean energy of subcarriers 212 to 235 (R487). -/
def beatOn (es : List Nat) (k : Nat) : Bool := aboveBy 12 (24 * nth 0 es (k - 20)) (((List.range 24).map (fun i => nth 0 es (192 + i))).sum)

/-- What a heartbeat symbol shows of node `n` (R487). -/
def beatOf (es : List Nat) (n : Nat) : SalBeat := ⟨beatOn es (20 + 3 * n), beatOn es (21 + 3 * n), beatOn es (22 + 3 * n)⟩

/-- What a heartbeat symbol shows of one peer (R488). -/
def State.readBeat (s : State) (b : Bool) (n : Nat) (x : SalBeat) : State :=
  let p := s.salPeer b n
  let s1 :=
    if x.alive then
      ((s.put (fView b n) (if x.running then 2 else 1)).putB (fAttn b n) x.attn).onPeer b n (fun q => { q with seen := true, miss := 0 })
    else if !p.seen then s
    else
      let m := p.miss + 1
      ((s.putIf (decide (3 ≤ m)) (fView b n) 3).putB (fAttn b n) x.attn).onPeer b n (fun q => { q with miss := m })
  s1.peerState n

/-- The subcarriers of a node's heartbeat that carry energy (R487). -/
def beatCarriers (node : Nat) (running attn : Bool) : List Nat :=
  [20 + 3 * node] ++ (if running then [21 + 3 * node] else []) ++ (if attn then [22 + 3 * node] else [])

/-- The part's heartbeat symbol leaves on a bus, unless its transmitter is off or injection 3 omits it (R486, R487, R494, R502). -/
def State.sendBeat (s : State) (b : Bool) : State :=
  let i := busNo b
  if !s.flag (SAL_BUS_CTRL_TX_EN i) || s.flag (SAL_BUS_STATUS_TX_OFF i) then s
  else
    let inj := s.salInject 3 b
    if inj.1 then inj.2
    else s.emit (.heartbeat b (beatCarriers s.salNode (s.flag PWR_STATE_HUB_RUN) (s.flag SAL_HB_CTRL_ATTN))
      (-(BitVec.ofNat 16 (s.salBus b).shift).toInt) (s.flag (SAL_BUS_STATUS_INVERT i)))

/-- HEARTBEAT: the symbol after a beacon is sent and read (R486 to R488). -/
def State.heartbeat (s : State) (b : Bool) (es : List Nat) : State :=
  if !s.flag SAL_CFG_EN ∨ !(s.salBus b).fresh then s
  else
    let i := busNo b
    let s0 := s.onBus b (fun x => { x with fresh := false })
    let s1 := s0.sendBeat b
    let beat (n : Nat) : SalBeat := beatOf es n
    let peers := (List.range 64).filter (fun n => decide (n ≠ s.salNode))
    let missed := peers.any (fun n => (s.salPeer b n).seen && !(beat n).alive)
    let s2 := if missed then s1.tally (SAL_HB_MISS i) else s1
    peers.foldl (fun a n => a.readBeat b n (beat n)) s2

/-- BEACON_LOST: three cycles without a beacon (R488). -/
def State.beaconLost (s : State) (b : Bool) : State :=
  let i := busNo b
  if !s.flag SAL_CFG_EN ∨ s.flag (SAL_BUS_STATUS_BEACONING i) ∨ !s.flag (SAL_BUS_STATUS_BEACON_OK i) then s
  else
    let s1 := (s.put (SAL_BUS_STATUS_BEACON_OK i) 0).onBus b (fun x => { x with fresh := false })
    let s2 := (List.range 64).foldl (fun a n => (a.put (fView b n) 0).onPeer b n (fun p => { p with miss := 0 })) s1
    ((List.range 64).foldl (fun a n => a.peerState n) s2).salEvent SAL_EVENT_BEACON_LOST

/-! ### Line and polarity tests (R499, R500) -/

/-- The class of a reading in ohms and millivolts (R499). -/
def lineClass (r vp vn : Nat) : Nat :=
  if vp < 300 ∨ vn < 300 then 5
  else if 1700 < vp ∨ 1700 < vn then 6
  else if r < 235 then 4
  else if r < 1600 then 1
  else if r ≤ 3300 then 0
  else if r ≤ 7000 then 2
  else 3

/-- LINE_TEST (R499): in the node's own test cycle. Before the first reading the class counts as OK. -/
def State.lineTest (s : State) (b : Bool) (r vp vn : Nat) : State :=
  let i := busNo b
  if !s.flag SAL_CFG_EN ∨ (s.salBus b).cycle % 64 ≠ s.salNode then s
  else
    let c := lineClass r vp vn
    let old := s.get (SAL_BUS_STATUS_LINE i)
    let was := if old = 7 then 0 else old
    let s1 := ((s.put (SAL_BUS_LINE_RES i) (min (r / 10) 0xFFFF)).put (SAL_BUS_LINE_VP i) (min (vp / 10) 255)).put (SAL_BUS_LINE_VN i) (min (vn / 10) 255)
    let s2 := (s1.put (SAL_BUS_STATUS_LINE i) c).putB (SAL_BUS_STATUS_TX_OFF i) (decide (4 ≤ c))
    if c = was then s2 else s2.salEvent SAL_EVENT_LINE_FAULT

/-- POLARITY_READING (R500): V_P - V_N in millivolts during the beacon node's test cycle. -/
def State.polarity (s : State) (b : Bool) (mv : Int) : State :=
  let i := busNo b
  if !s.flag SAL_CFG_EN ∨ s.flag (SAL_BUS_STATUS_BEACONING i) ∨ (s.salBus b).cycle % 64 ≠ s.get (SAL_BUS_STATUS_BEACON_NODE i) then s
  else
    let sign : Option Bool := if 20 ≤ mv then some false else if mv ≤ -20 then some true else none
    let s1 := s.onBus b (fun x => { x with pol := sign })
    match sign with
    | none => s1
    | some v => if (s.salBus b).pol = some v then s1.putB (SAL_BUS_STATUS_INVERT i) v else s1

/-! ### The commands -/

/-- SALET_PREAMBLE. -/
def execSaletPreamble (busB : Bool) (level : BitVec 8) (afc : BitVec 16) (clip : Bool) (s : State) : Answer :=
  .next (s.preamble busB level.toNat afc.toNat clip)
/-- FALSE_RECEPTION. -/
def execFalseReception (busB : Bool) (s : State) : Answer := .next (s.falseRx busB)
/-- BEACON. -/
def execBeacon (busB : Bool) (src : BitVec 6) (cycle : BitVec 16) (s : State) : Answer := .next (s.beacon busB src.toNat cycle.toNat)
/-- BEACON_SEND. -/
def execBeaconSend (busB : Bool) (s : State) : Answer := .next (s.beaconSend busB)
/-- BEACON_TIMEOUT. -/
def execBeaconTimeout (busB : Bool) (s : State) : Answer := .next (s.beaconTimeout busB)
/-- BEACON_LOST. -/
def execBeaconLost (busB : Bool) (s : State) : Answer := .next (s.beaconLost busB)
/-- HEARTBEAT. -/
def execHeartbeat (busB : Bool) (es : List Nat) (s : State) : Answer := .next (s.heartbeat busB es)
/-- PROBE. -/
def execProbe (busB : Bool) (src dst : BitVec 6) (es : List (Nat × Nat)) (s : State) : Answer := .next (s.salProbe busB src.toNat dst.toNat es)
/-- PROBE_SEND. -/
def execProbeSend (busB : Bool) (n : BitVec 6) (s : State) : Answer := .next (s.probeSend busB n.toNat)
/-- SALET_FRAME_SEND. -/
def execSaletFrameSend (busB : Bool) (k : BitVec 16) (s : State) : Answer := .next (s.salSend busB k.toNat)
/-- SALET_RETRY_TIMEOUT. -/
def execSaletRetryTimeout (k : BitVec 16) (s : State) : Answer := .next (s.salRetry k.toNat)
/-- CMD. -/
def execCmd (f : SalFrame) (s : State) : Answer := .next (s.salCmd f)
/-- RSP. -/
def execRsp (f : SalFrame) (s : State) : Answer := .next (s.salQueued f 2)
/-- RECORD. -/
def execRecord (f : SalFrame) (s : State) : Answer := .next (s.salQueued f 3)
/-- EPOCH. -/
def execEpoch (f : SalFrame) (s : State) : Answer := .next (s.salEpoch f)
/-- EPOCH_ACK. -/
def execEpochAck (f : SalFrame) (s : State) : Answer := .next (s.salQueued f 5)
/-- SALET_ACK. -/
def execSaletAck (f : SalFrame) (s : State) : Answer := .next (s.salAcked f)
/-- USER. -/
def execUser (f : SalFrame) (s : State) : Answer := .next (s.salQueued f 7)
/-- LOAD. -/
def execLoad (f : SalFrame) (s : State) : Answer := .next (s.salLoad f)
/-- LINE_TEST. -/
def execLineTest (busB : Bool) (r vp vn : BitVec 20) (s : State) : Answer := .next (s.lineTest busB r.toNat vp.toNat vn.toNat)
/-- POLARITY_READING. -/
def execPolarityReading (busB : Bool) (mv : Int) (s : State) : Answer := .next (s.polarity busB mv)
/-- SALET_TX_GO. -/
def execSaletTxGo (v : Word) (s : State) : Answer := .next (s.salTxGo v)
/-- RX_POP. -/
def execRxPop (s : State) : Answer := .next s.rxPop
/-- SAL_INJECT_ARM: `v` is the value written to `SAL_INJECT` (R502). -/
def execSalInjectArm (v : Word) (s : State) : Answer :=
  .next ((s.writeCodes SAL_INJECT_ARM.key v false).putIf (v.getLsbD 31) SAL_INJECT_ARM 1)

end Sys2Proof.Machine
end

