-- ==== Sys2Proof/Machine/Power.lean ====
section
/-! DEFINITION. Power, clocks and reset (R524 to R545): rails and the power sequences, clock steps, gated domains, and the
kinds of reset. -/

namespace Sys2Proof.Machine

/-- `MAIN` of `PWR_STATE`: OFF. -/
def mainOff : Nat := 0
/-- RAMP. -/
def mainRamp : Nat := 1
/-- ON. -/
def mainOn : Nat := 2
/-- DOWN. -/
def mainDown : Nat := 3
/-- FAULT. -/
def mainFault : Nat := 4

/-! ### Clearing (R538, R539) -/

/-- The group-presence register reports what the fuses hold (R3): an absent group is absent after every reset. -/
def State.fusePresent (s : State) : State :=
  s.put64 PLN_GROUP_PRESENT_LO_PRESENT PLN_GROUP_PRESENT_HI_PRESENT (~~~s.hol.absent).toNat

/-- What a main power-up and a part reset clear, and what they keep (R539): the hollow and the modem with their registers, the
sequencer's own state, and `CAP` and `DERATE` with the warden's counts. -/
def State.clearPart (s : State) : State :=
  let held (k : Nat) : Bool := decide (0xE00000 ≤ k ∧ k < 0x1000000)
  let s0 : State := { State.reset with
    pending := s.pending, free := s.free, out := s.out, raw := s.raw, hol := s.hol, sal := s.sal, pwr := s.pwr
    regs := mapFilter held s.regs, ctrs := mapFilter held s.ctrs
    integ := { Integ.reset with corners := s.integ.corners, derateOld := s.integ.derateOld } }
  let s1 := (s0.setReg PWR_STATE_MAIN.key (s.reg PWR_STATE_MAIN.key)).put PWR_STATE_HUB_RUN 0
  let s2 := (List.range 4).foldl (fun a d =>
    ((a.put (PWR_TCLK_CAP d) (s.get (PWR_TCLK_CAP d))).put (PWR_TCLK_DERATE d) (s.get (PWR_TCLK_DERATE d))).put (INT_DIE_STEPS d) (s.get (PWR_TCLK_DERATE d))) s1
  let s3 := ((s2.put HOL_SEAL_GROUPS_LO_SEAL 0).put HOL_SEAL_GROUPS_HI_SEAL 0).put HOL_TAMPER_WIPING 0
  ((s3.hol.lcLog.foldl (fun a r => a.logRec r) s3).onHol (fun h => { h with lcLog := [] })).fusePresent

/-- The key slots that can be used (R466). -/
def State.usableKeys (s : State) : Nat := Nat.land s.hol.enrolled (255 - s.hol.revoked)

/-- The bits of the policy that follow the fuses (R140, R463, R466). -/
def State.applyFuses (s : State) : State :=
  (s.put PLN_IMG_POLICY_KEY_EN s.usableKeys).putIf (decide (s.get HOL_LC_STATE = lcDeployed)) PLN_IMG_POLICY_ALLOW_UNSIGNED 0

/-- What the always-on rails' loss leaves: the fuses and the retained records (R475, R538). -/
def State.clearAll (s : State) : State :=
  let s0 : State := { State.reset with
    pending := s.pending, free := s.free, out := s.out
    hol := { HolRt.reset with kept := s.hol.kept, keys := s.hol.keys, enrolled := s.hol.enrolled, revoked := s.hol.revoked, devKey := s.hol.devKey, absent := s.hol.absent } }
  (s0.put HOL_LC_STATE (s.get HOL_LC_STATE)).applyFuses.fusePresent

/-! ### Sequences (R529 to R531, R542, R543) -/

/-- Main power-up begins with rail group 1. -/
def State.powerUp (s : State) : State :=
  let s1 := (s.clearPart.put PWR_STATE_MAIN mainRamp).put PWR_STATE_RESET_CAUSE 0
  State.emit { s1 with pwr := { s1.pwr with groups := 1 } } (.rail 1 true)

/-- The rails switched off in reverse group order. -/
def State.railsOff (s : State) : State :=
  let s1 := (List.range s.pwr.groups).foldl (fun a i => a.emit (.rail (s.pwr.groups - i) false)) s
  { s1 with pwr := { s1.pwr with groups := 0 } }

/-- The part put in reset and the main rails off, with `MAIN` and a cause. -/
def State.powerDown (s : State) (main cause : Nat) : State :=
  ((s.clearPart.railsOff).put PWR_STATE_MAIN main).put PWR_STATE_OFF_CAUSE cause

/-- A main power-up that ends in FAULT (R531). -/
def State.powerFail (s : State) : State := ((s.powerDown mainFault 3).wardenLog 10 0 0 s.holTemp 0).sendNewest

/-- A main power-down from ON or from a ramp (R542): 1 request, 2 thermal, 3 regulator. -/
def State.mainDownFor (s : State) (cause : Nat) : State :=
  let m := s.get PWR_STATE_MAIN
  if m = mainOn ∨ m = mainRamp then s.powerDown mainOff cause else s

/-- AO_POWER_UP and ALWAYS_ON_POWER_LOSS. -/
def State.aoReset (s : State) : State := s.clearAll

/-- HOLLOW_RESET_RELEASE: the warden starts, reads the card's configuration and enables the modem (R477, R529). -/
def State.hollowRelease (s : State) (c : CardConfig) : State :=
  if s.hol.started then s
  else
    let s1 := s.onHol (fun h => { h with started := true, awake := true, card := c })
    let s2 := (((s1.put SAL_CFG_NODE c.node.toNat).putB SAL_CFG_BEACON_EN c.beaconEn).putB SAL_CFG_WARDEN_EPOCH c.wardenEpoch).put SAL_CFG_MGMT_NODE c.mgmtNode.toNat
    let s3 := ((s2.put64 SAL_CMD_NODES_LO_NODES SAL_CMD_NODES_HI_NODES c.cmdNodes.toNat).putB SAL_CFG_EN c.salEn).putB PWR_CTRL_AUTO_ON c.autoOn
    if c.autoOn then s3.powerUp else s3

/-- PWR_REQ: the edge starts a main power-up (R529). -/
def State.pwrReq (s : State) : State :=
  let m := s.get PWR_STATE_MAIN
  if s.hol.started ∧ (m = mainOff ∨ m = mainFault) then s.powerUp else s

/-- POWER_GOOD: the next group is enabled; after group 5 `MAIN` is ON (R530). -/
def State.powerGood (s : State) : State :=
  if s.get PWR_STATE_MAIN ≠ mainRamp then s
  else if s.pwr.groups < 5 then
    State.emit { s with pwr := { s.pwr with groups := s.pwr.groups + 1 } } (.rail (s.pwr.groups + 1) true)
  else s.put PWR_STATE_MAIN mainOn

/-- POWER_GOOD_TIMEOUT. -/
def State.powerGoodTimeout (s : State) : State := if s.get PWR_STATE_MAIN = mainRamp then s.powerFail else s

/-- Whether the part waits in reset with its rails on. -/
def State.hubHeld (s : State) : Bool := decide (s.get PWR_STATE_MAIN = mainOn) && !s.flag PWR_STATE_HUB_RUN

/-- PLL_LOCK_TIMEOUT. -/
def State.pllLockTimeout (s : State) : State := if s.hubHeld then s.powerFail else s

/-- A tile repair written back: the first spare with no valid entry (R103). -/
def State.backTile (s : State) (t row : Nat) : State :=
  match (List.range 16).find? (fun i => !s.flag (TIL_REPAIR_MAP_VALID t i)) with
  | some i =>
    let s1 := (s.put (TIL_REPAIR_MAP_ROW t i) row).put (TIL_REPAIR_MAP_VALID t i) 1
    s1.put (TIL_BIST_STATUS_SPARES_FREE t) (s1.get (TIL_BIST_STATUS_SPARES_FREE t) - 1)
  | none => s

/-- A bank repair written back (R275). -/
def State.backBank (s : State) (c l row : Nat) : State :=
  match (List.range 8).find? (fun i => !s.flag (BBA_REPAIR_VALID c (8 * l + i))) with
  | some i => (s.put (BBA_REPAIR_ROW c (8 * l + i)) row).put (BBA_REPAIR_VALID c (8 * l + i)) 1
  | none => s

/-- The tier-A rows that retained records name at two different times (R207): 2^32 × stack + the address kept for the row. -/
def ueRows (kept : List LogRec) : List Nat :=
  let rows := kept.filter (fun l => decide (l.body.kind = 4))
  let twice := rows.filter (fun l => rows.any (fun m => decide (m.body.inst = l.body.inst ∧ m.body.w7 = l.body.w7 ∧ m.time ≠ l.time)))
  (twice.map (fun l => 2 ^ 32 * l.body.inst + l.body.w7)).eraseDups

/-- The retained repair records acted on (R475): rows of scratchpads and banks are backed again, and those that R207 names are
repaired by their stacks. -/
def State.writeRepairs (s : State) : State :=
  s.hol.kept.foldl (fun a l =>
    if l.body.kind = 2 then a.backTile (l.body.inst % 1024) (l.body.w7 % 4096)
    else if l.body.kind = 3 then a.backBank (l.body.inst / 64 % 128) (l.body.inst % 64) (l.body.w7 % 2048)
    else a) { s with mem := { s.mem with repaired := ueRows s.hol.kept } }

/-- A die's step in force; the cancelled deratings leave `DERATE` (R535). -/
def State.setStep (s : State) (d k : Nat) : State :=
  let n := s.get (PWR_TCLK_DERATE d) - mapGet (fun _ => 0) s.integ.derateOld d
  let s1 := ((s.put (PWR_TCLK_STEP d) k).put (PWR_TCLK_DERATE d) n).put (INT_DIE_STEPS d) n
  State.refreshTclk { s1 with integ := { s1.integ with derateOld := mapErase d s1.integ.derateOld } } d

/-- `VPD_d` in mV at a TCLK step (R534). -/
def vpdMV (k : Nat) : Nat := nth 560 [750, 720, 690, 670, 640, 620, 600] k

/-- CCLK in MHz at a step (R536). -/
def cclkMHz (k : Nat) : Nat := 3200 - 400 * k

/-- `VCPX` in mV at a step of CCLK, falling from 0.80 V to 0.65 V (R536). -/
def vcpxMV (k : Nat) : Nat := if k = 0 then 800 else if 5 ≤ k then 650 else Config.vcpxMid k

/-- A clock and its supply changed from one frequency to another: downwards the clock switches first, upwards the supply rises first (R535,
R536). -/
def State.clockTo (s : State) (die old new mv : Nat) : State :=
  if new = old then s
  else if new < old then (s.emit (.clock die new)).emit (.supply die mv)
  else (s.emit (.supply die mv)).emit (.clock die new)

/-- HUB_RESET_RELEASE: the plain dies start at their steps, the warden sets what it sets from the configuration, and repairs
are written back (R530, R103, R275). Tier zeroing ends with TIER_INIT_COMPLETE. -/
def State.hubRelease (s : State) : State :=
  if !s.hubHeld then s
  else
    let start (a : State) (d : Nat) : State := (a.setStep d (a.tclkTarget d)).clockTo d 0 (tclkMHz (a.tclkTarget d)) (vpdMV (a.tclkTarget d))
    let s1 := State.clockTo ((List.range 4).foldl start (s.put PWR_STATE_HUB_RUN 1)) 4 0 (cclkMHz 0) (vcpxMV 0)
    let s2 := ((s1.put TIM_PLL_REF_FREQ s1.hol.card.refFreq.toNat).putB PCI_CPX_BOOT_SRC s1.hol.card.bootHost).putB PWR_CTRL_AUTO_ON s1.hol.card.autoOn
    (s2.applyFuses.writeRepairs).refreshGuards

/-- A part reset (R538): 1 `RST_N`, 2 `PART_RESET`, 3 PLL. It has no effect while the main rails are not on. -/
def State.partReset (s : State) (cause : Nat) : State :=
  if s.get PWR_STATE_MAIN = mainOn then s.clearPart.put PWR_STATE_RESET_CAUSE cause else s

/-- SUPPLY_LOSS (R543). -/
def State.supplyLoss (s : State) : State :=
  let m := s.get PWR_STATE_MAIN
  if m = mainOn ∨ m = mainRamp then s.powerDown mainFault 4 else s

/-! ### Clock steps (R535 to R537) -/

/-- Whether a die holds a group named in the active cyclic bank. -/
def State.dieNamed (s : State) (d : Nat) : Bool :=
  s.cyc.valid && (List.range 16).any (fun i => s.bankNames (s.get DSP_CYC_CTRL_ACTIVE) (16 * d + i))

/-- The lowest step at or above `FLOOR_MHZ` that is not beyond `k`. -/
def State.floorStep (s : State) (k : Nat) : Nat :=
  (List.range (k + 1)).foldl (fun b i => if s.get DSP_CYC_GUARD_FLOOR_MHZ ≤ tclkMHz i then i else b) 0

/-- Whether a change waits: a group of the die is LENT or returning, or runs within 100 µs. -/
def State.stepWaits (s : State) (d : Nat) : Bool :=
  (List.range 16).any (fun i =>
    let g := 16 * d + i
    decide (s.get (DSP_GRP_STATE_STATE g) = grpLent) || (s.group g).retPend || !s.beforeRun g 100000)

/-- CAP_WRITE. -/
def State.capWrite (s : State) (d : Nat) (v : Word) : State := (s.writeCodes (PWR_TCLK_CAP d).key v false).refreshTclk d

/-- TCLK_STEP_CHANGE (R535). -/
def State.tclkChange (s : State) (d : Nat) : State :=
  let named := s.dieNamed d
  let k := if named then s.floorStep (s.tclkTarget d) else s.tclkTarget d
  if s.get (PWR_TCLK_STEP d) = k ∨ (named ∧ s.stepWaits d) then s
  else ((((s.clockTo d (tclkMHz (s.get (PWR_TCLK_STEP d))) (tclkMHz k) (vpdMV k)).setStep d k).refreshGuards).put PWR_EVENT_STEP_DONE 1)

/-- CCLK_STEP_WRITE (R536). -/
def State.cclkWrite (s : State) (v : Word) : State :=
  let s1 := s.writeCodes PWR_CPX_STEP.key v false
  let k := min 5 (s1.get PWR_CPX_STEP)
  let s2 := s1.clockTo 4 (cclkMHz (s1.get PWR_CPX_CUR)) (cclkMHz k) (vcpxMV k)
  (((s2.put PWR_CPX_STEP k).put PWR_CPX_CUR k).put PWR_CPX_PEND 0).put PWR_EVENT_STEP_DONE 1

/-- PLL_LOSS (R537). The instance number of a PLL is a free value. -/
def State.pllLoss (s : State) (p : Pll) : State :=
  if !s.flag PWR_STATE_HUB_RUN then s
  else
    let v := s.takeFree
    let die := match p with | .tclk d => d.val | _ => 4
    let s1 := (v.2.put PWR_EVENT_PLL_LOSS 1).fire 140 (v.1.toNat % 2 ^ 16) die 0 0
    match p with
    | .tclk d => (List.range 16).foldl (fun a i => a.suspect (16 * d.val + i)) s1
    | .hclk => s1.partReset 3
    | .bclk => s1.partReset 3
    | .cclk => s1.partReset 3
    | .quad q => (List.range 4).foldl (fun a i => a.linkDown (4 * q.val + i)) s1
    | .drv p => s1.leaveUp p.val 1 drpDown
    | .pcie => s1.pcieDown

/-! ### Gated domains (R525 to R528) -/

/-- The port registers of an Ethernet quad, which are lost with its domain (R525). -/
def State.quadLost (s : State) (k : Nat) : State :=
  let lost (key : Nat) : Bool :=
    decide ((0x801000 + 1024 * k ≤ key ∧ key < 0x801000 + 1024 * (k + 1)) ∨ (0x840000 + 32768 * k ≤ key ∧ key < 0x840000 + 32768 * (k + 1)))
  { s with
    regs := mapFilter (fun key => !lost key) s.regs
    ctrs := mapFilter (fun key => !lost key) s.ctrs
    eth := { s.eth with port := mapFilter (fun p => decide (p / 4 ≠ k)) s.eth.port } }

/-- DOM_SWITCH_WRITE: a write of `PWR_DOM_ETQ` or `PWR_DOM_DRP` (R528). -/
def State.domWrite (s : State) (drp : Bool) (v : Word) : State :=
  let f := if drp then PWR_DOM_DRP_ON else PWR_DOM_ETQ_ON
  let n := if drp then 12 else 8
  let old := s.get f
  let busy (i : Nat) : Bool :=
    if drp then s.flag (DRV_PORT_CTRL_EN i) else (List.range 4).any (fun j => s.flag (ETH_PORT_CTRL_EN (4 * i + j)))
  let stay := (List.range n).filter (fun i => decide (old / 2 ^ i % 2 = 1 ∧ v.toNat / 2 ^ i % 2 = 0) && busy i)
  let off := (List.range n).filter (fun i => decide (old / 2 ^ i % 2 = 1 ∧ v.toNat / 2 ^ i % 2 = 0) && !busy i)
  let new := stay.foldl (fun a i => bitPut a i 1 1) (v.toNat % 2 ^ n)
  let s1 := s.put f new
  let s2 := if stay = [] then s1 else s1.lockWr 0x11
  let s3 := if v.toNat / 2 ^ n ≠ 0 then s2.rsvdWr 0x11 else s2
  if drp then s3 else off.foldl (fun a k => a.quadLost k) s3

/-- Whether an ACTIVE image places a logical group on a group. -/
def State.placedOn (s : State) (g : Nat) : Bool :=
  (List.range 64).any (fun sl => decide (s.get (PLN_SLICE_IMG_STATE sl) = 2) && (s.slice sl).place.any (fun p => decide (p.2 = g + 1)))

/-- GROUP_POWER_OFF (R527). -/
def State.groupIdleOff (s : State) (g : Nat) : State :=
  let idle := decide (s.get (DSP_GRP_STATE_STATE g) = grpIdle ∧ (s.group g).idleAt + s.get PWR_TG_CFG_TG_OFF_US * 1000 * 2 ^ 32 ≤ s.raw)
  let rep := (mapGet (fun _ => none) s.integ.holds g).isSome || s.integ.replays.any (fun r => decide (r.target = g))
  if idle ∧ !s.placedOn g ∧ !rep ∧ s.beforeRun g 40000 then s.powerOffGroup g else s

/-! ### The commands -/

/-- AO_POWER_UP. -/
def execAoPowerUp (s : State) : Answer := .next s.aoReset
/-- ALWAYS_ON_POWER_LOSS. -/
def execAlwaysOnPowerLoss (s : State) : Answer := .next s.aoReset
/-- HOLLOW_RESET_RELEASE. -/
def execHollowResetRelease (c : CardConfig) (s : State) : Answer := .next (s.hollowRelease c)
/-- PWR_REQ. -/
def execPwrReq (s : State) : Answer := .next s.pwrReq
/-- POWER_GOOD. -/
def execPowerGood (s : State) : Answer := .next s.powerGood
/-- POWER_GOOD_TIMEOUT. -/
def execPowerGoodTimeout (s : State) : Answer := .next s.powerGoodTimeout
/-- HUB_RESET_RELEASE. -/
def execHubResetRelease (s : State) : Answer := .next s.hubRelease
/-- PLL_LOCK_TIMEOUT. -/
def execPllLockTimeout (s : State) : Answer := .next s.pllLockTimeout
/-- PLL_LOSS. -/
def execPllLoss (p : Pll) (s : State) : Answer := .next (s.pllLoss p)
/-- CAP_WRITE. -/
def execCapWrite (d : Fin 4) (v : Word) (s : State) : Answer := .next (s.capWrite d.val v)
/-- TCLK_STEP_CHANGE. -/
def execTclkStepChange (d : Fin 4) (s : State) : Answer := .next (s.tclkChange d.val)
/-- CCLK_STEP_WRITE. -/
def execCclkStepWrite (v : Word) (s : State) : Answer := .next (s.cclkWrite v)
/-- DOM_SWITCH_WRITE: `drp` names `PWR_DOM_DRP`. -/
def execDomSwitchWrite (drp : Bool) (v : Word) (s : State) : Answer := .next (s.domWrite drp v)
/-- GROUP_POWER_OFF. -/
def execGroupPowerOff (g : Fin 64) (s : State) : Answer := .next (s.groupIdleOff g.val)
/-- RST_N. -/
def execRstN (s : State) : Answer := .next (s.partReset 1)
/-- PART_RESET. -/
def execPartReset (s : State) : Answer := .next (s.partReset 2)
/-- OFF. -/
def execOff (s : State) : Answer := .next (s.mainDownFor 1)
/-- SUPPLY_LOSS. -/
def execSupplyLoss (s : State) : Answer := .next s.supplyLoss

end Sys2Proof.Machine
end

