-- ==== Sys2Proof/Machine/Hollow.lean ====
section
/-! DEFINITION. The hollow (R460 to R475): waking and the watchdog, the warden's commands, the life cycle and keys, tamper and
the wipe of sealed memory, sensors, regulators and optical modules, and the records it takes from the integrity block
(R509, R522). -/

namespace Sys2Proof.Machine

/-! ### Waking (R460) and the watchdog (R462) -/

/-- Whether the warden has an event to see to. -/
def State.wardenBusy (s : State) : Bool :=
  s.hol.wake || !s.hol.queue.isEmpty || !s.integ.queue.isEmpty || s.loader.waitSig || s.flag BBA_PROG_STATUS_BUSY || s.flag HOL_TAMPER_WIPING

/-- WARDEN_WAKE: WCLK starts and the warden wakes. -/
def State.wardenWake (s : State) : State :=
  if s.hol.started ∧ s.wardenBusy then s.onHol (fun h => { h with awake := true, wake := false }) else s

/-- WCLK_STOP: the warden sleeps and nothing is left for it. -/
def State.wclkStop (s : State) : State := if s.wardenBusy then s else s.onHol (fun h => { h with awake := false })

/-- The command in progress ends FAILED. -/
def State.failHead (s : State) : State :=
  match s.hol.queue with
  | [] => s
  | c :: t =>
    let s1 := (s.onHol (fun h => { h with queue := t })).holAnswer c 4 []
    State.holSkip s1.hol.queue.length s1

/-- A detector of the hollow fires (R507): the integrity block is in the hub, so nothing is counted while the hub does not run. -/
def State.hollowFires (s : State) (d inst : Nat) : State := if s.flag PWR_STATE_HUB_RUN then s.fire d inst 4 0 0 else s

/-- WATCHDOG_EXPIRY (R462, R541): a power-up or a reset in progress starts again. -/
def State.watchdog (s : State) : State :=
  if !s.hol.awake then s
  else
    let s0 := s.hollowFires 114 0
    let s1 := ((s0.tally HOL_WDOG).wardenLog 8 0 0 s0.holTemp 0).holEvent HOL_EVENT_WDOG
    let s2 := s1.failHead
    if s2.get PWR_STATE_MAIN = mainRamp ∨ s2.hubHeld then
      let s3 := (s2.clearPart.railsOff).put PWR_STATE_MAIN mainOff
      if s3.hol.card.autoOn then s3.powerUp else s3
    else s2

/-! ### The wipe of sealed memory (R467 to R469) -/

/-- Whether a bank is sealed. -/
def State.bankSealed (s : State) (c l : Nat) : Bool := s.flag (BBA_BANK_OWN_SEAL c l)

/-- The sealed banks. -/
def State.sealedBanks (s : State) : List (Nat × Nat) :=
  (List.range 128).flatMap (fun c => ((List.range 64).filter (fun l => s.bankSealed c l)).map (fun l => (c, l)))

/-- The sealed groups. -/
def State.sealedGroups (s : State) : List Nat :=
  (List.range 64).filter (fun g => s.pairBit HOL_SEAL_GROUPS_LO_SEAL HOL_SEAL_GROUPS_HI_SEAL g)

/-- Lane tasks on sealed banks end (R469, item 1). -/
def State.endSealedTasks (s : State) (bs : List (Nat × Nat)) : State :=
  (List.range 128).foldl (fun a c =>
    if a.clState c = clRun ∧ bs.any (fun b => decide (b.1 = c) && a.laneBusy c b.2) then a.sealEnd c else a) s

/-- A slice with sealed memory is torn down and STOPPED, its `CAUSE` unchanged and a save in progress ended (R469, item 2;
R344). -/
def State.wipeStop (s : State) (sl : Nat) : State :=
  let n := ((s.slice sl).steps.head?.map (fun (r : StepRt) => r.num)).getD (s.slice sl).nextRelease
  (((s.returnBorrowed sl).discardWith sl n true).endSave sl).put (DSP_SLC_STATE_STATE sl) dspStopped

/-- A sealed group's contents gone, its SEAL bit kept while the wipe runs. -/
def State.wipeKeep (s : State) (g : Nat) : State := (s.wipeGroup g).putPairBit HOL_SEAL_GROUPS_LO_SEAL HOL_SEAL_GROUPS_HI_SEAL g true

/-- A wipe starts (R469), the clusters of sealed banks powered on: merged into one that runs; nothing to do with the hub unpowered or in reset, whose contents are
gone. -/
def State.wipeStart (s : State) : State :=
  if s.flag HOL_TAMPER_WIPING ∨ !s.flag PWR_STATE_HUB_RUN then s
  else
    let s0 := s.put HOL_TAMPER_WIPING 1
    let bs := s0.sealedBanks
    let gs := s0.sealedGroups
    let owns (sl : Nat) : Bool := bs.any (fun b => s.ownsBank sl b.1 b.2) || gs.any (fun g => s.taken sl && s.granted sl g)
    let s1 := s0.endSealedTasks bs
    let s2 := ((List.range 64).filter owns).foldl (fun a sl => a.wipeStop sl) s1
    let s3 := bs.foldl (fun a b => (a.clusterPowerOn b.1).onCluster b.1 (fun x => x.setBank b.2 memEmpty)) s2
    gs.foldl (fun a g => a.wipeKeep g) s3

/-- WIPE_COMPLETE: every sealed content is zeros, SEAL bits are 0, and the records are logged (R469, R465). -/
def State.wipeDone (s : State) : State :=
  if !s.flag HOL_TAMPER_WIPING then s
  else
    let s1 := s.sealedBanks.foldl (fun a b =>
      ((a.onCluster b.1 (fun x => x.setBank b.2 memEmpty)).put (BBA_BANK_OWN_SEAL b.1 b.2) 0).put (BBA_BANK_OWN_WIPING b.1 b.2) 0) s
    let s2 := s1.sealedGroups.foldl (fun a g => a.wipeGroup g) s1
    let s3 := (((s2.put HOL_TAMPER_WIPING 0).holEvent HOL_EVENT_WIPED).wardenLog 7 0 0 s2.holTemp 0).sendNewest
    (s3.hol.lcLog.foldl (fun a r => a.logRec r) s3).onHol (fun h => { h with lcLog := [] })

/-- SEAL_GROUPS_WRITE: a bit is taken for a group granted to a LIVE tenant slice while no wipe runs (R467, R469). -/
def State.sealGroups (s : State) (hi : Bool) (v : Word) : State :=
  (List.range 32).foldl (fun a i =>
    if !v.getLsbD i then a
    else
      let g := i + if hi then 32 else 0
      let ok := !a.flag HOL_TAMPER_WIPING && (List.range 64).any (fun sl => decide (sl ≠ 0) && a.live sl && a.granted sl g)
      if ok then a.putPairBit HOL_SEAL_GROUPS_LO_SEAL HOL_SEAL_GROUPS_HI_SEAL g true else a.lockWr 0xe) s

/-- What every tamper event brings (R468, R469, R507): `DET_115`, a record and a wipe. -/
def State.tamper (s : State) (src : Nat) : State :=
  ((((s.hollowFires 115 src).holEvent HOL_EVENT_TAMPER).wardenLog 5 src 0 s.holTemp 0).wakeWarden).wipeStart

/-- TAMPER_EVENT: source 0 and 1 are the inputs, 2 the supply, 3 AOCLK, 4 the hollow's temperature (R468). -/
def State.tamperEvent (s : State) (src : Nat) : State :=
  if (src = 0 ∧ !s.flag HOL_TAMPER_EN_IN0) ∨ (src = 1 ∧ !s.flag HOL_TAMPER_EN_IN1) then s
  else (s.put ⟨HOL_TAMPER_SRC.key, 4 + src, 1⟩ 1).tamper src

/-- TAMPER_TEST (R468). -/
def State.tamperTest (s : State) : State :=
  let lc := s.get HOL_LC_STATE
  if lc = lcDeployed ∨ lc = lcScrapped then s.lockWr 0xe else s.tamper 5

/-! ### The warden's commands (R473) -/

/-- A word of a command. -/
def holArg (c : HolCmd) (i : Nat) : Nat := (nth (0 : Word) c.words i).toNat
/-- An address of two words. -/
def holAddr (c : HolCmd) (i : Nat) : Nat := holArg c i + 2 ^ 32 * holArg c (i + 1)
/-- Whether an address may be used for `n` bytes: aligned, within tier A, which is open. -/
def State.holAddrOk (s : State) (a n : Nat) : Bool := decide (a % 16 = 0) && s.flag MEM_INIT_A_DONE && inTier false (a + n - 1)

/-- The command at the front of the queue is run if it has code `opc`: it answers with a status and words. In SCRAPPED only
INFO, LOG_READ and LOG_EXPORT are answered (R463). -/
def State.holRun (s : State) (opc : Nat) (f : HolCmd → State → (Nat × List Word) × State) : State :=
  match s.hol.queue with
  | [] => s
  | c :: t =>
    if holOpc c ≠ opc then s
    else
      let s0 := s.onHol (fun h => { h with queue := t })
      let r := if s.get HOL_LC_STATE = lcScrapped ∧ 3 < opc then ((1, []), s0) else f c s0
      let s1 := r.2.holAnswer c r.1.1 r.1.2
      State.holSkip s1.hol.queue.length s1

/-- 32-bit words of a number, low word first. -/
def natWords (n v : Nat) : List Word := (List.range n).map (fun i => BitVec.ofNat 32 (v / 2 ^ (32 * i)))
/-- Bytes as words. -/
def bytesWords (n : Nat) (d : List Byte) : List Word := (List.range n).map (fun i => BitVec.ofNat 32 (bytesToNat ((d.drop (4 * i)).take 4)))

/-- INFO. -/
def State.cmdInfo (s : State) : State :=
  s.holRun 1 (fun _ a => ((0, [BitVec.ofNat 32 (a.get HOL_LC_STATE)] ++ natWords 2 Config.deviceId.toNat ++ [Config.romVersion,
    BitVec.ofNat 32 (a.hol.enrolled % 256 + 256 * (a.hol.revoked % 256))]), a))

/-- LOG_READ. -/
def State.cmdLogRead (s : State) : State :=
  s.holRun 2 (fun c a =>
    match a.hol.log.find? (fun l => decide (l.seq = holArg c 2)) with
    | some l => ((0, bytesWords 8 (logBytes l)), a)
    | none => ((2, []), a))

/-- LOG_EXPORT: those of the records asked for that are held are written in order. -/
def State.cmdLogExport (s : State) : State :=
  s.holRun 3 (fun c a =>
    let n := holArg c 5
    let first := holArg c 4
    let ls := a.hol.log.filter (fun l => decide ((l.seq + 2 ^ 32 - first) % 2 ^ 32 < n))
    if 2048 < n ∨ !a.holAddrOk (holAddr c 2) (max 1 (32 * ls.length)) then ((2, []), a)
    else
      let d := ls.flatMap logBytes
      let w := if d = [] then (false, a) else a.devWrite false (holAddr c 2) (cleanM d)
      if w.1 then ((4, []), w.2) else ((0, [BitVec.ofNat 32 ls.length]), w.2))

/-- `KEY_EN` follows the fuses (R466). -/
def State.refreshKeys (s : State) : State := s.put PLN_IMG_POLICY_KEY_EN s.usableKeys

/-- KEY_ENROLL (R466). A slot whose ENROLLED fuse is 1 cannot be enrolled again. -/
def State.cmdKeyEnroll (s : State) : State :=
  s.holRun 4 (fun c a =>
    let slot := holArg c 2
    let lc := a.get HOL_LC_STATE
    if 8 ≤ slot ∨ !a.holAddrOk (holAddr c 3) 96 then ((2, []), a)
    else if lcProvisioned < lc ∨ a.hol.enrolled / 2 ^ slot % 2 = 1 then ((1, []), a)
    else
      let r := a.devView false (holAddr c 3) 96
      match r.1 with
      | none => ((4, []), r.2)
      | some d =>
        if markedM d then ((4, []), r.2)
        else ((0, []), (r.2.onHol (fun h => { h with
          keys := mapSet (fun _ => []) h.keys slot (bytesM d), enrolled := Nat.lor h.enrolled (2 ^ slot) })).refreshKeys))

/-- KEY_REVOKE (R466). -/
def State.cmdKeyRevoke (s : State) : State :=
  s.holRun 5 (fun c a =>
    let slot := holArg c 2
    let after := Nat.land a.hol.enrolled (255 - Nat.lor a.hol.revoked (2 ^ slot))
    if 8 ≤ slot then ((2, []), a)
    else if a.hol.enrolled / 2 ^ slot % 2 = 0 ∨ (a.get HOL_LC_STATE = lcDeployed ∧ after = 0) then ((1, []), a)
    else ((0, []), (a.onHol (fun h => { h with revoked := Nat.lor h.revoked (2 ^ slot) })).refreshKeys))

/-- Whether a transition of the life cycle exists, and whether it needs an authorisation (R463). -/
def lcMove (old new : Nat) : Option Bool :=
  if (old = lcBlank ∧ new = lcProvisioned) ∨ (old = lcProvisioned ∧ new = lcDeployed)
      ∨ ((old = lcProvisioned ∨ old = lcReturned) ∧ new = lcScrapped) then some false
  else if old = lcDeployed ∧ (new = lcReturned ∨ new = lcScrapped) then some true
  else none

/-- A transition takes effect (R463, R465). -/
def State.lcEnter (s : State) (new : Nat) : State :=
  let s1 := s.put HOL_LC_STATE new
  let s2 :=
    if new = lcProvisioned then
      let v := s1.takeFree
      let w := v.2.takeFree
      let x := w.2.takeFree
      x.2.onHol (fun h => { h with devKey := some (BitVec.ofNat 384 (v.1.toNat + 2 ^ 128 * w.1.toNat + 2 ^ 256 * x.1.toNat)) })
    else if new = lcReturned then s1.onHol (fun h => { h with devKey := none })
    else if new = lcScrapped then
      s1.onHol (fun h => { h with devKey := none, keys := (List.range 8).map (fun i => (i, List.replicate 96 255)), enrolled := 255, revoked := 255 })
    else s1
  let rec0 : Rec := ⟨6, new, 0, s2.holTemp, 0, 0, new⟩
  let s3 := (if s2.flag PWR_STATE_HUB_RUN then s2.applyFuses else s2).wipeStart
  if s3.flag HOL_TAMPER_WIPING then s3.onHol (fun h => { h with lcLog := h.lcLog ++ [rec0] }) else s3.logRec rec0

/-- LC_ADVANCE (R463 to R465): `good` is whether the authorisation's signature verifies. -/
def State.cmdLcAdvance (s : State) (good : Bool) : State :=
  s.holRun 6 (fun c a =>
    let new := holArg c 2
    let slot := holArg c 3
    let old := a.get HOL_LC_STATE
    if 4 < new then ((2, []), a)
    else
      match lcMove old new with
      | none => ((1, []), a)
      | some false => if new ≠ lcScrapped ∧ a.usableKeys = 0 then ((1, []), a) else ((0, []), a.lcEnter new)
      | some true =>
        if !a.holAddrOk (holAddr c 4) 96 then ((2, []), a)
        else if 8 ≤ slot ∨ a.usableKeys / 2 ^ slot % 2 = 0 ∨ !good then ((3, []), a)
        else ((0, []), a.lcEnter new))

/-- The signature that the device key makes of a message (R466; DESIGN CHOICE, log entry 6). -/
def deviceSign (key : BitVec 384) (msg : List Byte) : List Byte :=
  (List.range 96).map (fun i => Config.digest (natToBytes 48 key.toNat ++ msg) i)

/-- ATTEST: refused without a device key. -/
def State.cmdAttest (s : State) : State :=
  s.holRun 7 (fun c a =>
    if !a.holAddrOk (holAddr c 2) 48 ∨ !a.holAddrOk (holAddr c 4) 112 then ((2, []), a)
    else
      match a.hol.devKey with
      | none => ((1, []), a)
      | some key =>
        let r := a.devView false (holAddr c 2) 48
        match r.1 with
        | none => ((4, []), r.2)
        | some n =>
          if markedM n then ((4, []), r.2)
          else
            let head := natToBytes 8 Config.deviceId.toNat ++ natToBytes 8 (a.get HOL_LC_STATE)
            let w := r.2.devWrite false (holAddr c 4) (cleanM (head ++ deviceSign key (head ++ bytesM n)))
            ((if w.1 then 4 else 0, []), w.2))

/-- SENSOR_READ: 25 readings, two to a word. -/
def State.cmdSensorRead (s : State) : State :=
  s.holRun 8 (fun _ a => ((0, (List.range 13).map (fun i =>
    BitVec.ofNat 32 (a.get (HOL_SENS_TEMP (2 * i)) + 2 ^ 16 * (if i < 12 then a.get (HOL_SENS_TEMP (2 * i + 1)) else 0)))), a))

/-- The PMBus commands reserved to the warden in DEPLOYED: OPERATION, ON_OFF_CONFIG and the VOUT_ commands. -/
def pmbusReserved (code : Nat) : Bool := decide (code = 1 ∨ code = 2 ∨ (0x20 ≤ code ∧ code ≤ 0x2B) ∨ (0x40 ≤ code ∧ code ≤ 0x45))

/-- Sixteen bytes of a command's data words. -/
def holData (c : HolCmd) (n : Nat) : List Byte := ((List.range 4).flatMap (fun i => natToBytes 4 (holArg c (4 + i)))).take n

/-- PMBUS_XFER (R471): `ans` is what the regulator answers, if a try succeeds. -/
def State.cmdPmbus (s : State) (ans : Option (List Byte)) : State :=
  s.holRun 9 (fun c a =>
    let code := holArg c 3 % 256
    let n := holArg c 3 / 256 % 256
    if a.hol.card.regs.val ≤ holArg c 2 ∨ 16 < n then ((2, []), a)
    else if a.get HOL_LC_STATE = lcDeployed ∧ pmbusReserved code then ((1, []), a)
    else
      let a1 := a.emit (.pmbus (holArg c 2) code (holData c n))
      match ans with
      | some d => ((0, bytesWords 4 d), a1)
      | none => ((4, []), a1.wardenLog 10 0 (holArg c 2) a1.holTemp code))

/-- The module of a site, if present. -/
def State.optModule (s : State) (site : Nat) : Option OptModule := mapGet (fun _ => none) s.hol.modules site
/-- A site's module replaced. -/
def State.setModule (s : State) (site : Nat) (m : Option OptModule) : State :=
  s.onHol (fun h => { h with modules := mapSet (fun _ => none) h.modules site m })

/-- CMIS_XFER (R472): `ans` is what the module answers. -/
def State.cmdCmis (s : State) (ans : Option (List Byte)) : State :=
  s.holRun 10 (fun c a =>
    let site := holArg c 2 % 256
    let n := holArg c 3
    if 44 ≤ site ∨ 16 < n then ((2, []), a)
    else if (a.optModule site).isNone then ((4, []), a)
    else
      let a1 := a.emit (.cmis site (holArg c 2 / 256 % 256) (holArg c 2 / 65536 % 256) n (holData c n))
      match ans with
      | some d => ((0, bytesWords 4 (d.take n)), a1)
      | none => ((4, []), a1))

/-! ### Sensors, regulators and modules (R470 to R472, R523) -/

/-- The die of a sensor: a plain die, the hub die (4) or the hollow (5) (R470). -/
def sensorDie (i : Nat) : Nat := if i < 16 then i / 4 else if i < 24 then 4 else 5

/-- A THERMAL record of a sensor or a stack on a die: the reading and the die's clock step (R474). -/
def State.thermalLog (s : State) (die inst temp : Nat) : State := s.logRec ⟨9, 0, inst, s.word4 die temp, s.dieStep die, 0, 0⟩

/-- A sensor's reading stored; one that reaches `WARN` from below wakes the warden and is logged (R460, R470). -/
def State.senseOne (s : State) (i temp : Nat) : State :=
  let warn := signed 12 (s.get (HOL_SENS_WARN i))
  let was := decide (warn ≤ signed 16 (s.get (HOL_SENS_TEMP i)))
  let s1 := s.put (HOL_SENS_TEMP i) temp
  if warn ≤ signed 16 temp then
    let s2 := (s1.put (HOL_SENS_OVER i) 1).holEvent HOL_EVENT_THERM_WARN
    if was then s2 else (s2.wakeWarden).thermalLog (sensorDie i) i temp
  else s1

/-- The thermal shutdown (R203, R470, R542). -/
def State.thermalShutdown (s : State) (die inst temp : Nat) : State :=
  ((s.mainDownFor 2).thermalLog die inst temp).sendNewest

/-- SENSOR_SCAN (R470). -/
def State.sensorScan (s : State) (ts : List (BitVec 16)) : State :=
  let t (i : Nat) : Nat := (nth (0 : BitVec 16) ts i).toNat
  let s1 := (List.range 25).foldl (fun a i => a.senseOne i (t i)) s
  match (List.range 24).find? (fun i => decide (440 ≤ signed 16 (t i))) with
  | some i => s1.thermalShutdown (sensorDie i) i (t i)
  | none => s1

/-- REGULATOR_POLL: what regulator `i` reports, or nothing after three tries (R471). -/
def State.regPoll (s : State) (i : Nat) (ans : Option (Nat × Nat)) : State :=
  if s.hol.card.regs.val ≤ i then s
  else
    match ans with
    | some (mv, iout) => ((s.put (PWR_RAIL_MV i) mv).put (PWR_RAIL_IOUT i) iout).put (PWR_RAIL_VALID i) 1
    | none => s.wardenLog 10 0 i s.holTemp 0

/-- SMBALERT: a regulator's STATUS_WORD; a fault that affects an output begins the main power-down (R471). -/
def State.smbAlert (s : State) (i status : Nat) (affects : Bool) : State :=
  let s1 := if affects then s.mainDownFor 3 else s
  ((s1.wakeWarden).wardenLog 10 0 i s.holTemp status).sendNewest

/-- Whether the optical-module manager serves a site: an Ethernet port in use, or a Dravsel port (R472). -/
def State.siteServed (s : State) (site : Nat) : Bool := decide (32 ≤ site) || s.ethInUse site

/-- A read of a module that has failed: after three in a row it is reported absent (R472). -/
def State.moduleFail (s : State) (site : Nat) (m : OptModule) : State :=
  if 3 ≤ m.fails + 1 then (s.setModule site none).wardenLog 11 0 site s.holTemp 0
  else s.setModule site (some { m with fails := m.fails + 1 })

/-- MODULE_INSERT: the CMIS lower memory and pages read at insertion (R472). -/
def State.moduleInsert (s : State) (site : Nat) (pages : Option (List Byte)) : State :=
  if !s.siteServed site then s
  else match pages with
  | some d => s.setModule site (some ⟨d, [], 0⟩)
  | none => s.moduleFail site ⟨[], [], 0⟩

/-- MODULE_MONITOR_READ: the monitors, with the lowest receive power in 0.1 dBm and its lane (R472, R523). -/
def State.moduleRead (s : State) (site : Nat) (ans : Option (List Byte × BitVec 16 × Fin 8)) : State :=
  match s.optModule site with
  | none => s
  | some m =>
    if !s.siteServed site then s
    else match ans with
    | none => s.moduleFail site m
    | some (d, rx, lane) =>
      let s1 := s.setModule site (some { m with mon := d, fails := 0 })
      let s2 := if 32 ≤ site then
          (((s1.put (DRV_PORT_OPT_RXPWR (site - 32)) rx.toNat).put (DRV_PORT_OPT_LANE (site - 32)) lane.val).put
            (DRV_PORT_OPT_OPTICAL (site - 32)) 1).put (DRV_PORT_OPT_VALID (site - 32)) 1
        else s1
      if signed 16 rx.toNat < signed 16 (s.get INT_LINK_CFG_OPT_MIN) then s2.fire 139 site 4 0 rx.toNat else s2

/-! ### Records from the integrity block (R509, R510, R522) -/

/-- The die of a corner detector's record (R507): its tile's, its group's or its own; other instances are on the hub die. -/
def recDie (r : Rec) : Nat := detDie r.det r.inst

/-- The band of 5 °C of a reading in 0.25 °C. -/
def tempBand (w4 : Nat) : Int := signed 16 (w4 % 2 ^ 16) / 20

/-- A derating of a die, or its refusal (R522). -/
def State.derate (s : State) (d : Nat) : State :=
  let next := s.tclkTarget d + 1
  let refuse := decide (4 ≤ d) || !s.flag INT_DERATE_CFG_EN || decide (7 < next) ||
    (s.dieNamed d && decide (tclkMHz next < s.get DSP_CYC_GUARD_FLOOR_MHZ))
  let s1 := s.event INT_EVENT_DERATE 8
  if refuse then s1.fire 151 d d 0 0
  else
    let n := min 7 (s1.get (PWR_TCLK_DERATE d) + 1)
    (((s1.put (PWR_TCLK_DERATE d) n).put (INT_DIE_STEPS d) n).refreshTclk d).fire 150 d d 0 0

/-- A firing counted for its corner; a corner that reaches `DERATE_N` within `WINDOW_H` hours derates its die and is
cleared (R522). -/
def State.corner (s : State) (r : Rec) : State :=
  if r.kind ≠ 1 ∨ !detCorner r.det then s
  else
    let d := recDie r
    let band := tempBand r.w4
    let step := r.w5 % 256
    let h := s.ms
    let same (c : Corner) : Bool := decide (c.die = d ∧ c.band = band ∧ c.step = step)
    let old := ((s.integ.corners.find? same).map (fun c => c.times)).getD []
    let times := old.filter (fun x => decide (h < x + 3600000 * s.get INT_DERATE_CFG_WINDOW_H)) ++ [h]
    let rest := s.integ.corners.filter (fun c => !same c)
    if s.get INT_DERATE_CFG_DERATE_N ≤ times.length then
      State.derate { s with integ := { s.integ with corners := rest } } d
    else { s with integ := { s.integ with corners := rest ++ [⟨d, band, step, times⟩] } }

/-- WARDEN_RECORD: the oldest record is logged and sent; when records were lost, one of `DET_152` reports it now that the
queue has room (R509, R510). An uncorrectable tier-A word's row is kept (R207). -/
def State.wardenRecord (s : State) : State :=
  match s.integ.queue with
  | [] => s
  | r :: t =>
    let s0 : State := { s with integ := { s.integ with queue := t } }
    let s1 := (s0.logRec r).sendNewest
    let s2 := if r.kind = 1 ∧ r.det = 41 then s1.logRec { r with kind := 4 } else s1
    let s3 := s2.corner r
    if s3.integ.lost then State.fire { s3 with integ := { s3.integ with lost := false } } 152 0 4 0 0 else s3

/-! ### The commands -/

/-- WARDEN_WAKE. -/
def execWardenWake (s : State) : Answer := .next s.wardenWake
/-- WCLK_STOP. -/
def execWclkStop (s : State) : Answer := .next s.wclkStop
/-- WATCHDOG_EXPIRY. -/
def execWatchdogExpiry (s : State) : Answer := .next s.watchdog
/-- INFO. -/
def execInfo (s : State) : Answer := .next s.cmdInfo
/-- LOG_READ. -/
def execLogRead (s : State) : Answer := .next s.cmdLogRead
/-- LOG_EXPORT. -/
def execLogExport (s : State) : Answer := .next s.cmdLogExport
/-- KEY_ENROLL. -/
def execKeyEnroll (s : State) : Answer := .next s.cmdKeyEnroll
/-- KEY_REVOKE. -/
def execKeyRevoke (s : State) : Answer := .next s.cmdKeyRevoke
/-- LC_ADVANCE. -/
def execLcAdvance (good : Bool) (s : State) : Answer := .next (s.cmdLcAdvance good)
/-- ATTEST. -/
def execAttest (s : State) : Answer := .next s.cmdAttest
/-- SENSOR_READ. -/
def execSensorRead (s : State) : Answer := .next s.cmdSensorRead
/-- PMBUS_XFER. -/
def execPmbusXfer (ans : Option (List Byte)) (s : State) : Answer := .next (s.cmdPmbus ans)
/-- CMIS_XFER. -/
def execCmisXfer (ans : Option (List Byte)) (s : State) : Answer := .next (s.cmdCmis ans)
/-- SEAL_GROUPS_WRITE: `hi` names the high word. -/
def execSealGroupsWrite (hi : Bool) (v : Word) (s : State) : Answer := .next (s.sealGroups hi v)
/-- TAMPER_EVENT. -/
def execTamperEvent (src : Fin 5) (s : State) : Answer := .next (s.tamperEvent src.val)
/-- TAMPER_TEST. -/
def execTamperTest (s : State) : Answer := .next s.tamperTest
/-- WIPE_COMPLETE. -/
def execWipeComplete (s : State) : Answer := .next s.wipeDone
/-- SENSOR_SCAN. -/
def execSensorScan (ts : List (BitVec 16)) (s : State) : Answer := .next (s.sensorScan ts)
/-- REGULATOR_POLL: READ_VOUT in mV and READ_IOUT in 0.1 A. -/
def execRegulatorPoll (i : Fin 16) (ans : Option (BitVec 16 × BitVec 15)) (s : State) : Answer :=
  .next (s.regPoll i.val (ans.map (fun (a : BitVec 16 × BitVec 15) => (a.1.toNat, a.2.toNat))))
/-- SMBALERT. -/
def execSmbalert (i : Fin 16) (status : BitVec 16) (affects : Bool) (s : State) : Answer := .next (s.smbAlert i.val status.toNat affects)
/-- MODULE_INSERT. -/
def execModuleInsert (site : Fin 44) (pages : Option (List Byte)) (s : State) : Answer := .next (s.moduleInsert site.val pages)
/-- MODULE_MONITOR_READ. -/
def execModuleMonitorRead (site : Fin 44) (ans : Option (List Byte × BitVec 16 × Fin 8)) (s : State) : Answer := .next (s.moduleRead site.val ans)
/-- WARDEN_RECORD. -/
def execWardenRecord (s : State) : Answer := .next s.wardenRecord

end Sys2Proof.Machine
end

