-- ==== Sys2Proof/Machine/Monitors.lean ====
section
/-! DEFINITION. Measurements taken in service: stack and device temperatures (R203) and SerDes eyes (R523); the
boundary-scan port (R6); and logical injection (R508). -/

namespace Sys2Proof.Machine

/-- Where a thermal step is entered, in °C (R203). -/
def stepEntry (k : Nat) : Int := nth 105 [-1000, 85, 95] k

/-- The step after a reading of `t` °C at step `old`: the highest that `t` enters, or one kept until the temperature has
fallen 3 °C below its entry (R203). -/
def thermStep (old : Nat) (t : Int) : Nat :=
  (List.range 4).foldl (fun b k => if stepEntry k ≤ t ∨ (k ≤ old ∧ stepEntry k - 3 < t) then k else b) 0

/-- What a controller's change of step brings: an event for each step entered, a record at 95 °C, and the shutdown at
105 °C (R203). -/
def State.stepEntered (s : State) (inst die old new : Nat) (t : Int) : State :=
  let s1 := if old < 1 ∧ 1 ≤ new then s.event MEM_EVENT_THERM_WARN 1 else s
  let s2 := if old < 2 ∧ 2 ≤ new then (s1.event MEM_EVENT_THERM_THROTTLE 1).openRec inst die 0 (t.toNat) else s1
  if old < 3 ∧ 3 ≤ new then (s2.event MEM_EVENT_THERM_CRIT 1).thermalShutdown die inst (4 * t).toNat else s2

/-- HBM_TEMP_READ: a stack's temperature in °C. -/
def State.hbmTemp (s : State) (k : Nat) (v : BitVec 8) : State :=
  let old := s.get (MEM_HBM_STATUS_STEP k)
  let new := thermStep old v.toInt
  ((s.put (MEM_HBM_STATUS_TEMP k) v.toNat).put (MEM_HBM_STATUS_STEP k) new).stepEntered k (k / 2) old new v.toInt

/-- LP5X_RATE_READ: a device's refresh-rate report; the temperature it stands for is not in the manual (DESIGN CHOICE, log entry 19). -/
def State.lpRate (s : State) (k : Nat) (v : BitVec 3) : State :=
  let old := s.get (MEM_MCB_STATUS_STEP k)
  let new := thermStep old (Config.rateTemp v.toNat)
  ((s.put (MEM_MCB_STATUS_RATE k) v.toNat).put (MEM_MCB_STATUS_STEP k) new).stepEntered (8 + k) 4 old new (Config.rateTemp v.toNat)

/-- EYE_MEASUREMENT: the smallest eye of a port's lanes (R358, R523). -/
def State.eye (s : State) (site : EyeSite) (height width lane : Nat) : State :=
  let port := match site with | .drv p => p.val | .eth p => p.val | .pcie => 0
  let s1 := match site with
    | .drv p => (((s.put (DRV_PORT_EYE_HEIGHT_MV p) height).put (DRV_PORT_EYE_WIDTH p) width).put (DRV_PORT_EYE_LANE p) lane).put (DRV_PORT_EYE_VALID p) 1
    | .eth _ => s
    | .pcie => s
  if height < s1.get INT_LINK_CFG_EYE_MV then s1.fire 138 port 4 0 height else s1

/-- The IDCODE (R5, R559): version 1, part number 0x8840, manufacturer code 0x4A7, and bit 0 set. -/
def idcode : Word := 0x1884094F

/-- The data register that an instruction selects, as it is captured, and the state after it. CLAMP and HIGHZ select the bypass bit,
which captures 0 (PRESUMED, IEEE 1149.1; log entry 96); the levels at the lands are a free value. -/
def State.tapData (s : State) (i : TapInstr) : TapData × State :=
  match i with
  | .idcode => (.idcode idcode, s)
  | .sample => (.boundary s.takeFree.1, s.takeFree.2)
  | .extest => (.boundary s.takeFree.1, s.takeFree.2)
  | .bypass => (.bypass false, s)
  | .clamp => (.bypass false, s)
  | .highz => (.bypass false, s)

/-- IEEE_1149_1_INSTRUCTION: the instruction takes effect on the low-speed lands while `VIO` is in range, whatever the hub's
reset, and its data register is captured (R6, R524, R544). -/
def State.tapShift (s : State) (i : TapInstr) : State :=
  if s.pwr.groups = 0 then s
  else
    let d := s.tapData i
    State.emit { d.2 with pwr := { d.2.pwr with tap := i } } (.scan i d.1)

/-! ### Logical injection (R508) -/

/-- A class-U detector fired on an instance, with the outcome that its unit's chapter gives (R506, R508), where the instance names the unit and
what its outcome acts on is there; otherwise the firing only records and counts (log entry 129). -/
def State.fireUnit (s : State) (d inst : Nat) : State :=
  if d = 44 ∧ inst < 8 then
    let v := s.takeFree
    let n := 32 * inst + v.1.toNat % 32
    if v.2.mem.failA.contains n then v.2.fire d inst (inst / 2) 0 0 else v.2.channelFail false n
  else if d = 52 ∧ inst < 16 then
    let v := s.takeFree
    let n := 4 * inst + v.1.toNat % 4
    if v.2.mem.failB.contains n then v.2.fire d inst 4 0 0 else v.2.channelFail true n
  else if d = 68 ∧ inst < 128 ∧ s.taskRuns inst then s.imemFail inst
  else if d = 72 ∧ inst < 64 then
    (s.fire d inst 4 (s.hqSlice inst) 0).onHelper inst (fun h => { h with jobs := match h.jobs with
      | [] => []
      | j :: t => { j with status := if j.status = 0 then 2 else j.status } :: t })
  else if d = 73 ∧ inst < 64 then s.hqStop inst
  else if d = 81 ∧ inst < 1024 ∧ s.flag (TSH_TXQ_CFG_EN inst) then s.txStop inst
  else if d = 89 ∧ inst < 12 ∧ s.portUp inst then s.retryExhausted inst
  else if d = 113 then (s.fire d inst 4 0 0).watchdog
  else if d = 114 ∧ s.hol.awake then s.watchdog
  else s.fire d inst 4 0 0

/-- A detector fired on an instance as a real event would (R508): one of a tile or group strikes the step on it by its class, one of a link
every step that has data in flight on it (R22). -/
def State.fireLogical (s : State) (d inst : Nat) : State :=
  match instGroup d inst with
  | none =>
    if detClass d = some .u then s.fireUnit d inst
    else ((List.range 64).filter (fun g => s.onLink d inst g)).foldl (fun a g => a.suspect g) (s.fire d inst (detDie d inst) 0 0)
  | some g =>
    let s1 := s.fire d inst (g / 16) (s.tileSlice (tileAt g 0)) 0
    if detClass d = some .s then s1.suspect g
    else if detClass d = some .q then s1.groupFaulty g
    else s1

/-- INT_INJECT_ARM (R508): `DET_020` waits for the next original run on the group that is replayed; a reserved identifier does
not inject. -/
def State.injectArm (s : State) (v : Word) : State :=
  let s1 := s.writeCodes INT_INJECT_ARM.key v false
  let d := s1.get INT_INJECT_DET
  let i := s1.get INT_INJECT_INST
  if !v.getLsbD 31 ∨ (detClass d).isNone then s1
  else if d = 20 then
    let f := s1.integ.flipDigest ||| BitVec.ofNat 64 (2 ^ (i % 64))
    State.put { s1 with integ := { s1.integ with flipDigest := f } } INT_INJECT_ARM 1
  else s1.fireLogical d i

/-! ### The commands -/

/-- INT_INJECT_ARM. -/
def execIntInjectArm (v : Word) (s : State) : Answer := .next (s.injectArm v)
/-- HBM_TEMP_READ. -/
def execHbmTempRead (k : Fin 8) (v : BitVec 8) (s : State) : Answer := .next (s.hbmTemp k.val v)
/-- LP5X_RATE_READ. -/
def execLp5xRateRead (k : Fin 16) (v : BitVec 3) (s : State) : Answer := .next (s.lpRate k.val v)
/-- EYE_MEASUREMENT. -/
def execEyeMeasurement (site : EyeSite) (height width : BitVec 8) (lane : Fin 8) (s : State) : Answer :=
  .next (s.eye site height.toNat width.toNat lane.val)
/-- IEEE_1149_1_INSTRUCTION. -/
def execIeee11491Instruction (i : TapInstr) (s : State) : Answer := .next (s.tapShift i)

end Sys2Proof.Machine
end

