-- ==== Sys2Proof/Machine/Time.lean ====
section
/-! DEFINITION. The commands of the timing block (R424 to R441). -/

namespace Sys2Proof.Machine

/-- RATE_WRITE (R426): the offset takes what the old rate has given since the anchor, the anchor moves to this tick, and
the new rate applies. -/
def State.rateWrite (s : State) (v : Word) : State :=
  let tm := s.time
  let d : Int := ((tm.raw + 2 ^ 96 - tm.anchor) % 2 ^ 96 : Nat)
  let o : Nat := (((tm.off : Int) + (signed 32 (s.get TIM_RATE_RATE) * d) / 2 ^ 40) % 2 ^ 96).toNat
  State.put { s with time := { tm with off := o, anchor := tm.raw } } TIM_RATE_RATE v.toNat

/-- The step value S of `TIM_STEP_` (R428). -/
def State.stepValue (s : State) : Int :=
  signed 96 (s.get (TIM_STEP_VALUE 0) + 2 ^ 32 * s.get (TIM_STEP_VALUE 1) + 2 ^ 64 * s.get (TIM_STEP_VALUE 2))

/-- STEP_GO (R428): the step is decided now and moves T at the end of this tick. -/
def State.stepGo (s : State) : State :=
  let v := s.stepValue
  if v.natAbs ≤ s.get TIM_STEP_LIMIT_LIMIT_NS * 2 ^ 32 ∨ !s.flag TIM_CTRL_LOCKED ∨ s.flag TIM_CTRL_OVR_NEXT then
    let tm := s.time
    let s1 : State := { s with time := { tm with due := tm.due + v } }
    let s2 := (s1.put TIM_CTRL_LOCKED 1).put TIM_CTRL_OVR_NEXT 0
    (s2.put TIM_STEP_CNT_COUNT ((s2.get TIM_STEP_CNT_COUNT + 1) % 2 ^ 16)).timEvent TIM_EVENT_STEP_DONE
  else s.timEvent TIM_EVENT_STEP_REF

/-- TIME_READ (R427): T, or C, of the tick of the read; before the time PLL locks T reads 0 (R441). -/
def State.timeRead (s : State) (who : Requester) (raw : Bool) : State :=
  if raw then s.readWide who (TIM_RAW_VALUE 0).key s.time.raw
  else s.readWide who (TIM_TIME_VALUE 0).key s.now

/-- `REFx_OK` of a reference input. -/
def refInOk (i : Nat) : Fld := if i = 0 then TIM_PLL_REF0_OK else TIM_PLL_REF1_OK

/-- TIME_PLL_LOCK (R424): the counter starts. The input that the PLL has locked to is present. -/
def State.timeLock (s : State) : State :=
  let tm := s.time
  let s1 : State := { s with time := { tm with counts := true } }
  ((s1.put TIM_PLL_PLL_LOCK 1).put TIM_PLL_HOLDOVER 0).put (refInOk (s.get TIM_PLL_REF_SEL)) 1

/-- REF_LOST (R433): only the loss of the selected input makes the PLL switch or hold. -/
def State.refLost (s : State) (i : Nat) : State :=
  if s.flag (refInOk i) then
    let s1 := (s.put (refInOk i) 0).timEvent TIM_EVENT_REF_LOST
    if s1.get TIM_PLL_REF_SEL = i then
      if s1.flag TIM_PLL_AUTO_SW ∧ s1.flag (refInOk (1 - i)) then (s1.put TIM_PLL_REF_SEL (1 - i)).timEvent TIM_EVENT_REF_SWITCH
      else (s1.put TIM_PLL_HOLDOVER 1).timEvent TIM_EVENT_HOLDOVER
    else s1
  else s

/-- REF_RETURN (R433). -/
def State.refReturn (s : State) (i : Nat) : State :=
  let s1 := s.put (refInOk i) 1
  s1.putIf (decide (s1.get TIM_PLL_REF_SEL = i)) TIM_PLL_HOLDOVER 0

/-- SYNCE_ENABLE (R434): `PORT` is held while `EN` is 1, and an `EN` of 1 for a port not in use is ignored. -/
def State.synceEnable (s : State) (i : Nat) (v : Word) : State :=
  let was := s.flag (TIM_SYNCE_EN i)
  let old := s.get (TIM_SYNCE_PORT i)
  let new := bitField v.toNat 1 5
  let port := if was then old else new
  if v.getLsbD 0 ∧ !s.ethInUse port then (s.lockWr 0xa).noteRsvd (TIM_SYNCE_EN i).key v
  else
    let s1 := (s.writeCodes (TIM_SYNCE_EN i).key v false).put (TIM_SYNCE_PORT i) port
    let s2 := if was ∧ old ≠ new then s1.lockWr 0xa else s1
    if !v.getLsbD 0 then s2.put (TIM_SYNCE_SQ i) 0
    else if s2.ethUp port then s2 else s2.squelch i

/-- SYNCE_RESUME (R434): 10 ms after the port's return. -/
def State.synceResume (s : State) (i : Nat) : State :=
  if s.flag (TIM_SYNCE_EN i) ∧ s.ethUp (s.get (TIM_SYNCE_PORT i)) then s.put (TIM_SYNCE_SQ i) 0 else s

/-- PULSE_ENABLE (R435, R436). -/
def State.pulseEnable (s : State) (i : Nat) (v : Word) : State :=
  let was := s.flag (TIM_PULSE_CTRL_EN i)
  let mode := s.get (TIM_PULSE_CTRL_MODE i)
  let pol := s.get (TIM_PULSE_CTRL_POL i)
  let s1 := s.writeCodes (TIM_PULSE_CTRL_EN i).key v false
  if was then
    let s2 := (s1.put (TIM_PULSE_CTRL_MODE i) mode).put (TIM_PULSE_CTRL_POL i) pol
    let s3 := if bitField v.toNat 1 1 ≠ mode ∨ bitField v.toNat 2 1 ≠ pol then s2.lockWr 0xa else s2
    if v.getLsbD 0 then s3 else (s3.put (TIM_PULSE_CTRL_ACTIVE i) 0).setPulse i Pulse.idle
  else if v.getLsbD 0 then
    let per := s1.flag (TIM_PULSE_CTRL_MODE i)
    let w := s1.get (TIM_PULSE_WIDTH_WIDTH i)
    let p := s1.get (TIM_PULSE_PERIOD_PERIOD i)
    if w < 2 ∨ (per ∧ (p < 10 ∨ p ≤ w)) then (s1.put (TIM_PULSE_CTRL_EN i) 0).put (TIM_PULSE_CTRL_CFG_ERR i) 1
    else if per then s1.setPulse i { s1.pulse i with next := some (s1.pulseGrid i s1.now), late := false }
    else if s1.time.counts ∧ s1.pulseStart i * 2 ^ 32 < s1.now then s1.oneShot i true
    else s1.setPulse i { s1.pulse i with next := some (s1.pulseStart i), late := false }
  else (s1.put (TIM_PULSE_CTRL_ACTIVE i) 0).setPulse i Pulse.idle

/-- PULSE_FIRE (R435): a scheduled time has come. -/
def State.pulseFire (s : State) (i : Nat) : State :=
  match (s.pulse i).next with
  | some t =>
    if s.time.counts ∧ s.flag (TIM_PULSE_CTRL_EN i) ∧ t * 2 ^ 32 ≤ s.now then
      if s.flag (TIM_PULSE_CTRL_MODE i) then
        let s1 := s.pulseGo i
        s1.setPulse i { s1.pulse i with next := some (t + s.get (TIM_PULSE_PERIOD_PERIOD i)) }
      else s.oneShot i (s.pulse i).late
    else s
  | none => s

/-- PULSE_END (R435). -/
def State.pulseEnd (s : State) (i : Nat) : State :=
  if (s.pulse i).endAt ≤ s.raw then s.put (TIM_PULSE_CTRL_ACTIVE i) 0 else s

/-- PULSE_DRIVER_FAULT (R438). -/
def State.pulseFault (s : State) (i : Nat) : State :=
  let s1 := ((s.put (TIM_PULSE_CTRL_ACTIVE i) 0).put (TIM_PULSE_CTRL_DRV_OFF i) 1).put (TIM_PULSE_CTRL_FAULT i) 1
  s1.timEvent TIM_EVENT_PULSE_FAULT

/-- CAPTURE_EDGE (R439, R440): an edge that has passed the filter, `sub` eighths of a tick after the tick's T (R430). An edge closer than
a tick to the last one recorded makes no entry. -/
def State.captureEdge (s : State) (j : Nat) (rise : Bool) (sub : Nat) : State :=
  let e := s.get (TIM_CAP_CFG_EDGE j)
  let at_ := s.raw + sub * (tickUnits / 8)
  if s.time.counts ∧ s.flag (TIM_CAP_CFG_EN j) ∧ (e = 3 ∨ e = (if rise then 1 else 2)) ∧ !s.edgeClose j at_ then
    let stamp := (s.now + sub * (tickUnits / 8)) % 2 ^ 96
    if (s.capture j).length < 16 then
      (s.setCapture j (s.capture j ++ [⟨rise, s.get TIM_STEP_CNT_COUNT % 256, stamp⟩])).noteEdge j at_
    else (s.put (TIM_CAP_CFG_OVF j) 1).timEvent TIM_EVENT_CAP_OVF
  else s

/-- CAPTURE_POP (R440). -/
def State.capturePop (s : State) (j : Nat) (who : Requester) : State :=
  let k := (TIM_CAP_0_VALID j).key
  match s.capture j with
  | [] => s.readWide who k 0
  | x :: t => (s.setCapture j t).readWide who k (1 + (if x.rise then 2 else 0) + 256 * x.step + 2 ^ 32 * x.stamp)

/-! ### The commands -/

/-- RATE_WRITE. -/
def execRateWrite (v : Word) (s : State) : Answer := .next (s.rateWrite v)
/-- STEP_GO. -/
def execStepGo (s : State) : Answer := .next s.stepGo
/-- OVR_NEXT (R428). -/
def execOvrNext (s : State) : Answer := .next (s.put TIM_CTRL_OVR_NEXT 1)
/-- TIME_READ. -/
def execTimeRead (who : Requester) (raw : Bool) (s : State) : Answer := .next (s.timeRead who raw)
/-- TIME_PLL_LOCK. -/
def execTimePllLock (s : State) : Answer := .next s.timeLock
/-- REF_LOST. -/
def execRefLost (i : Fin 2) (s : State) : Answer := .next (s.refLost i.val)
/-- REF_RETURN. -/
def execRefReturn (i : Fin 2) (s : State) : Answer := .next (s.refReturn i.val)
/-- SYNCE_ENABLE. -/
def execSynceEnable (i : Fin 2) (v : Word) (s : State) : Answer := .next (s.synceEnable i.val v)
/-- SYNCE_RESUME. -/
def execSynceResume (i : Fin 2) (s : State) : Answer := .next (s.synceResume i.val)
/-- PULSE_ENABLE. -/
def execPulseEnable (i : Fin 8) (v : Word) (s : State) : Answer := .next (s.pulseEnable i.val v)
/-- PULSE_FIRE. -/
def execPulseFire (i : Fin 8) (s : State) : Answer := .next (s.pulseFire i.val)
/-- PULSE_END. -/
def execPulseEnd (i : Fin 8) (s : State) : Answer := .next (s.pulseEnd i.val)
/-- PULSE_DRIVER_FAULT. -/
def execPulseDriverFault (i : Fin 8) (s : State) : Answer := .next (s.pulseFault i.val)
/-- PULSE_DRIVER_RETRY (R438): whether the retry finds the land at the driven level is the land's. -/
def execPulseDriverRetry (i : Fin 8) (ok : Bool) (s : State) : Answer := .next (s.putIf ok (TIM_PULSE_CTRL_DRV_OFF i.val) 0)
/-- CAPTURE_EDGE. -/
def execCaptureEdge (j : Fin 8) (rise : Bool) (sub : Fin 8) (s : State) : Answer := .next (s.captureEdge j.val rise sub.val)
/-- CAPTURE_POP. -/
def execCapturePop (j : Fin 8) (who : Requester) (s : State) : Answer := .next (s.capturePop j.val who)

end Sys2Proof.Machine
end

