-- ==== Sys2Proof/Machine/RegAccess.lean ====
section
/-! DEFINITION. The register window (R8 to R15, R36 to R40): who reaches which register, how a write is applied and what a
read returns. A write to a register that a command of its own writes acts as that command. -/

namespace Sys2Proof.Machine

/-! ### Where an offset leads (R36, R104) -/

/-- The key of the register that an offset of the window shows: the tile and cluster windows show one instance. -/
def State.keyOf (s : State) (off : Nat) : Nat :=
  let sub := off % 0x100000
  if off / 0x100000 = 1 then (if sub < 0x1000 then 0x10000000 + 4096 * s.winTile + sub else 2 ^ 32)
  else if off / 0x100000 = 6 ∧ 0x1000 ≤ sub ∧ sub < 0x4000 then 0x20000000 + 16384 * s.winCluster + sub
  else off

/-- The status register that notes an access to an offset: the aperture's, or the selected tile's own (R37, R104). -/
def State.statusOf (s : State) (off : Nat) : Nat :=
  if off / 0x100000 = 1 then tileStatus s.winTile else blkStatus (off / 0x100000)

/-- The port that an offset of the Ethernet aperture belongs to. -/
def ethPortOf (sub : Nat) : Option Nat :=
  if 0x1000 ≤ sub ∧ sub < 0x3000 then some ((sub - 0x1000) / 256)
  else if 0x40000 ≤ sub ∧ sub < 0x80000 then some ((sub - 0x40000) / 8192)
  else none

/-- Whether the instance that an offset belongs to is off or absent (R38, R104, R273). -/
def State.offAt (s : State) (off : Nat) : Bool :=
  let ap := off / 0x100000
  let sub := off % 0x100000
  if ap = 1 then
    if sub < 8 then false
    else if 0x60 ≤ sub ∧ sub < 0xA0 then !s.present (groupOf s.winTile)
    else !s.tileReach s.winTile
  else if ap = 6 then
    decide (0x1000 ≤ sub ∧ sub < 0x4000 ∧ ¬ (0x1100 ≤ sub ∧ sub < 0x1300) ∧ ¬ (0x2000 ≤ sub ∧ sub < 0x2800)) && !s.clusterOn s.winCluster
  else if ap = 8 then
    if 0x100 ≤ sub ∧ sub < 0x120 then !s.quadOn ((sub - 0x100) / 4)
    else match ethPortOf sub with | some p => !s.quadOn (p / 4) | none => false
  else if ap = 0xB then decide (0x1000 ≤ sub ∧ sub < 0x1300) && !s.drpOn ((sub - 0x1000) / 64)
  else false

/-- Whether an offset belongs to an Ethernet port that its quad's mode does not use (R407). -/
def State.unusedAt (s : State) (off : Nat) : Bool :=
  decide (off / 0x100000 = 8) && (match ethPortOf (off % 0x100000) with | some p => !s.ethInUse p | none => false)

/-- `INSTANCES` of an aperture (R37). -/
def blockInstances : List Nat := [1, 1024, 64, 24, 64, 4, 128, 64, 32, 2048, 8, 12, 64, 256, 1, 2, 1, 1]
/-- `xxx_BLOCK_ID` (R37). -/
def blockId (ap : Nat) : Nat := ap + 256 * 0xB1 + 65536 * nth 0 blockInstances ap

/-! ### Writes (R10 to R13, R38) -/

/-- The source that a register's W1C bits feed (R457). -/
def srcOfKey (k : Nat) : Option Nat :=
  if k = 0x218 then some 0
  else if k = 0x300014 then some 1
  else if k = 0x600214 ∨ (0x20000000 ≤ k ∧ (k % 16384 = 0x1004 ∨ k % 16384 = 0x1060)) then some 2
  else if k = 0x700010 then some 3
  else if k = 0x800010 then some 4
  else if k = 0xB00014 ∨ k = 0xB00214 then some 5
  else if k = 0xA00014 then some 6
  else if 0xC01044 ≤ k ∧ k < 0xC03044 ∧ (k - 0xC01044) % 128 = 0 then some 7
  else if k = 0xD00014 ∨ k = 0xE00014 ∨ k = 0xF00014 then some 8
  else if k = 0x1000014 then some 9
  else if 0x40100C ≤ k ∧ k < 0x40200C ∧ (k - 0x40100C) % 64 = 0 then some (66 + 16 * ((k - 0x40100C) / 64))
  else if 0x20100C ≤ k ∧ k < 0x20200C ∧ (k - 0x20100C) % 64 = 0 then some (67 + 16 * ((k - 0x20100C) / 64))
  else if k = 0x20002C then some 67
  else none

/-- Whether a value has a 1 in a W1C field of a register. -/
def clearsBits (key v : Nat) : Bool :=
  match regFind key regTable with
  | none => false
  | some d => d.rows.any (fun r => decide (r.acc = .w1c ∧ bitField v r.lo r.wd ≠ 0))

/-- A write by access codes, after which a source that a W1C write leaves active raises again (R458). -/
def State.plainWrite (s : State) (key : Nat) (v : Word) : State :=
  let s1 := s.writeCodes key v false
  match srcOfKey key with
  | none => s1
  | some src => if clearsBits key v.toNat ∧ s1.srcActive src then s1.raise src else s1

/-- A write by access codes whose RWL fields belong to a slice (R13). -/
def State.ownedWrite (s : State) (key : Nat) (v : Word) (sl : Nat) : State := s.writeCodes key v (s.taken sl)

/-- A write to a register that a condition holds: a change is ignored and sets `LOCK_WR`. -/
def State.heldWrite (s : State) (key : Nat) (v : Word) (held : Bool) : State :=
  let s1 := s.writeCodes key v false
  if held ∧ s1.reg key ≠ s.reg key then (s1.setReg key (s.reg key)).put (fLockWr (statusOfKey key)) 1 else s1

/-- A field that a condition holds given back its old value, with `LOCK_WR`. -/
def State.keepOld (s old : State) (f : Fld) (held : Bool) : State :=
  if held ∧ s.get f ≠ old.get f then (s.put f (old.get f)).put (fLockWr (statusOfKey f.key)) 1 else s

/-- A field stored within limits. -/
def State.clampField (s : State) (f : Fld) (lo hi : Nat) : State := s.put f (max lo (min hi (s.get f)))

/-- A register's low bits that are always zero. -/
def State.zeroLow (s : State) (key n : Nat) : State := s.setReg key (s.reg key >>> n <<< n)

/-- A state changed where a condition holds. -/
def State.when (s : State) (b : Bool) (f : State → State) : State := if b then f s else s

/-- A bit of a register's stored value put into a value to be written, so that the write leaves it alone. -/
def State.withOldBit (s : State) (key : Nat) (v : Word) (i : Nat) : Word :=
  BitVec.ofNat 32 (bitPut v.toNat i 1 (bitField (s.reg key).toNat i 1))

/-- The plain's registers. -/
def State.writePln (s : State) (k : Nat) (v : Word) : State :=
  if k = 0x118 then s.radioGroups false v
  else if k = 0x11C then s.radioGroups true v
  else if k = 0x200 then (s.plainWrite k v).zeroLow k 8
  else if k = 0x214 then
    (((((s.plainWrite k v).when (v.getLsbD 0) State.loadStart).when (v.getLsbD 1) State.loadAbort).when (v.getLsbD 3) (fun a =>
      a.loadAct (a.get PLN_LOAD_SRC_SLICE))).when (v.getLsbD 4) (fun a => a.unload (a.get PLN_LOAD_SRC_SLICE)))
  else if k = 0x220 ∧ s.get HOL_LC_STATE = lcDeployed then
    (s.plainWrite k v).put PLN_IMG_POLICY_ALLOW_UNSIGNED (s.get PLN_IMG_POLICY_ALLOW_UNSIGNED)
  else s.plainWrite k v

/-- The selected tile's registers. -/
def State.writeTil (s : State) (k : Nat) (v : Word) : State :=
  let sub := k % 4096
  if sub = 0x18 then (s.plainWrite k v).when (v.getLsbD 15) State.hwClr
  else if sub = 0x50 then (s.plainWrite k v).when (v.getLsbD 1) State.tilRestart
  else if 0x60 ≤ sub ∧ sub < 0xA0 then s.repairWrite ((sub - 0x60) / 4) v
  else if sub = 0xA0 then s.tileArm v
  else s.plainWrite k v

/-- The dispatcher's registers. -/
def State.writeDsp (s : State) (k : Nat) (v : Word) : State :=
  if k = 0x200010 then (s.plainWrite k v).clampField DSP_STEP_TIMEOUT_TIMEOUT_US 5000 1000000
  else if k = 0x200020 then
    ((s.plainWrite k (s.withOldBit k v 0)).cycEn (v.getLsbD 0)).when (v.getLsbD 1) State.cycSwitch
  else if k = 0x200024 then
    let s1 := s.ownedWrite k v 0
    (if s.taken 0 then s1 else s1.clampField DSP_CYC_GUARD_FLOOR_MHZ 200 1950).refreshGuards
  else if 0x201000 ≤ k ∧ k < 0x202000 ∧ k % 64 = 0 then
    let sl := (k - 0x201000) / 64
    ((s.ownedWrite k (s.withOldBit k v 0) sl).runWrite sl (v.getLsbD 0)).when (v.getLsbD 3) (fun a => a.retryWrite sl)
  else if 0x201000 ≤ k ∧ k < 0x202000 ∧ k % 64 = 4 then s.creditWrite ((k - 0x201000) / 64) v
  else if 0x201000 ≤ k ∧ k < 0x202000 ∧ k % 64 = 0x30 then
    let sl := (k - 0x201000) / 64
    ((s.plainWrite k v).when (v.getLsbD 0) (fun a => a.saveWrite sl)).when (v.getLsbD 1) (fun a => a.restoreWrite sl)
  else if 0x280000 ≤ k ∧ k < 0x2A0000 then
    (if k % 65536 / 32 < 1280 then s.cycWinWrite ((k - 0x280000) / 65536) (k % 65536 / 32) (k % 32 / 4) v
     else s.put (fRsvdWr (blkStatus 2)) 1)
  else s.plainWrite k v

/-- The tiers' registers. -/
def State.writeMem (s : State) (k : Nat) (v : Word) : State :=
  if k = 0x300010 then (s.plainWrite k v).clampField MEM_SCRUB_CFG_PERIOD_H 1 168
  else if k = 0x300820 then (s.plainWrite k v).when (v.getLsbD 0) State.pmSubmit
  else if k = 0x300C20 then (s.plainWrite k v).putIf (v.getLsbD 31) MEM_INJECT_ARM 1
  else if 0x300C40 ≤ k ∧ k < 0x300C50 then
    (s.plainWrite k v).putIf (v.getLsbD 31) (MEM_TC0_PEAK_PEAK ((k - 0x300C40) / 4)) 0
  else if 0x301000 ≤ k ∧ k < 0x301800 then s.ownedWrite k v ((k - 0x301000) / 32)
  else if 0x310000 ≤ k ∧ k < 0x310000 + 4 * 4224 then s.xtWrite ((k - 0x310000) / 4) v
  else s.plainWrite k v

/-- The stream engine's registers. -/
def State.writeStm (s : State) (k : Nat) (v : Word) : State :=
  if 0x401000 ≤ k ∧ k < 0x402000 then
    let sl := (k - 0x401000) / 64
    if k % 64 = 0 then (s.heldWrite k v (s.flag (STM_SLC_CTRL_ENABLE sl))).zeroLow k 12
    else if k % 64 = 4 then s.heldWrite k v (s.flag (STM_SLC_CTRL_ENABLE sl))
    else if k % 64 = 8 then (s.plainWrite k (s.withOldBit k v 0)).streamEnable sl (v.getLsbD 0)
    else s.plainWrite k v
  else s.plainWrite k v

/-- The radio array's registers. -/
def State.writeBba (s : State) (k : Nat) (v : Word) : State :=
  if k = 0x600110 then s.ownedWrite k v 0
  else if k = 0x600114 then
    ((s.plainWrite k v).clampField BBA_WAKE_CFG_LEAD_US 15 60).clampField BBA_WAKE_CFG_OFF_MIN_US 10 127
  else if k = 0x600118 then (s.plainWrite k v).zeroLow k 4
  else if k = 0x600120 then s.taskStartWrite v
  else if k = 0x600200 then (s.plainWrite k v).zeroLow k 8
  else if k = 0x600210 then (s.plainWrite k v).when (v.getLsbD 0) (fun a => a.progStart false [] false)
  else s.plainWrite k v

/-- The selected cluster's registers. -/
def State.writeCl (s : State) (k : Nat) (v : Word) : State :=
  let sub := k % 16384
  if sub = 0x1000 then (s.plainWrite k v).when (v.getLsbD 20) State.faultClr
  else if sub = 0x1030 then (s.plainWrite k v).when (v.getLsbD 1) State.bbaRestart
  else if sub = 0x1040 then s.laneArm v
  else if sub = 0x1058 then s.evSetWrite v
  else if 0x1100 ≤ sub ∧ sub < 0x1200 then
    let s1 := s.plainWrite k v
    if v.getLsbD 5 then s1.setReg k (BitVec.ofNat 32 (bitPut (bitPut (s1.reg k).toNat 6 2 0) 16 16 0)) else s1
  else if 0x1200 ≤ sub ∧ sub < 0x1300 then s.bankOwnWrite ((sub - 0x1200) / 4) v
  else if 0x2000 ≤ sub ∧ sub < 0x2800 then s.bankRepairWrite ((sub - 0x2000) / 4) v
  else s.plainWrite k v

/-- The bits set in a value. -/
def bitsSet (n v : Nat) : Nat := ((List.range n).filter (fun i => v.testBit i)).length

/-- The helpers' registers. -/
def State.writeBbh (s : State) (k : Nat) (v : Word) : State :=
  if k = 0x700020 then (if 12 < bitsSet 16 v.toNat then (s.when (s.taken 0) (fun a => a.ownedWrite k v 0)).rsvdWr 7 else s.ownedWrite k v 0)
  else if 0x701000 ≤ k ∧ k < 0x701800 then
    if k % 32 = 0 then s.hqWrite ((k - 0x701000) / 32) v
    else if k % 32 = 4 ∨ k % 32 = 12 then (s.plainWrite k v).zeroLow k 4
    else s.plainWrite k v
  else if 0x704000 ≤ k ∧ k < 0x704400 then
    let c := (k - 0x704000) / 4
    let s1 := s.plainWrite k v
    s1.put (BBH_CAR_CFG_T_MAX c) (max (s1.get (BBH_CAR_CFG_T_MIN c)) (s1.get (BBH_CAR_CFG_T_MAX c)))
  else if 0x710000 ≤ k ∧ k < 0x720000 ∧ k % 16 = 12 then
    (s.plainWrite k v).clampField (BBH_FH_MAP_STR_RLOG2 ((k - 0x710000) / 16)) 0 4
  else s.plainWrite k v

/-- The Ethernet registers. -/
def State.writeEth (s : State) (k : Nat) (v : Word) : State :=
  if 0x800100 ≤ k ∧ k < 0x800120 then s.quadWrite ((k - 0x800100) / 4) v
  else if 0x801000 ≤ k ∧ k < 0x803000 ∧ k % 256 = 0 then s.portWrite ((k - 0x801000) / 256) v
  else s.plainWrite k v

/-- The traffic scheduling registers (R412, R420, R421, R423). -/
def State.writeTsh (s : State) (k : Nat) (v : Word) : State :=
  if 0x910000 ≤ k ∧ k < 0x920000 then
    let q := (k - 0x910000) / 64
    if k % 64 = 0 then s.txqWrite q v
    else if k % 64 = 4 then (s.heldWrite k v (s.flag (TSH_TXQ_CFG_EN q))).zeroLow k 12
    else if k % 64 = 8 then s.heldWrite k v (s.flag (TSH_TXQ_CFG_EN q))
    else if k % 64 = 0xC then (s.plainWrite k v).clampField (TSH_TXQ_DRR_QUANTUM q) 64 1048575
    else if k % 64 = 0x10 then (s.plainWrite k v).clampField (TSH_TXQ_SHAPE_RATE q) 0 40000
    else if k % 64 = 0x14 then ((s.plainWrite k v).clampField (TSH_TXQ_BURST_BURST q) 1024 16777215).limitTokens true q
    else s.plainWrite k v
  else if 0x920000 ≤ k ∧ k < 0x930000 then
    let q := (k - 0x920000) / 64
    if k % 64 = 0 then s.rxqWrite q v
    else if k % 64 = 4 then (s.heldWrite k v (s.flag (TSH_RXQ_CFG_EN q))).zeroLow k 12
    else if k % 64 = 8 then s.heldWrite k v (s.flag (TSH_RXQ_CFG_EN q))
    else if k % 64 = 0xC then (s.plainWrite k v).clampField (TSH_RXQ_POLICE_RATE q) 0 40000
    else if k % 64 = 0x10 then ((s.plainWrite k v).clampField (TSH_RXQ_PBURST_BURST q) 1024 16777215).limitTokens false q
    else s.plainWrite k v
  else if 0x930000 ≤ k ∧ k < 0x930800 then s.heldWrite k v (s.flag (TSH_TXQ_CFG_EN ((k - 0x930000) / 16)))
  else s.plainWrite k v

/-- `TIM_PLL` (R433). -/
def State.pllWrite (s : State) (v : Word) : State :=
  let k := TIM_PLL_REF_SEL.key
  let s1 := s.writeCodes k v false
  let s2 := if bitField v.toNat 1 2 = 3 then (s1.put TIM_PLL_REF_FREQ (s.get TIM_PLL_REF_FREQ)).rsvdWr 0xA
    else s1.keepOld s TIM_PLL_REF_FREQ (s.flag TIM_PLL_PLL_LOCK)
  if s2.get TIM_PLL_REF_SEL = s.get TIM_PLL_REF_SEL ∨ !s2.time.counts then s2
  else if s2.flag (refInOk (s2.get TIM_PLL_REF_SEL)) then s2.put TIM_PLL_HOLDOVER 0
  else if s2.flag TIM_PLL_HOLDOVER then s2
  else (s2.put TIM_PLL_HOLDOVER 1).timEvent TIM_EVENT_HOLDOVER

/-- The timing registers. -/
def State.writeTim (s : State) (k : Nat) (v : Word) : State :=
  if k = 0xA00010 then
    ((s.plainWrite k v).putIf (v.getLsbD 1) TIM_CTRL_OVR_NEXT 1).when (v.getLsbD 0) State.stepGo
  else if k = 0xA00040 then s.rateWrite v
  else if k = 0xA00060 then s.pllWrite v
  else if k = 0xA000A0 ∨ k = 0xA000A4 then s.synceEnable ((k - 0xA000A0) / 4) v
  else if 0xA01000 ≤ k ∧ k < 0xA01200 then
    let i := (k - 0xA01000) / 64
    if k % 64 = 0 then s.pulseEnable i v else s.heldWrite k v (s.flag (TIM_PULSE_CTRL_EN i))
  else if 0xA02000 ≤ k ∧ k < 0xA02200 ∧ k % 64 = 0 then
    let j := (k - 0xA02000) / 64
    let s1 := s.plainWrite k v
    if v.getLsbD 0 then s1 else s1.setCapture j []
  else s.plainWrite k v

/-- Whether a multicast group's registers are held (R383). -/
def State.groupLocked (s : State) (g : Nat) : Bool :=
  (List.range 64).any (fun sl => s.live sl && !s.dspStoppedNow sl
    && decide (s.get (SLC_MCAST_BASE sl) ≤ g ∧ g < s.get (SLC_MCAST_BASE sl) + s.get (SLC_MCAST_COUNT sl)))

/-- The Dravsel registers. -/
def State.writeDrv (s : State) (k : Nat) (v : Word) : State :=
  if k = 0xB00010 then s.selfWrite v
  else if k = 0xB00040 then (s.plainWrite k v).putIf (v.getLsbD 31) DRV_INJECT_ARM 1
  else if k = 0xB00204 then s.applyWrite v
  else if k = 0xB00210 then (s.plainWrite k v).clampField DRV_XPORT_CFG_RTO_US 32 312
  else if k = 0xB00218 then s.xportProbe v
  else if 0xB01000 ≤ k ∧ k < 0xB01300 ∧ k % 64 = 0 then
    (s.portEnable ((k - 0xB01000) / 64) v).when (v.getLsbD 2) (fun a => a.retrain ((k - 0xB01000) / 64))
  else if 0xB10000 ≤ k ∧ k < 0xB14000 then (s.plainWrite k v).portsChanged s
  else if 0xB40000 ≤ k ∧ k < 0xB60000 then
    let g := (k - 0xB40000) / 512
    if (regFind k regTable).isNone then s.plainWrite k v
    else if g = 0 then s.noteRsvd k v
    else if s.groupLocked g then (s.lockWr 0xB).noteRsvd k v
    else if k % 512 = 0 then (s.plainWrite k v).clampField (DRV_MCAST_CFG_COUNT g) 0 64
    else s.plainWrite k v
  else if 0xB60000 ≤ k ∧ k < 0xB60800 ∧ (k - 0xB60000) / 1024 = s.get DRV_EPOCH_BANK then (s.lockWr 0xB).noteRsvd k v
  else s.plainWrite k v

/-- The slices' registers. -/
def State.writeSlc (s : State) (k : Nat) (v : Word) : State :=
  if 0xC00100 ≤ k ∧ k < 0xC00140 ∧ k % 16 = 0 then s.logWrite ((k - 0xC00100) / 16) v
  else if 0xC00100 ≤ k ∧ k < 0xC00140 ∧ k % 16 = 4 then s.heldWrite k v (s.flag (SLC_LOG_CTRL_EN ((k - 0xC00100) / 16)))
  else if 0xC01000 ≤ k ∧ k < 0xC03000 then
    let sl := (k - 0xC01000) / 128
    if k % 128 = 0 then
      ((((s.plainWrite k v).when (v.getLsbD 0) (fun a => a.create sl)).when (v.getLsbD 1) (fun a => a.destroy sl)).when
        (v.getLsbD 2) (fun a => a.exportSlice sl)).when (v.getLsbD 3) (fun a => a.importSlice sl)
    else if 8 ≤ k % 128 ∧ k % 128 ≤ 0x30 then s.ownedWrite k v sl
    else if k % 128 = 0x3C then s.mbxRspProd sl v.toNat
    else if k % 128 = 0x50 then (s.plainWrite k v).zeroLow k 8
    else s.plainWrite k v
  else s.plainWrite k v

/-- The integrity block's registers. -/
def State.writeInt (s : State) (k : Nat) (v : Word) : State :=
  if k = 0xD00010 then (s.plainWrite k v).clampField INT_CFG_CE_GAP_MS 1 65535
  else if k = 0xD00018 then s.injectArm v
  else if k = 0xD00028 then s.quarClear false v
  else if k = 0xD0002C then s.quarClear true v
  else if k = 0xD00030 then
    ((s.plainWrite k v).clampField INT_DERATE_CFG_DERATE_N 1 255).clampField INT_DERATE_CFG_WINDOW_H 1 255
  else if 0xD00040 ≤ k ∧ k < 0xD00054 then
    (s.plainWrite k v).when (v.getLsbD 31) (fun a => a.derateClr ((k - 0xD00040) / 4))
  else s.plainWrite k v

/-- `HOL_TAMPER` (R468). -/
def State.tamperWrite (s : State) (v : Word) : State :=
  let s1 := s.writeCodes HOL_TAMPER_TEST.key v false
  let s2 := if s.get HOL_LC_STATE = lcDeployed then
      ((s1.putIf (s.flag HOL_TAMPER_EN_IN0) HOL_TAMPER_EN_IN0 1).putIf (s.flag HOL_TAMPER_EN_IN1) HOL_TAMPER_EN_IN1 1).put
        HOL_TAMPER_IDLE_HI (s.get HOL_TAMPER_IDLE_HI)
    else s1
  s2.when (v.getLsbD 3) State.tamperTest

/-- `HOL_CMD_CTRL` (R473): the command in `HOL_CMD_` joins the warden's queue. -/
def State.holGo (s : State) (v : Word) : State :=
  let s1 := s.writeCodes HOL_CMD_CTRL_GO.key v false
  if !v.getLsbD 0 then s1
  else if s1.flag HOL_CMD_CTRL_BUSY then s1.lockWr 0xE
  else (s1.put HOL_CMD_CTRL_BUSY 1).holEnqueue ⟨none, (List.range 16).map (fun i => s1.reg (HOL_CMD_WORD i).key)⟩

/-- The hollow's registers. -/
def State.writeHol (s : State) (k : Nat) (v : Word) : State :=
  if 0xE00100 ≤ k ∧ k < 0xE00140 then s.heldWrite k v (s.flag HOL_CMD_CTRL_BUSY)
  else if k = 0xE00140 then s.holGo v
  else if k = 0xE00200 then s.sealGroups false v
  else if k = 0xE00204 then s.sealGroups true v
  else if k = 0xE00210 then s.tamperWrite v
  else if k = 0xE00300 then (s.plainWrite k v).clampField HOL_SENS_CFG_PERIOD 8 1023
  else s.plainWrite k v

/-- The Salet block's registers. -/
def State.writeSal (s : State) (k : Nat) (v : Word) : State :=
  if k = 0xF00010 then (s.plainWrite k v).keepOld s SAL_CFG_NODE (s.flag SAL_CFG_EN)
  else if k = 0xF00018 then ((s.plainWrite k v).clampField SAL_TIMING_RETRY 10 255).clampField SAL_TIMING_RETRIES 1 7
  else if k = 0xF0001C then ((s.plainWrite k v).clampField SAL_LOADING_MAXB 1 8).clampField SAL_LOADING_PROBE_S 1 255
  else if k = 0xF00020 ∨ k = 0xF00024 then s.heldWrite k v (decide (s.get HOL_LC_STATE = lcDeployed))
  else if k = 0xF00030 then (s.plainWrite k v).putIf (v.getLsbD 31) SAL_INJECT_ARM 1
  else if k = 0xF00800 then s.salTxGo v
  else if k = 0xF00808 then (s.plainWrite k v).when (v.getLsbD 27) State.rxPop
  else if 0xF01000 ≤ k ∧ k < 0xF01000 + 4 * 382 then s.heldWrite k v (s.flag SAL_TX_CTRL_BUSY)
  else s.plainWrite k v

/-- The PCIe block's registers. -/
def State.writePci (s : State) (k : Nat) (v : Word) : State :=
  if k = 0x1000100 then (s.plainWrite k v).when (v.getLsbD 1) State.bootGo
  else if k = 0x1000104 then (s.plainWrite k v).zeroLow k 8
  else if 0x1000200 ≤ k ∧ k < 0x1000280 then s.coreCfg ((k - 0x1000200) / 4) v
  else s.plainWrite k v

/-- The power registers. -/
def State.writePwr (s : State) (k : Nat) (v : Word) : State :=
  if k = 0x1100014 then
    ((s.plainWrite k v).when (v.getLsbD 0) (fun a => a.partReset 2)).when (v.getLsbD 1) (fun a => a.mainDownFor 1)
  else if k = 0x1100020 then s.cclkWrite v
  else if 0x1100030 ≤ k ∧ k < 0x1100040 then s.capWrite ((k - 0x1100030) / 4) v
  else if k = 0x1100040 then s.domWrite false v
  else if k = 0x1100044 then s.domWrite true v
  else if k = 0x1100070 then (s.plainWrite k v).clampField PWR_TG_CFG_TG_OFF_US 10 65535
  else s.plainWrite k v

/-- The write of `xxx_BLOCK_STATUS` (R37): W1C flags, and `RSVD_WR` for a 1 in a reserved bit. -/
def State.writeStatus (s : State) (key : Nat) (v : Word) : State :=
  let s1 := s.setReg key (s.reg key &&& ~~~v)
  if 16 ≤ v.toNat then s1.put (fRsvdWr key) 1 else s1

/-- A write to a counter's word (R12, R15): software clears it by reading alone; bits above the 48 are reserved. -/
def State.writeCounter (s : State) (status : Nat) (hi : Bool) (v : Word) : State :=
  if hi ∧ 65536 ≤ v.toNat then s.put (fRsvdWr status) 1 else s

/-- A write to an aligned offset of an aperture (R10 to R13, R38). -/
def State.writeAt (s : State) (off : Nat) (v : Word) : State :=
  let ap := off / 0x100000
  let k := s.keyOf off
  let st := s.statusOf off
  if off % 0x100000 = 0 then (if 2 ^ 28 ≤ v.toNat then s.put (fRsvdWr st) 1 else s)
  else if off % 0x100000 = 4 then s.writeStatus st v
  else if isCounter k ∨ isCounter (k - 4) then
    if s.offAt off then s.put (fPwrOff st) 1 else s.writeCounter st (isCounter (k - 4)) v
  else if (regFind k regTable).isNone then s.put (fRsvdWr st) 1
  else if s.offAt off then s.put (fPwrOff st) 1
  else if s.unusedAt off then s.put (fRsvdWr st) 1
  else if ap = 0 then s.writePln k v
  else if ap = 1 then s.writeTil k v
  else if ap = 2 then s.writeDsp k v
  else if ap = 3 then s.writeMem k v
  else if ap = 4 then s.writeStm k v
  else if ap = 6 then (if 0x20000000 ≤ k then s.writeCl k v else s.writeBba k v)
  else if ap = 7 then s.writeBbh k v
  else if ap = 8 then s.writeEth k v
  else if ap = 9 then s.writeTsh k v
  else if ap = 0xA then s.writeTim k v
  else if ap = 0xB then s.writeDrv k v
  else if ap = 0xC then s.writeSlc k v
  else if ap = 0xD then s.writeInt k v
  else if ap = 0xE then s.writeHol k v
  else if ap = 0xF then s.writeSal k v
  else if ap = 0x10 then s.writePci k v
  else if ap = 0x11 then s.writePwr k v
  else s.plainWrite k v

/-! ### Reads (R9, R12, R38) -/

/-- The slice of a dispatcher register that reads its reset value while the slice is FREE (R178). -/
def freeReads (k : Nat) : Option Nat :=
  if 0x201000 ≤ k ∧ k < 0x202000 ∧ (8 ≤ k % 64 ∧ k % 64 < 0x30 ∨ 0x34 ≤ k % 64) then some ((k - 0x201000) / 64) else none

/-- The group of a group register (R178). -/
def groupReg (k : Nat) : Option Nat := if 0x202000 ≤ k ∧ k < 0x202200 then some (k % 256 / 4) else none

/-- What a register holds at a read. -/
def State.regNow (s : State) (k : Nat) : Nat :=
  if k = 0x100 then
    s.winTile + (if s.present (groupOf s.winTile) then 65536 else 0) + (if s.groupOn (groupOf s.winTile) then 131072 else 0)
  else if k = 0x220 ∧ s.get HOL_LC_STATE = lcDeployed then (s.reg k).toNat / 2 * 2
  else if k = 0x200028 then (if s.time.counts then s.windowNow + 65536 * s.sfnNow else 0)
  else if k = 0x600100 then s.winCluster + (if s.clusterOn s.winCluster then 65536 else 0)
  else if (match freeReads k with | some sl => !s.taken sl | none => false) then 0
  else if (match groupReg k with | some g => !s.present g | none => false) then 0
  else (s.reg k).toNat

/-- A value of more than 32 bits as it stands: its words from the low one up. -/
def State.wideNow (s : State) (k n : Nat) : Nat :=
  if isCounter k then (match freeReads k with | some sl => (if s.taken sl then (s.ctr k).toNat else 0) | none => (s.ctr k).toNat)
  else if k = 0xA00020 then s.now
  else if k = 0xA00030 then s.time.raw
  else if 0xA02000 ≤ k ∧ k < 0xA02200 then
    match s.capture ((k - 0xA02000) / 64) with
    | [] => 0
    | x :: _ => 1 + (if x.rise then 2 else 0) + 256 * x.step + 2 ^ 32 * x.stamp
  else ((List.range n).map (fun i => s.regNow (k + 4 * i) * 2 ^ (32 * i))).foldl (· + ·) 0

/-- A requester's shadow of a value. -/
def State.shadowOf (s : State) (who : Requester) (k : Nat) : Option Nat :=
  (s.shadows.find? (fun x => decide (x.who = who ∧ x.key = k))).map (fun x => x.upper)

/-- A read of a low word: the upper words are latched, a counter is cleared, an entry is removed (R9, R15, R440). -/
def State.readLow (s : State) (who : Requester) (k n : Nat) : State :=
  if isCounter k then (s.setCtr k 0).readWide who k (s.wideNow k n)
  else if 0xA02000 ≤ k ∧ k < 0xA02200 then s.capturePop ((k - 0xA02000) / 64) who
  else s.readWide who k (s.wideNow k n)

/-- A read of an upper word: the requester's shadow, or the current bits where it holds none (R9). -/
def State.readUpper (s : State) (who : Requester) (k i : Nat) : State :=
  let up := match s.shadowOf who k with
    | some x => x
    | none => s.wideNow k ((wideAt k).getD 2) / 2 ^ 32
  s.complete who .ok (natToBytes 4 (up / 2 ^ (32 * (i - 1))))

/-- A read of any other register. `INT_DIE_` restarts its extremes. -/
def State.readOne (s : State) (who : Requester) (k : Nat) : State :=
  let s1 := s.complete who .ok (natToBytes 4 (s.regNow k))
  if 0xD00040 ≤ k ∧ k < 0xD00054 then
    (s1.put (INT_DIE_MARGIN ((k - 0xD00040) / 4)) 1023).put (INT_DIE_DROOP ((k - 0xD00040) / 4)) 0
  else s1

/-- A read of an aligned offset of an aperture. -/
def State.readAt (s : State) (who : Requester) (off : Nat) : State :=
  let k := s.keyOf off
  let st := s.statusOf off
  let zero := natToBytes 4 0
  if off % 0x100000 = 0 then s.complete who .ok (natToBytes 4 (blockId (off / 0x100000)))
  else if off % 0x100000 = 4 then s.complete who .ok (natToBytes 4 (s.reg st).toNat)
  else if !isCounter k ∧ !isCounter (k - 4) ∧ (regFind k regTable).isNone then s.complete who .ok zero
  else if s.offAt off then (s.put (fPwrOff st) 1).complete who .ok zero
  else if s.unusedAt off then s.complete who .ok zero
  else
    match wideAt k with
    | some n => s.readLow who k n
    | none =>
      match upperAt k with
      | some u => s.readUpper who u.1 u.2
      | none => s.readOne who k

/-! ### Who reaches what (R8, R14, R40, R443, R540) -/

/-- A manager's access: `none` is a read. The doorbell pages act as their slices' own (R317). -/
def State.managerAccess (s : State) (who : Requester) (off size : Nat) (v : Option Word) : State :=
  if 0x1200000 ≤ off then s.complete who .ur []
  else if size ≠ 4 ∨ off % 4 ≠ 0 then (s.put (fRsvdWr (s.statusOf off)) 1).complete who .ur []
  else if 0xC80000 ≤ off ∧ off < 0xCC0000 then s.pageAccess who ((off - 0xC80000) / 4096) (off % 4096) v
  else
    match v with
    | some w => (s.writeAt off w).complete who .ok []
    | none => s.readAt who off

/-- A register access of a core in SLICE role, on behalf of its slice: outside the slice's page it ends as R40 says, an access fault while
the slice is not LIVE (R14, R40, R443). -/
def State.sliceCoreAccess (s : State) (c : Fin 32) (sl off size : Nat) (v : Option Word) : State :=
  if !s.live sl then s.complete (.core c) .fault []
  else if !inPage sl off then (s.tally (SLC_REFUSE sl)).complete (.core c) .ur []
  else if size ≠ 4 ∨ off % 4 ≠ 0 then (s.rsvdWr 0xC).complete (.core c) .ur []
  else s.pageAccess (.core c) sl (off % 4096) v

/-- An access to the register window. -/
def State.regAccess (s : State) (who : Requester) (off size : Nat) (v : Option Word) : State :=
  match who with
  | .pcie rid (some pasid) => s.pasidRequest rid pasid off size v
  | .pcie _ none => if s.flag fLinkUp then s.managerAccess who off size v else s
  | .core c =>
    if !s.coreRuns c.val then s
    else
      match s.coreSlice c.val with
      | some sl => s.sliceCoreAccess c sl off size v
      | none => s.managerAccess who off size v
  | .warden =>
    if s.flag PWR_STATE_HUB_RUN ∨ [0xD, 0xE, 0xF, 0x11].contains (off / 0x100000) then s.managerAccess who off size v
    else s.complete who .ur []

/-! ### The commands -/

/-- REGISTER_WRITE: a write of `size` bytes at an offset of the window. -/
def execRegisterWrite (who : Requester) (off : BitVec 28) (size : BitVec 13) (v : Word) (s : State) : Answer :=
  .next (s.regAccess who off.toNat size.toNat (some v))
/-- LOW_WORD_READ: a read of an offset of the window, low words among them. -/
def execLowWordRead (who : Requester) (off : BitVec 28) (size : BitVec 13) (s : State) : Answer :=
  .next (s.regAccess who off.toNat size.toNat none)
/-- COUNTER_SATURATION: the counter with a key reaches all-ones (R15). -/
def execCounterSaturation (key : BitVec 32) (s : State) : Answer :=
  .next (if isCounter key.toNat then s.count key.toNat (2 ^ 48 - 1) else s)

end Sys2Proof.Machine
end

