-- ==== Sys2Proof/Machine/Dispatch.lean ====
section
/-! DEFINITION. The dispatch: one arm for each command, each a direct call of its meaning. -/

namespace Sys2Proof.Machine

/-- The effect of a command on everything but the queue. -/
def exec (instr : Instr) (s : State) : Host.Outcome State Fault Refusal :=
  match instr with
  | .registerWrite who off size v => Sys2Proof.Machine.execRegisterWrite who off size v s
  | .lowWordRead who off size => Sys2Proof.Machine.execLowWordRead who off size s
  | .counterSaturation key => Sys2Proof.Machine.execCounterSaturation key s
  | .pasidBar0Request rid pasid off size v => Sys2Proof.Machine.execPasidBar0Request rid pasid off size v s
  | .tileBundleIssue t => Sys2Proof.Machine.execTileBundleIssue t s
  | .act t p => Sys2Proof.Machine.execAct t p s
  | .wld t p => Sys2Proof.Machine.execWld t p s
  | .drn t p => Sys2Proof.Machine.execDrn t p s
  | .vld t p => Sys2Proof.Machine.execVld t p s
  | .vst t p => Sys2Proof.Machine.execVst t p s
  | .mout t p => Sys2Proof.Machine.execMout t p s
  | .min t p => Sys2Proof.Machine.execMin t p s
  | .loopBegin t lc count => Sys2Proof.Machine.execLoopBegin t lc count s
  | .loopEnd t lc => Sys2Proof.Machine.execLoopEnd t lc s
  | .vnop t v => Sys2Proof.Machine.execVnop t v s
  | .fadd t v => Sys2Proof.Machine.execFadd t v s
  | .fsub t v => Sys2Proof.Machine.execFsub t v s
  | .fmul t v => Sys2Proof.Machine.execFmul t v s
  | .ffma t v => Sys2Proof.Machine.execFfma t v s
  | .fmin t v => Sys2Proof.Machine.execFmin t v s
  | .fmax t v => Sys2Proof.Machine.execFmax t v s
  | .fabs t v => Sys2Proof.Machine.execFabs t v s
  | .fneg t v => Sys2Proof.Machine.execFneg t v s
  | .fclt t v => Sys2Proof.Machine.execFclt t v s
  | .fcle t v => Sys2Proof.Machine.execFcle t v s
  | .fceq t v => Sys2Proof.Machine.execFceq t v s
  | .sel t v => Sys2Proof.Machine.execSel t v s
  | .iadd t v => Sys2Proof.Machine.execIadd t v s
  | .isub t v => Sys2Proof.Machine.execIsub t v s
  | .imul t v => Sys2Proof.Machine.execImul t v s
  | .iand t v => Sys2Proof.Machine.execIand t v s
  | .ior t v => Sys2Proof.Machine.execIor t v s
  | .ixor t v => Sys2Proof.Machine.execIxor t v s
  | .ishl t v => Sys2Proof.Machine.execIshl t v s
  | .isra t v => Sys2Proof.Machine.execIsra t v s
  | .isrl t v => Sys2Proof.Machine.execIsrl t v s
  | .imin t v => Sys2Proof.Machine.execImin t v s
  | .imax t v => Sys2Proof.Machine.execImax t v s
  | .iclt t v => Sys2Proof.Machine.execIclt t v s
  | .iceq t v => Sys2Proof.Machine.execIceq t v s
  | .fdiv t v => Sys2Proof.Machine.execFdiv t v s
  | .fsqrt t v => Sys2Proof.Machine.execFsqrt t v s
  | .frcp t v => Sys2Proof.Machine.execFrcp t v s
  | .frsq t v => Sys2Proof.Machine.execFrsq t v s
  | .fexp2 t v => Sys2Proof.Machine.execFexp2 t v s
  | .fexp t v => Sys2Proof.Machine.execFexp t v s
  | .flog2 t v => Sys2Proof.Machine.execFlog2 t v s
  | .flog t v => Sys2Proof.Machine.execFlog t v s
  | .ftanh t v => Sys2Proof.Machine.execFtanh t v s
  | .fsigm t v => Sys2Proof.Machine.execFsigm t v s
  | .fsin t v => Sys2Proof.Machine.execFsin t v s
  | .fcos t v => Sys2Proof.Machine.execFcos t v s
  | .rsum t v => Sys2Proof.Machine.execRsum t v s
  | .rmax t v => Sys2Proof.Machine.execRmax t v s
  | .rmin t v => Sys2Proof.Machine.execRmin t v s
  | .rmaxi t v => Sys2Proof.Machine.execRmaxi t v s
  | .rmini t v => Sys2Proof.Machine.execRmini t v s
  | .perm t v => Sys2Proof.Machine.execPerm t v s
  | .cvtTo t v => Sys2Proof.Machine.execCvtTo t v s
  | .cvtFrom t v => Sys2Proof.Machine.execCvtFrom t v s
  | .qblk t v => Sys2Proof.Machine.execQblk t v s
  | .dqblk t v => Sys2Proof.Machine.execDqblk t v s
  | .cvtToT t v => Sys2Proof.Machine.execCvtToT t v s
  | .cvtFromT t v => Sys2Proof.Machine.execCvtFromT t v s
  | .accrd t v => Sys2Proof.Machine.execAccrd t v s
  | .vmov t v => Sys2Proof.Machine.execVmov t v s
  | .copy t d => Sys2Proof.Machine.execCopy t d s
  | .tileRd t d => Sys2Proof.Machine.execTileRd t d s
  | .tileWr t d => Sys2Proof.Machine.execTileWr t d s
  | .tierRd t d => Sys2Proof.Machine.execTierRd t d s
  | .tierWr t d => Sys2Proof.Machine.execTierWr t d s
  | .kvRd t d => Sys2Proof.Machine.execKvRd t d s
  | .kvWr t d => Sys2Proof.Machine.execKvWr t d s
  | .fabRd t d => Sys2Proof.Machine.execFabRd t d s
  | .fabWr t d => Sys2Proof.Machine.execFabWr t d s
  | .fabRed t d => Sys2Proof.Machine.execFabRed t d s
  | .fabMcast t d => Sys2Proof.Machine.execFabMcast t d s
  | .fabAtom t d => Sys2Proof.Machine.execFabAtom t d s
  | .fence t d => Sys2Proof.Machine.execFence t d s
  | .contextTakeOp t c => Sys2Proof.Machine.execContextTakeOp t c s
  | .moverRequestIssue t => Sys2Proof.Machine.execMoverRequestIssue t s
  | .moverReply t c k => Sys2Proof.Machine.execMoverReply t c k s
  | .moverOpDone t c => Sys2Proof.Machine.execMoverOpDone t c s
  | .tileIncomingAccess t c k => Sys2Proof.Machine.execTileIncomingAccess t c k s
  | .spadBistChunk t fails => Sys2Proof.Machine.execSpadBistChunk t fails s
  | .hwClr => Sys2Proof.Machine.execHwClr s
  | .tilBistRestart => Sys2Proof.Machine.execTilBistRestart s
  | .repairMapWrite n v => Sys2Proof.Machine.execRepairMapWrite n v s
  | .tileInjectArm v => Sys2Proof.Machine.execTileInjectArm v s
  | .radioGroupsWrite hi v => Sys2Proof.Machine.execRadioGroupsWrite hi v s
  | .loadStart => Sys2Proof.Machine.execLoadStart s
  | .loadFetchDone ok host => Sys2Proof.Machine.execLoadFetchDone ok host s
  | .signatureAnswer good => Sys2Proof.Machine.execSignatureAnswer good s
  | .sigTimeout => Sys2Proof.Machine.execSigTimeout s
  | .loadWriteDone ok => Sys2Proof.Machine.execLoadWriteDone ok s
  | .loadAct => Sys2Proof.Machine.execLoadAct s
  | .loadAbort => Sys2Proof.Machine.execLoadAbort s
  | .unload => Sys2Proof.Machine.execUnload s
  | .partialReloadSwitch ok => Sys2Proof.Machine.execPartialReloadSwitch ok s
  | .stepRelease sl cons => Sys2Proof.Machine.execStepRelease sl cons s
  | .segmentBegin g radio => Sys2Proof.Machine.execSegmentBegin g radio s
  | .segmentEnd g radio => Sys2Proof.Machine.execSegmentEnd g radio s
  | .selectorResolve sl i => Sys2Proof.Machine.execSelectorResolve sl i s
  | .stepEnd sl => Sys2Proof.Machine.execStepEnd sl s
  | .stepCommit sl => Sys2Proof.Machine.execStepCommit sl s
  | .stagedWriteRetry t c k => Sys2Proof.Machine.execStagedWriteRetry t c k s
  | .drainCommittedLine sl => Sys2Proof.Machine.execDrainCommittedLine sl s
  | .progressTimerExpiry sl => Sys2Proof.Machine.execProgressTimerExpiry sl s
  | .run sl v => Sys2Proof.Machine.execRun sl v s
  | .retry sl => Sys2Proof.Machine.execRetry sl s
  | .creditWrite sl v => Sys2Proof.Machine.execCreditWrite sl v s
  | .xtWrite i v => Sys2Proof.Machine.execXtWrite i v s
  | .tierReadRequest t c k fail => Sys2Proof.Machine.execTierReadRequest t c k fail s
  | .tierWriteRequest t c k => Sys2Proof.Machine.execTierWriteRequest t c k s
  | .refreshDue ctrl bank tc0 => Sys2Proof.Machine.execRefreshDue ctrl bank tc0 s
  | .hbmTempRead k v => Sys2Proof.Machine.execHbmTempRead k v s
  | .lp5xRateRead k v => Sys2Proof.Machine.execLp5xRateRead k v s
  | .scrubRead tierB w => Sys2Proof.Machine.execScrubRead tierB w s
  | .tierInitComplete tierB dead => Sys2Proof.Machine.execTierInitComplete tierB dead s
  | .submit => Sys2Proof.Machine.execSubmit s
  | .pageMoverMove => Sys2Proof.Machine.execPageMoverMove s
  | .pageMoverCopy => Sys2Proof.Machine.execPageMoverCopy s
  | .pageMoverZero => Sys2Proof.Machine.execPageMoverZero s
  | .pageMoverComplete => Sys2Proof.Machine.execPageMoverComplete s
  | .tc0PeakClr d => Sys2Proof.Machine.execTc0PeakClr d s
  | .memInjectArm v => Sys2Proof.Machine.execMemInjectArm v s
  | .openStream sl sid tag host cons => Sys2Proof.Machine.execOpen sl sid tag host cons s
  | .setparam sl sid tag host cons => Sys2Proof.Machine.execSetparam sl sid tag host cons s
  | .append sl sid tag val host cons => Sys2Proof.Machine.execAppend sl sid tag val host cons s
  | .close sl sid tag cons => Sys2Proof.Machine.execClose sl sid tag cons s
  | .clear sl sid tag cons => Sys2Proof.Machine.execClear sl sid tag cons s
  | .truncate sl sid tag val cons => Sys2Proof.Machine.execTruncate sl sid tag val cons s
  | .batch sl sid tag val cons => Sys2Proof.Machine.execBatch sl sid tag val cons s
  | .demote sl sid tag cons => Sys2Proof.Machine.execDemote sl sid tag cons s
  | .promote sl sid tag cons => Sys2Proof.Machine.execPromote sl sid tag cons s
  | .resize sl sid tag host cons => Sys2Proof.Machine.execResize sl sid tag host cons s
  | .freeA sl tag val host cons => Sys2Proof.Machine.execFreeA sl tag val host cons s
  | .freeB sl tag val host cons => Sys2Proof.Machine.execFreeB sl tag val host cons s
  | .emit sl op => Sys2Proof.Machine.execEmit sl op s
  | .draft sl op => Sys2Proof.Machine.execDraft sl op s
  | .argmax sl op => Sys2Proof.Machine.execArgmax sl op s
  | .argmin sl op => Sys2Proof.Machine.execArgmin sl op s
  | .streamEnable sl en => Sys2Proof.Machine.execStreamEnable sl en s
  | .laneBundleIssue c => Sys2Proof.Machine.execLaneBundleIssue c s
  | .mpy c m => Sys2Proof.Machine.execMpy c m s
  | .mac c m => Sys2Proof.Machine.execMac c m s
  | .msu c m => Sys2Proof.Machine.execMsu c m s
  | .cmpy c m => Sys2Proof.Machine.execCmpy c m s
  | .cmac c m => Sys2Proof.Machine.execCmac c m s
  | .cmacj c m => Sys2Proof.Machine.execCmacj c m s
  | .aclr c m => Sys2Proof.Machine.execAclr c m s
  | .add c a => Sys2Proof.Machine.execAdd c a s
  | .sub c a => Sys2Proof.Machine.execSub c a s
  | .and c a => Sys2Proof.Machine.execAnd c a s
  | .or c a => Sys2Proof.Machine.execOr c a s
  | .xor c a => Sys2Proof.Machine.execXor c a s
  | .shl c a => Sys2Proof.Machine.execShl c a s
  | .shra c a => Sys2Proof.Machine.execShra c a s
  | .shrl c a => Sys2Proof.Machine.execShrl c a s
  | .movi c a => Sys2Proof.Machine.execMovi c a s
  | .movh c a => Sys2Proof.Machine.execMovh c a s
  | .laneMax c a => Sys2Proof.Machine.execLaneMax c a s
  | .laneMin c a => Sys2Proof.Machine.execLaneMin c a s
  | .maxi c a => Sys2Proof.Machine.execMaxi c a s
  | .mini c a => Sys2Proof.Machine.execMini c a s
  | .cadd c a => Sys2Proof.Machine.execCadd c a s
  | .csub c a => Sys2Proof.Machine.execCsub c a s
  | .shc c a => Sys2Proof.Machine.execShc c a s
  | .nrm c a => Sys2Proof.Machine.execNrm c a s
  | .nrmc c a => Sys2Proof.Machine.execNrmc c a s
  | .exth c a => Sys2Proof.Machine.execExth c a s
  | .extc c a => Sys2Proof.Machine.execExtc c a s
  | .extw c a => Sys2Proof.Machine.execExtw c a s
  | .xch c a => Sys2Proof.Machine.execXch c a s
  | .mov c a => Sys2Proof.Machine.execMov c a s
  | .rdf c a => Sys2Proof.Machine.execRdf c a s
  | .ld c o => Sys2Proof.Machine.execLd c o s
  | .st c o => Sys2Proof.Machine.execSt c o s
  | .aadd c o => Sys2Proof.Machine.execAadd c o s
  | .aswp c o => Sys2Proof.Machine.execAswp c o s
  | .amod c o => Sys2Proof.Machine.execAmod c o s
  | .seti c m i imm => Sys2Proof.Machine.execSeti c m i imm s
  | .movr c vr kind i => Sys2Proof.Machine.execMovr c vr kind i s
  | .movv c vr kind i => Sys2Proof.Machine.execMovv c vr kind i s
  | .loop c o => Sys2Proof.Machine.execLoop c o s
  | .endl c lc => Sys2Proof.Machine.execEndl c lc s
  | .loop1 c o => Sys2Proof.Machine.execLoop1 c o s
  | .halt c => Sys2Proof.Machine.execHalt c s
  | .wait c ev => Sys2Proof.Machine.execWait c ev s
  | .post c ev => Sys2Proof.Machine.execPost c ev s
  | .clrf c => Sys2Proof.Machine.execClrf c s
  | .taskEnd c => Sys2Proof.Machine.execTaskEnd c s
  | .taskStart c => Sys2Proof.Machine.execTaskStart c s
  | .taskStartWrite v => Sys2Proof.Machine.execTaskStartWrite v s
  | .postStart c => Sys2Proof.Machine.execPostStart c s
  | .postSet c => Sys2Proof.Machine.execPostSet c s
  | .postKick c => Sys2Proof.Machine.execPostKick c s
  | .postArm c => Sys2Proof.Machine.execPostArm c s
  | .postNotify c => Sys2Proof.Machine.execPostNotify c s
  | .evSet v => Sys2Proof.Machine.execEvSet v s
  | .claim l v => Sys2Proof.Machine.execClaim l v s
  | .release l v => Sys2Proof.Machine.execRelease l v s
  | .bankReleaseDone c l => Sys2Proof.Machine.execBankReleaseDone c l s
  | .seal l v => Sys2Proof.Machine.execSeal l v s
  | .bankWipe c l => Sys2Proof.Machine.execBankWipe c l s
  | .bankBistChunk c fails => Sys2Proof.Machine.execBankBistChunk c fails s
  | .bankRepairWrite j v => Sys2Proof.Machine.execBankRepairWrite j v s
  | .bbaBistRestart => Sys2Proof.Machine.execBbaBistRestart s
  | .faultClr => Sys2Proof.Machine.execFaultClr s
  | .laneInjectArm v => Sys2Proof.Machine.execLaneInjectArm v s
  | .clusterPowerOff c => Sys2Proof.Machine.execClusterPowerOff c s
  | .hqEnable q v => Sys2Proof.Machine.execHqEnable q v s
  | .nop q => Sys2Proof.Machine.execNop q s
  | .dma q => Sys2Proof.Machine.execDma q s
  | .fft q => Sys2Proof.Machine.execFft q s
  | .ldpcDec q => Sys2Proof.Machine.execLdpcDec q s
  | .ldpcEnc q => Sys2Proof.Machine.execLdpcEnc q s
  | .polarDec q => Sys2Proof.Machine.execPolarDec q s
  | .polarEnc q => Sys2Proof.Machine.execPolarEnc q s
  | .expand q => Sys2Proof.Machine.execExpand q s
  | .compress q => Sys2Proof.Machine.execCompress q s
  | .fhTx q => Sys2Proof.Machine.execFhTx q s
  | .helperCompletion q k => Sys2Proof.Machine.execHelperCompletion q k s
  | .fhSymbolComplete i g => Sys2Proof.Machine.execFhSymbolComplete i g s
  | .fhTxLaunch q ph => Sys2Proof.Machine.execFhTxLaunch q ph s
  | .stageOutcome st => Sys2Proof.Machine.execStageOutcome st s
  | .progStart ok host sig => Sys2Proof.Machine.execProgStart ok host sig s
  | .progLoadDone => Sys2Proof.Machine.execProgLoadDone s
  | .create sl => Sys2Proof.Machine.execCreate sl s
  | .destroy sl => Sys2Proof.Machine.execDestroy sl s
  | .sliceFree sl => Sys2Proof.Machine.execSliceFree sl s
  | .exportSlice sl => Sys2Proof.Machine.execExport sl s
  | .importSlice sl => Sys2Proof.Machine.execImport sl s
  | .mbxReqProd sl v => Sys2Proof.Machine.execMbxReqProd sl v s
  | .mbxRspCons sl v => Sys2Proof.Machine.execMbxRspCons sl v s
  | .stmCmdProd sl v => Sys2Proof.Machine.execStmCmdProd sl v s
  | .hqProd sl q v => Sys2Proof.Machine.execHqProd sl q v s
  | .etxProd sl j v => Sys2Proof.Machine.execEtxProd sl j v s
  | .erxProd sl j v => Sys2Proof.Machine.execErxProd sl j v s
  | .mbxRspProdWrite sl v => Sys2Proof.Machine.execMbxRspProdWrite sl v s
  | .logEnable k v => Sys2Proof.Machine.execLogEnable k v s
  | .swap k => Sys2Proof.Machine.execSwap k s
  | .swapDone k => Sys2Proof.Machine.execSwapDone k s
  | .cyclicWindowStart => Sys2Proof.Machine.execCyclicWindowStart s
  | .groupReturn g => Sys2Proof.Machine.execGroupReturn g s
  | .switch => Sys2Proof.Machine.execSwitch s
  | .cycEn v => Sys2Proof.Machine.execCycEn v s
  | .cycWinWrite b j w v => Sys2Proof.Machine.execCycWinWrite b j w v s
  | .save sl => Sys2Proof.Machine.execSave sl s
  | .groupSaveBegin g => Sys2Proof.Machine.execGroupSaveBegin g s
  | .groupSaved g => Sys2Proof.Machine.execGroupSaved g s
  | .restore sl => Sys2Proof.Machine.execRestore sl s
  | .groupRestored g => Sys2Proof.Machine.execGroupRestored g s
  | .drvPortEnable p v => Sys2Proof.Machine.execDrvPortEnable p v s
  | .retrain p => Sys2Proof.Machine.execRetrain p s
  | .drvPortTrained p dev port => Sys2Proof.Machine.execDrvPortTrained p dev port s
  | .drvTrainTimeout p => Sys2Proof.Machine.execDrvTrainTimeout p s
  | .drvAutoRetry p => Sys2Proof.Machine.execDrvAutoRetry p s
  | .drvPortDown p => Sys2Proof.Machine.execDrvPortDown p s
  | .drvSilenceTimeout p => Sys2Proof.Machine.execDrvSilenceTimeout p s
  | .linkRetry p fec => Sys2Proof.Machine.execLinkRetry p fec s
  | .linkRetryExhausted p => Sys2Proof.Machine.execLinkRetryExhausted p s
  | .idleFlit p => Sys2Proof.Machine.execIdleFlit p s
  | .reqRd port ok p => Sys2Proof.Machine.execReqRd port ok p s
  | .reqWr port ok p => Sys2Proof.Machine.execReqWr port ok p s
  | .reqRed port ok p => Sys2Proof.Machine.execReqRed port ok p s
  | .reqAtom port ok p => Sys2Proof.Machine.execReqAtom port ok p s
  | .reqMcw port ok p => Sys2Proof.Machine.execReqMcw port ok p s
  | .heldRequestRelease k => Sys2Proof.Machine.execHeldRequestRelease k s
  | .gatedReadAnswer k => Sys2Proof.Machine.execGatedReadAnswer k s
  | .ack port ok p => Sys2Proof.Machine.execAck port ok p s
  | .resp port ok p => Sys2Proof.Machine.execResp port ok p s
  | .nackRefusal port ok p => Sys2Proof.Machine.execNackRefusal port ok p s
  | .nackBusy port ok p => Sys2Proof.Machine.execNackBusy port ok p s
  | .busyResend d ctrl seq => Sys2Proof.Machine.execBusyResend d ctrl seq s
  | .ctrlReady port ok p => Sys2Proof.Machine.execCtrlReady port ok p s
  | .ctrlRerun port ok p => Sys2Proof.Machine.execCtrlRerun port ok p s
  | .packetForward port ok p => Sys2Proof.Machine.execPacketForward port ok p s
  | .forwardQueueTimeout k => Sys2Proof.Machine.execForwardQueueTimeout k s
  | .rtoExpiry d ctrl seq => Sys2Proof.Machine.execRtoExpiry d ctrl seq s
  | .xportProbe v => Sys2Proof.Machine.execXportProbe v s
  | .apply v => Sys2Proof.Machine.execApply v s
  | .selfWrite v => Sys2Proof.Machine.execSelfWrite v s
  | .drvInjectArm v => Sys2Proof.Machine.execDrvInjectArm v s
  | .eyeMeasurement site height width lane => Sys2Proof.Machine.execEyeMeasurement site height width lane s
  | .quadModeWrite k v => Sys2Proof.Machine.execQuadModeWrite k v s
  | .ethPortEnable p v => Sys2Proof.Machine.execEthPortEnable p v s
  | .ethLinkUp p => Sys2Proof.Machine.execEthLinkUp p s
  | .ethLinkDown p => Sys2Proof.Machine.execEthLinkDown p s
  | .ethFrameReceive p ph ce ue fcs frame desc ok => Sys2Proof.Machine.execEthFrameReceive p ph ce ue fcs frame desc ok s
  | .txQueueEnable q v => Sys2Proof.Machine.execTxQueueEnable q v s
  | .rxQueueEnable q v => Sys2Proof.Machine.execRxQueueEnable q v s
  | .ethTxDescriptorFetch q desc frame => Sys2Proof.Machine.execEthTxDescriptorFetch q desc frame s
  | .ethTxFrameStart p ph => Sys2Proof.Machine.execEthTxFrameStart p ph s
  | .ethTxComplete p => Sys2Proof.Machine.execEthTxComplete p s
  | .ethTxLate q => Sys2Proof.Machine.execEthTxLate q s
  | .shaperRefill => Sys2Proof.Machine.execShaperRefill s
  | .rateWrite v => Sys2Proof.Machine.execRateWrite v s
  | .stepGo => Sys2Proof.Machine.execStepGo s
  | .ovrNext => Sys2Proof.Machine.execOvrNext s
  | .timeRead who raw => Sys2Proof.Machine.execTimeRead who raw s
  | .timePllLock => Sys2Proof.Machine.execTimePllLock s
  | .refLost i => Sys2Proof.Machine.execRefLost i s
  | .refReturn i => Sys2Proof.Machine.execRefReturn i s
  | .synceEnable i v => Sys2Proof.Machine.execSynceEnable i v s
  | .synceResume i => Sys2Proof.Machine.execSynceResume i s
  | .pulseEnable i v => Sys2Proof.Machine.execPulseEnable i v s
  | .pulseFire i => Sys2Proof.Machine.execPulseFire i s
  | .pulseEnd i => Sys2Proof.Machine.execPulseEnd i s
  | .pulseDriverFault i => Sys2Proof.Machine.execPulseDriverFault i s
  | .pulseDriverRetry i ok => Sys2Proof.Machine.execPulseDriverRetry i ok s
  | .captureEdge j rise sub => Sys2Proof.Machine.execCaptureEdge j rise sub s
  | .capturePop j who => Sys2Proof.Machine.execCapturePop j who s
  | .coreCfgWrite c v => Sys2Proof.Machine.execCoreCfgWrite c v s
  | .coreTierAccess c tierB off acc => Sys2Proof.Machine.execCoreTierAccess c tierB off acc s
  | .coreHostAccess c addr acc ans => Sys2Proof.Machine.execCoreHostAccess c addr acc ans s
  | .bootStart => Sys2Proof.Machine.execBootStart s
  | .go => Sys2Proof.Machine.execGo s
  | .bootFetchDone flash sig => Sys2Proof.Machine.execBootFetchDone flash sig s
  | .bar2Request rid pasid off acc poisoned => Sys2Proof.Machine.execBar2Request rid pasid off acc poisoned s
  | .atsTranslationComplete pasid base dst log2 rd wr => Sys2Proof.Machine.execAtsTranslationComplete pasid base dst log2 rd wr s
  | .atsInvalidate tag pasid base log2 => Sys2Proof.Machine.execAtsInvalidate tag pasid base log2 s
  | .atsInvalidateDone tag => Sys2Proof.Machine.execAtsInvalidateDone tag s
  | .completionTimeout hart => Sys2Proof.Machine.execCompletionTimeout hart s
  | .functionLevelReset => Sys2Proof.Machine.execFunctionLevelReset s
  | .pcieReset => Sys2Proof.Machine.execPcieReset s
  | .pcieLinkDown => Sys2Proof.Machine.execPcieLinkDown s
  | .msixUnmask vec e => Sys2Proof.Machine.execMsixUnmask vec e s
  | .wardenWake => Sys2Proof.Machine.execWardenWake s
  | .wclkStop => Sys2Proof.Machine.execWclkStop s
  | .watchdogExpiry => Sys2Proof.Machine.execWatchdogExpiry s
  | .info => Sys2Proof.Machine.execInfo s
  | .logRead => Sys2Proof.Machine.execLogRead s
  | .logExport => Sys2Proof.Machine.execLogExport s
  | .keyEnroll => Sys2Proof.Machine.execKeyEnroll s
  | .keyRevoke => Sys2Proof.Machine.execKeyRevoke s
  | .lcAdvance good => Sys2Proof.Machine.execLcAdvance good s
  | .attest => Sys2Proof.Machine.execAttest s
  | .sensorRead => Sys2Proof.Machine.execSensorRead s
  | .pmbusXfer ans => Sys2Proof.Machine.execPmbusXfer ans s
  | .cmisXfer ans => Sys2Proof.Machine.execCmisXfer ans s
  | .sealGroupsWrite hi v => Sys2Proof.Machine.execSealGroupsWrite hi v s
  | .tamperEvent src => Sys2Proof.Machine.execTamperEvent src s
  | .tamperTest => Sys2Proof.Machine.execTamperTest s
  | .wipeComplete => Sys2Proof.Machine.execWipeComplete s
  | .sensorScan ts => Sys2Proof.Machine.execSensorScan ts s
  | .regulatorPoll i ans => Sys2Proof.Machine.execRegulatorPoll i ans s
  | .smbalert i status affects => Sys2Proof.Machine.execSmbalert i status affects s
  | .moduleInsert site pages => Sys2Proof.Machine.execModuleInsert site pages s
  | .moduleMonitorRead site ans => Sys2Proof.Machine.execModuleMonitorRead site ans s
  | .wardenRecord => Sys2Proof.Machine.execWardenRecord s
  | .intInjectArm v => Sys2Proof.Machine.execIntInjectArm v s
  | .replayStart sl lg => Sys2Proof.Machine.execReplayStart sl lg s
  | .replaySetupDone g => Sys2Proof.Machine.execReplaySetupDone g s
  | .replayVerdict sl lg => Sys2Proof.Machine.execReplayVerdict sl lg s
  | .quarClear hi v => Sys2Proof.Machine.execQuarClear hi v s
  | .marginSample d m v => Sys2Proof.Machine.execMarginSample d m v s
  | .supplyDroop d m v => Sys2Proof.Machine.execSupplyDroop d m v s
  | .derateClr d => Sys2Proof.Machine.execDerateClr d s
  | .aoPowerUp => Sys2Proof.Machine.execAoPowerUp s
  | .hollowResetRelease c => Sys2Proof.Machine.execHollowResetRelease c s
  | .pwrReq => Sys2Proof.Machine.execPwrReq s
  | .powerGood => Sys2Proof.Machine.execPowerGood s
  | .powerGoodTimeout => Sys2Proof.Machine.execPowerGoodTimeout s
  | .hubResetRelease => Sys2Proof.Machine.execHubResetRelease s
  | .pllLockTimeout => Sys2Proof.Machine.execPllLockTimeout s
  | .pllLoss p => Sys2Proof.Machine.execPllLoss p s
  | .capWrite d v => Sys2Proof.Machine.execCapWrite d v s
  | .tclkStepChange d => Sys2Proof.Machine.execTclkStepChange d s
  | .cclkStepWrite v => Sys2Proof.Machine.execCclkStepWrite v s
  | .domSwitchWrite drp v => Sys2Proof.Machine.execDomSwitchWrite drp v s
  | .groupPowerOff g => Sys2Proof.Machine.execGroupPowerOff g s
  | .rstN => Sys2Proof.Machine.execRstN s
  | .partReset => Sys2Proof.Machine.execPartReset s
  | .powerOff => Sys2Proof.Machine.execOff s
  | .supplyLoss => Sys2Proof.Machine.execSupplyLoss s
  | .saletPreamble busB level afc clip => Sys2Proof.Machine.execSaletPreamble busB level afc clip s
  | .beacon busB src cycle => Sys2Proof.Machine.execBeacon busB src cycle s
  | .beaconSend busB => Sys2Proof.Machine.execBeaconSend busB s
  | .beaconTimeout busB => Sys2Proof.Machine.execBeaconTimeout busB s
  | .heartbeat busB es => Sys2Proof.Machine.execHeartbeat busB es s
  | .probe busB src dst es => Sys2Proof.Machine.execProbe busB src dst es s
  | .probeSend busB n => Sys2Proof.Machine.execProbeSend busB n s
  | .saletFrameSend busB k => Sys2Proof.Machine.execSaletFrameSend busB k s
  | .saletRetryTimeout k => Sys2Proof.Machine.execSaletRetryTimeout k s
  | .cmd f => Sys2Proof.Machine.execCmd f s
  | .rsp f => Sys2Proof.Machine.execRsp f s
  | .record f => Sys2Proof.Machine.execRecord f s
  | .epoch f => Sys2Proof.Machine.execEpoch f s
  | .epochAck f => Sys2Proof.Machine.execEpochAck f s
  | .saletAck f => Sys2Proof.Machine.execSaletAck f s
  | .user f => Sys2Proof.Machine.execUser f s
  | .load f => Sys2Proof.Machine.execLoad f s
  | .lineTest busB r vp vn => Sys2Proof.Machine.execLineTest busB r vp vn s
  | .polarityReading busB mv => Sys2Proof.Machine.execPolarityReading busB mv s
  | .saletTxGo v => Sys2Proof.Machine.execSaletTxGo v s
  | .rxPop => Sys2Proof.Machine.execRxPop s
  | .salInjectArm v => Sys2Proof.Machine.execSalInjectArm v s
  | .beaconLost busB => Sys2Proof.Machine.execBeaconLost busB s
  | .falseReception busB => Sys2Proof.Machine.execFalseReception busB s
  | .pcieLinkUp speed width flit => Sys2Proof.Machine.execPcieLinkUp speed width flit s
  | .configurationSpaceWrite c => Sys2Proof.Machine.execConfigurationSpaceWrite c s
  | .alwaysOnPowerLoss => Sys2Proof.Machine.execAlwaysOnPowerLoss s
  | .ieee11491Instruction i => Sys2Proof.Machine.execIeee11491Instruction i s

end Sys2Proof.Machine
end

