-- ==== Sys2Proof/Safety.lean ====
section
/-! DEFINITION. What claims about the part are stated in: the canonical form of its data, what a safe step is, and the
words for "everything else is unchanged". -/

namespace Sys2Proof.Machine

/-- The register file and the event counters are in canonical form: keys rise and no entry holds what an unlisted key reads
as, so that equal register files are equal data. -/
def State.registersCanonical (s : State) : Bool := mapWf resetOf s.regs && mapWf (fun _ => (0 : BitVec 48)) s.ctrs

/-- The memories of the tiers are in canonical form. -/
def State.tiersCanonical (s : State) : Bool := s.mem.tierA.wf && s.mem.tierB.wf

/-- The invariant that every step keeps: canonical registers and counters, and a loader that loads for one of the 64 slices
(R141). -/
def State.inv (s : State) : Prop := s.registersCanonical = true ∧ s.loader.slice < 64

/-- A step is safe when it answers a next state: the part never stops (State's `Fault` has no cause). -/
def safeStep (s : State) : Prop := ∃ t, step s = .next t

/-- Command `c` completes in state `s` with a next state that satisfies `P`. -/
def completes (c : Instr) (s : State) (P : State → Prop) : Prop := ∃ t, exec c s = .next t ∧ P t

/-- Registers outside `keys` hold what they held. -/
def sameRegs (keys : List Nat) (s t : State) : Prop := ∀ k, k ∉ keys → t.reg k = s.reg k

/-- Counters outside `keys` hold what they held. -/
def sameCtrs (keys : List Nat) (s t : State) : Prop := ∀ k, k ∉ keys → t.ctr k = s.ctr k

end Sys2Proof.Machine
end

