-- ==== Sys2Proof/WellFormed.lean ====
section
/-! DEFINITION. Which operands a command can have. Most operands are bounded by their types; what is checked here is the
size of what comes from outside the part: packets, accesses, descriptors and lists of readings. -/

namespace Sys2Proof

/-- A packet whose fields lie within the header's bits and whose body has one of the sizes of R369. -/
def packetOk (p : Packet) : Bool :=
  decide (p.typ < 16 ∧ p.op < 16 ∧ p.fop < 256 ∧ p.flow < 256 ∧ p.hops < 16 ∧ p.seq < 2 ^ 32 ∧ p.src < 4096 ∧ p.dst < 4096)
    && decide (p.mask < 256 ∧ p.epoch < 65536 ∧ p.addr < 2 ^ 64 ∧ p.key < 2 ^ 32 ∧ p.step < 65536 ∧ p.mgroup < 256 ∧ p.code < 16)
    && [0, 16, 32, 128].contains p.body.length

/-- An access of at least one byte and at most one maximum read request (R451). -/
def accessOk : Access → Bool
  | .read n => decide (1 ≤ n ∧ n ≤ 4096)
  | .write d => decide (1 ≤ d.length ∧ d.length ≤ 4096)

/-- The host answers a read with as many bytes as it asks for (R454). -/
def answerOk : Access → HostAns → Bool
  | .read n, .data d => decide (d.length = n)
  | _, _ => true

/-- A descriptor that was read has 32 bytes, a ring entry (14_ethernet_and_shaping.md, before R412). -/
def descOk : Option (List Byte) → Bool
  | some d => decide (d.length = 32)
  | none => true

/-- Whether a command's operands are operands it can have. -/
def Instr.wellFormed : Instr → Bool
  | .reqRd _ _ p => packetOk p
  | .reqWr _ _ p => packetOk p
  | .reqRed _ _ p => packetOk p
  | .reqAtom _ _ p => packetOk p
  | .reqMcw _ _ p => packetOk p
  | .ack _ _ p => packetOk p
  | .resp _ _ p => packetOk p
  | .nackRefusal _ _ p => packetOk p
  | .nackBusy _ _ p => packetOk p
  | .ctrlReady _ _ p => packetOk p
  | .ctrlRerun _ _ p => packetOk p
  | .packetForward _ _ p => packetOk p
  | .ethFrameReceive _ _ _ _ _ frame desc _ => decide (frame ≠ []) && descOk desc
  | .ethTxDescriptorFetch _ desc _ => descOk desc
  | .coreTierAccess _ _ _ acc => accessOk acc
  | .coreHostAccess _ _ acc ans => accessOk acc && answerOk acc ans
  | .bar2Request _ _ _ acc _ => accessOk acc
  | .sensorScan ts => decide (ts.length = 25)
  | .heartbeat _ es => decide (es.length = 216)
  | .probe _ _ _ es => decide (es.length = 216)
  | .cmd f => decide (f.body.length ≤ 1536)
  | .rsp f => decide (f.body.length ≤ 1536)
  | .record f => decide (f.body.length ≤ 1536)
  | .epoch f => decide (f.body.length ≤ 1536)
  | .epochAck f => decide (f.body.length ≤ 1536)
  | .saletAck f => decide (f.body.length ≤ 1536)
  | .user f => decide (f.body.length ≤ 1536)
  | .load f => decide (f.body.length ≤ 1536)
  | .registerWrite .. | .lowWordRead .. | .counterSaturation .. | .pasidBar0Request .. | .tileBundleIssue ..
  | .act .. | .wld .. | .drn .. | .vld .. | .vst .. | .mout .. | .min .. | .loopBegin .. | .loopEnd .. | .vnop ..
  | .fadd .. | .fsub .. | .fmul .. | .ffma .. | .fmin .. | .fmax .. | .fabs .. | .fneg .. | .fclt .. | .fcle ..
  | .fceq .. | .sel .. | .iadd .. | .isub .. | .imul .. | .iand .. | .ior .. | .ixor .. | .ishl .. | .isra ..
  | .isrl .. | .imin .. | .imax .. | .iclt .. | .iceq .. | .fdiv .. | .fsqrt .. | .frcp .. | .frsq .. | .fexp2 ..
  | .fexp .. | .flog2 .. | .flog .. | .ftanh .. | .fsigm .. | .fsin .. | .fcos .. | .rsum .. | .rmax .. | .rmin ..
  | .rmaxi .. | .rmini .. | .perm .. | .cvtTo .. | .cvtFrom .. | .qblk .. | .dqblk .. | .cvtToT .. | .cvtFromT ..
  | .accrd .. | .vmov .. | .copy .. | .tileRd .. | .tileWr .. | .tierRd .. | .tierWr .. | .kvRd .. | .kvWr ..
  | .fabRd .. | .fabWr .. | .fabRed .. | .fabMcast .. | .fabAtom .. | .fence .. | .contextTakeOp ..
  | .moverRequestIssue .. | .moverReply .. | .moverOpDone .. | .tileIncomingAccess .. | .spadBistChunk .. | .hwClr ..
  | .tilBistRestart .. | .repairMapWrite .. | .tileInjectArm .. | .radioGroupsWrite .. | .loadStart ..
  | .loadFetchDone .. | .signatureAnswer .. | .sigTimeout .. | .loadWriteDone .. | .loadAct .. | .loadAbort ..
  | .unload .. | .partialReloadSwitch .. | .stepRelease .. | .segmentBegin .. | .segmentEnd .. | .selectorResolve ..
  | .stepEnd .. | .stepCommit .. | .stagedWriteRetry .. | .drainCommittedLine .. | .progressTimerExpiry .. | .run ..
  | .retry .. | .creditWrite .. | .xtWrite .. | .tierReadRequest .. | .tierWriteRequest .. | .refreshDue ..
  | .hbmTempRead .. | .lp5xRateRead .. | .scrubRead .. | .tierInitComplete .. | .submit .. | .pageMoverMove ..
  | .pageMoverCopy .. | .pageMoverZero .. | .pageMoverComplete .. | .tc0PeakClr .. | .memInjectArm ..
  | .openStream .. | .setparam .. | .append .. | .close .. | .clear .. | .truncate .. | .batch .. | .demote ..
  | .promote .. | .resize .. | .freeA .. | .freeB .. | .emit .. | .draft .. | .argmax .. | .argmin ..
  | .streamEnable .. | .laneBundleIssue .. | .mpy .. | .mac .. | .msu .. | .cmpy .. | .cmac .. | .cmacj .. | .aclr ..
  | .add .. | .sub .. | .and .. | .or .. | .xor .. | .shl .. | .shra .. | .shrl .. | .movi .. | .movh ..
  | .laneMax .. | .laneMin .. | .maxi .. | .mini .. | .cadd .. | .csub .. | .shc .. | .nrm .. | .nrmc .. | .exth ..
  | .extc .. | .extw .. | .xch .. | .mov .. | .rdf .. | .ld .. | .st .. | .aadd .. | .aswp .. | .amod .. | .seti ..
  | .movr .. | .movv .. | .loop .. | .endl .. | .loop1 .. | .halt .. | .wait .. | .post .. | .clrf .. | .taskEnd ..
  | .taskStart .. | .taskStartWrite .. | .postStart .. | .postSet .. | .postKick .. | .postArm .. | .postNotify ..
  | .evSet .. | .claim .. | .release .. | .bankReleaseDone .. | .seal .. | .bankWipe .. | .bankBistChunk ..
  | .bankRepairWrite .. | .bbaBistRestart .. | .faultClr .. | .laneInjectArm .. | .clusterPowerOff .. | .hqEnable ..
  | .nop .. | .dma .. | .fft .. | .ldpcDec .. | .ldpcEnc .. | .polarDec .. | .polarEnc .. | .expand .. | .compress ..
  | .fhTx .. | .helperCompletion .. | .fhSymbolComplete .. | .fhTxLaunch .. | .stageOutcome .. | .progStart ..
  | .progLoadDone .. | .create .. | .destroy .. | .sliceFree .. | .exportSlice .. | .importSlice .. | .mbxReqProd ..
  | .mbxRspCons .. | .stmCmdProd .. | .hqProd .. | .etxProd .. | .erxProd .. | .mbxRspProdWrite .. | .logEnable ..
  | .swap .. | .swapDone .. | .cyclicWindowStart .. | .groupReturn .. | .switch .. | .cycEn .. | .cycWinWrite ..
  | .save .. | .groupSaveBegin .. | .groupSaved .. | .restore .. | .groupRestored .. | .drvPortEnable ..
  | .retrain .. | .drvPortTrained .. | .drvTrainTimeout .. | .drvAutoRetry .. | .drvPortDown ..
  | .drvSilenceTimeout .. | .linkRetry .. | .linkRetryExhausted .. | .idleFlit .. | .heldRequestRelease ..
  | .gatedReadAnswer .. | .busyResend .. | .forwardQueueTimeout .. | .rtoExpiry .. | .xportProbe .. | .apply ..
  | .selfWrite .. | .drvInjectArm .. | .eyeMeasurement .. | .quadModeWrite .. | .ethPortEnable .. | .ethLinkUp ..
  | .ethLinkDown .. | .txQueueEnable .. | .rxQueueEnable .. | .ethTxFrameStart .. | .ethTxComplete .. | .ethTxLate ..
  | .shaperRefill .. | .rateWrite .. | .stepGo .. | .ovrNext .. | .timeRead .. | .timePllLock .. | .refLost ..
  | .refReturn .. | .synceEnable .. | .synceResume .. | .pulseEnable .. | .pulseFire .. | .pulseEnd ..
  | .pulseDriverFault .. | .pulseDriverRetry .. | .captureEdge .. | .capturePop .. | .coreCfgWrite .. | .bootStart ..
  | .go .. | .bootFetchDone .. | .atsTranslationComplete .. | .atsInvalidate .. | .atsInvalidateDone ..
  | .completionTimeout .. | .functionLevelReset .. | .pcieReset .. | .pcieLinkDown .. | .msixUnmask ..
  | .wardenWake .. | .wclkStop .. | .watchdogExpiry .. | .info .. | .logRead .. | .logExport .. | .keyEnroll ..
  | .keyRevoke .. | .lcAdvance .. | .attest .. | .sensorRead .. | .pmbusXfer .. | .cmisXfer .. | .sealGroupsWrite ..
  | .tamperEvent .. | .tamperTest .. | .wipeComplete .. | .regulatorPoll .. | .smbalert .. | .moduleInsert ..
  | .moduleMonitorRead .. | .wardenRecord .. | .intInjectArm .. | .replayStart .. | .replaySetupDone ..
  | .replayVerdict .. | .quarClear .. | .marginSample .. | .supplyDroop .. | .derateClr .. | .aoPowerUp ..
  | .hollowResetRelease .. | .pwrReq .. | .powerGood .. | .powerGoodTimeout .. | .hubResetRelease ..
  | .pllLockTimeout .. | .pllLoss .. | .capWrite .. | .tclkStepChange .. | .cclkStepWrite .. | .domSwitchWrite ..
  | .groupPowerOff .. | .rstN .. | .partReset .. | .powerOff .. | .supplyLoss .. | .saletPreamble .. | .beacon ..
  | .beaconSend .. | .beaconTimeout .. | .probeSend .. | .saletFrameSend .. | .saletRetryTimeout .. | .lineTest ..
  | .polarityReading .. | .saletTxGo .. | .rxPop .. | .salInjectArm .. | .beaconLost .. | .falseReception ..
  | .pcieLinkUp .. | .configurationSpaceWrite .. | .alwaysOnPowerLoss .. | .ieee11491Instruction .. => true

end Sys2Proof
end

