-- ==== Sys2Proof/Certificates/Slice0/Obligations.lean ====
section
/-! DEFINITION. The statements for the provers, and the words they are written in (namespace Sys2Proof.Spec). -/

open Sys2Proof Sys2Proof.Machine

namespace Sys2Proof.Spec

/-- A requester that acts as the manager of the register window: the host without a PASID while the link is up, or the
warden once the hub runs (R40). -/
def manager (who : Requester) (s : State) : Prop :=
  (∃ rid, who = .pcie rid none ∧ s.flag fLinkUp = true) ∨ (who = .warden ∧ s.flag PWR_STATE_HUB_RUN = true)

/-- Only the registers changed, and of them only those of `keys`. -/
def onlyRegs (keys : List Nat) (s u : State) : Prop := u = { s with regs := u.regs } ∧ sameRegs keys s u

/-- Only tile `t` changed. -/
def onlyTile (t : Nat) (s u : State) : Prop := u = { s with tiles := u.tiles } ∧ ∀ i, i ≠ t → u.tile i = s.tile i

end Sys2Proof.Spec

open Sys2Proof.Spec

/-- For every command c and every state s, one step of s with c put in front of its queue is exec of c on s, whose queue is
the rest: the command leaves the queue and has its effect. The model's own choice (DESIGN CHOICE, log entry 22): where no command waits, a step
answers a next state in which the elapsed time has advanced by one tick, 1.25 ns in units of 2^-32 ns, and the raw counter C by
the same modulo 2^96 if the time PLL has locked; the steps of the corrected time accepted in the tick have moved the offset by their sum and
are taken; where there is none, nothing else changed. -/
def Obligations.StepRunsFrontCommand : Prop :=
  (∀ (c : Instr) (s : State), step { s with pending := c :: s.pending } = exec c s)
  ∧ ∀ s : State, s.pending = [] →
      let c := if s.time.counts then (s.time.raw + 0x140000000) % 2 ^ 96 else s.time.raw
      (s.time.due = 0 → step s = .next { s with raw := s.raw + 0x140000000, time := { s.time with raw := c } })
      ∧ (s.time.due ≠ 0 → ∃ t, step s = .next t ∧ t = { s with raw := s.raw + 0x140000000, time := t.time, cyc := t.cyc }
          ∧ t.time.raw = c ∧ t.time.due = 0 ∧ (t.time.off : Int) = ((s.time.off : Int) + s.time.due) % 2 ^ 96
          ∧ t.time.anchor = s.time.anchor ∧ t.time.counts = s.time.counts)

/-- Every step of every state answers a next state: the model has no fault and no refusal of a command, whatever its
operands. -/
def Obligations.PartNeverStops : Prop := ∀ s : State, safeStep s

/-- Right after reset no command waits, every register reads the reset value of its table, every counter and every requester
shadow is empty, both tiers and every scratchpad read zero everywhere with clean code words, and
the raw counter, the offset and the anchor of the time block are 0 and do not count; register file, counters and tiers are in canonical form. -/
def Obligations.ResetState : Prop :=
  State.reset.pending = [] ∧ (∀ k, State.reset.reg k = resetOf k) ∧ (∀ k, State.reset.ctr k = 0)
  ∧ State.reset.shadows = []
  ∧ (∀ a, State.reset.mem.tierA.byte a = 0 ∧ State.reset.mem.tierA.synAt a = 0)
  ∧ (∀ a, State.reset.mem.tierB.byte a = 0 ∧ State.reset.mem.tierB.synAt a = 0)
  ∧ (∀ t a, (State.reset.tile t).spad.byte a = 0 ∧ (State.reset.tile t).spad.synAt a = 0)
  ∧ State.reset.time.raw = 0 ∧ State.reset.time.off = 0 ∧ State.reset.time.anchor = 0 ∧ State.reset.time.counts = false
  ∧ State.reset.inv ∧ State.reset.tiersCanonical = true

/-- The invariant of the model: register file and counters are in canonical form (keys rise, no entry holds its default, so equal
contents are equal data), and the loader's slice is one of the 64. From every state that meets it, every step, whatever command
stands in front or none, answers a state that meets it. -/
def Obligations.StepKeepsInvariant : Prop := ∀ s t : State, s.inv → step s = .next t → t.inv

/-- For a manager's write or read, of any size, at an offset of the 256 MiB window that lies above the last aperture
(0x0120_0000 and up), the command completes with Unsupported Request and no data, and nothing else changes. -/
def Obligations.OutsideAperturesUnsupported : Prop :=
  ∀ (who : Requester) (off : BitVec 28) (size : BitVec 13) (v : Word) (s : State), manager who s →
    0x1200000 ≤ off.toNat →
    exec (.registerWrite who off size v) s = .next (s.complete who .ur [])
    ∧ exec (.lowWordRead who off size) s = .next (s.complete who .ur [])


/-- PLN_LOAD_LEN stands for the registers without behaviour of their own: all 32 bits RW. A manager's aligned write
completes, stores the value, changes no other register, memory or counter, and a following aligned read of the same offset
returns the four bytes of the value, low byte first, and changes no register. -/
def Obligations.PlainRegisterWriteThenRead : Prop :=
  ∀ (who : Requester) (v : Word) (s : State), manager who s →
    completes (.registerWrite who 0x20C 4 v) s (fun u =>
      u = { s with regs := u.regs, out := .cpl who .ok [] :: s.out } ∧ sameRegs [0x20C] s u ∧ u.reg 0x20C = v
      ∧ exec (.lowWordRead who 0x20C 4) u = .next (u.complete who .ok (natToBytes 4 v.toNat)))

/-- For every register of the table, a write by access codes leaves each of its fields as its code says: an RW field holds
the written bits, an RO, RC, W1S or WO field keeps its bits, a W1C field keeps exactly those of its bits that were written 0,
an RWL field takes the written bits unless it is locked and keeps its own if it is. LOCK_WR of the block's status register is
set exactly if it was or a locked field was written another value, RSVD_WR exactly if it was or a reserved bit was written 1,
and no other register, and nothing but registers, changes. -/
def Obligations.AccessCodesApplied : Prop :=
  ∀ (s : State) (key : Nat) (d : RegDef) (v : Word) (locked : Bool), regFind key regTable = some d →
    let u := s.writeCodes key v locked
    let st := statusOfKey key
    (∀ r ∈ d.rows, ∀ i, i < r.wd →
      (u.reg key).getLsbD (r.lo + i) =
        (match r.acc with
          | .rw => v.getLsbD (r.lo + i)
          | .w1c => (s.reg key).getLsbD (r.lo + i) && !v.getLsbD (r.lo + i)
          | .rwl => if locked then (s.reg key).getLsbD (r.lo + i) else v.getLsbD (r.lo + i)
          | _ => (s.reg key).getLsbD (r.lo + i)))
    ∧ onlyRegs [key, st] s u
    ∧ u.flag (fLockWr st) = (s.flag (fLockWr st) || (locked && lockHit (s.reg key).toNat v.toNat d.rows))
    ∧ u.flag (fRsvdWr st) = (s.flag (fRsvdWr st) || decide (Nat.land v.toNat (2 ^ 32 - 1 - rowsMask d.rows) ≠ 0))

/-- For an aligned offset inside the apertures, outside the slices' doorbell pages, that is neither a block's first two
registers, nor a register, nor a word of a counter: a manager's read returns four zero bytes and changes nothing; a manager's
write completes, sets RSVD_WR of the addressed block's status and changes no other register. With a tile selected whose group is
absent or off, a manager's access to TIL_BIST_CTRL, offset 0x0010_0050, completes normally: a read returns zero bytes, a write is
ignored, and both set PWR_OFF_ACC of the tile's status register and change nothing else.
For a manager's write or read inside the apertures whose size is not four bytes or whose offset is not a multiple of 4,
the command completes with Unsupported Request, sets RSVD_WR of the addressed block's status register, leaves every register
but that status register and everything else of the part unchanged. -/
def Obligations.AccessesRefusedOrIgnored : Prop :=
  ((∀ (who : Requester) (off : BitVec 28) (v : Word) (s : State), manager who s →
    off.toNat < 0x1200000 → off.toNat % 4 = 0 → 8 ≤ off.toNat % 0x100000 →
    ¬ (0xC80000 ≤ off.toNat ∧ off.toNat < 0xCC0000) →
    regFind (s.keyOf off.toNat) regTable = none →
    isCounter (s.keyOf off.toNat) = false → isCounter (s.keyOf off.toNat - 4) = false →
    let k := s.statusOf off.toNat
    exec (.lowWordRead who off 4) s = .next (s.complete who .ok [0, 0, 0, 0])
    ∧ completes (.registerWrite who off 4 v) s (fun u =>
      u = { s with regs := u.regs, out := .cpl who .ok [] :: s.out } ∧ sameRegs [k] s u ∧ u.reg k = s.reg k ||| 1))
  ∧ ∀ (who : Requester) (v : Word) (s : State), manager who s → s.tileReach s.winTile = false →
      let k := tileStatus s.winTile
      completes (.registerWrite who 0x100050 4 v) s (fun u =>
        u = { s with regs := u.regs, out := .cpl who .ok [] :: s.out } ∧ sameRegs [k] s u ∧ u.reg k = s.reg k ||| 8)
      ∧ completes (.lowWordRead who 0x100050 4) s (fun u =>
        u = { s with regs := u.regs, out := .cpl who .ok [0, 0, 0, 0] :: s.out } ∧ sameRegs [k] s u ∧ u.reg k = s.reg k ||| 8))
  ∧ (∀ (who : Requester) (off : BitVec 28) (size : BitVec 13) (v : Word) (s : State), manager who s →
    off.toNat < 0x1200000 → (size.toNat ≠ 4 ∨ off.toNat % 4 ≠ 0) →
    let k := s.statusOf off.toNat
    completes (.registerWrite who off size v) s (fun u =>
      u = { s with regs := u.regs, out := .cpl who .ur [] :: s.out } ∧ sameRegs [k] s u ∧ u.reg k = s.reg k ||| 1)
    ∧ completes (.lowWordRead who off size) s (fun u =>
      u = { s with regs := u.regs, out := .cpl who .ur [] :: s.out } ∧ sameRegs [k] s u ∧ u.reg k = s.reg k ||| 1))

/-- Advancing a counter by n gives the smaller of the sum and 2^48 - 1. CNT_SAT of the counter's block is set when the counter
reaches all-ones by this advance, and otherwise nothing but the counter changes: a counter already at all-ones stays there
and raises nothing again. The command COUNTER_SATURATION, for the low word of any counter of the part, leaves that counter at
all-ones.
A manager's read of the low word of the event counter SLC_UNBOUND returns the counter's low 32 bits and clears the
counter; the same requester's next read of the upper word returns the upper bits the counter held at the low read, in every
later state that has kept the shadows, whatever the counter holds then, and neither clears nor latches anything. Another
requester's shadows are untouched. -/
def Obligations.CounterRules : Prop :=
  ((∀ (s : State) (k n : Nat),
    ((s.count k n).ctr k).toNat = min ((s.ctr k).toNat + n) (2 ^ 48 - 1)
    ∧ sameCtrs [k] s (s.count k n)
    ∧ ((s.ctr k).toNat ≠ 2 ^ 48 - 1 → 2 ^ 48 - 1 ≤ (s.ctr k).toNat + n →
        (s.count k n).flag (fCntSat (statusOfKey k)) = true
        ∧ sameRegs [statusOfKey k] s (s.count k n))
    ∧ ((s.ctr k).toNat = 2 ^ 48 - 1 ∨ (s.ctr k).toNat + n < 2 ^ 48 - 1 → (s.count k n).regs = s.regs)
    ∧ s.count k n = { s with ctrs := (s.count k n).ctrs, regs := (s.count k n).regs })
  ∧ ∀ (key : BitVec 32) (s : State), isCounter key.toNat = true →
      completes (.counterSaturation key) s (fun u => u = s.count key.toNat (2 ^ 48 - 1) ∧ (u.ctr key.toNat).toNat = 2 ^ 48 - 1))
  ∧ ∀ (who : Requester) (s : State), manager who s →
    completes (.lowWordRead who (BitVec.ofNat 28 SLC_UNBOUND) 4) s (fun u =>
      u = { s with ctrs := u.ctrs, shadows := u.shadows,
                   out := .cpl who .ok (natToBytes 4 (s.ctr SLC_UNBOUND).toNat) :: s.out }
      ∧ u.ctr SLC_UNBOUND = 0 ∧ sameCtrs [SLC_UNBOUND] s u
      ∧ (∀ (other : Requester) (k : Nat), other ≠ who → u.shadowOf other k = s.shadowOf other k)
      ∧ ∀ t : State, t.shadows = u.shadows → manager who t →
          exec (.lowWordRead who (BitVec.ofNat 28 (SLC_UNBOUND + 4)) 4) t
            = .next (t.complete who .ok (natToBytes 4 ((s.ctr SLC_UNBOUND).toNat / 2 ^ 32))))

/-- With the link up, a BAR 0 request with a PASID bound to no slice outside FREE completes with Unsupported Request and counts
in SLC_UNBOUND; one bound to a slice but outside that slice's 4 KiB page completes with Unsupported Request and counts in the
slice's SLC_REFUSE; a write or read of four aligned bytes inside the page completes with success, performs the page's write or
returns the page's value, for a read without any other change. The two refusals change no register but, at saturation, the
slices' block status. -/
def Obligations.PasidRequests : Prop :=
  ∀ (rid : BitVec 16) (pasid : BitVec 20) (off : BitVec 28) (size : BitVec 13) (w : Word) (v : Option Word) (s : State),
    s.flag fLinkUp = true →
    let who : Requester := .pcie rid (some pasid)
    (s.pasidSlice pasid.toNat = none →
      completes (.pasidBar0Request rid pasid off size v) s (fun u =>
        u.out = .cpl who .ur [] :: s.out ∧ u.ctr SLC_UNBOUND = (s.count SLC_UNBOUND 1).ctr SLC_UNBOUND
        ∧ sameCtrs [SLC_UNBOUND] s u ∧ sameRegs [0xC00004] s u
        ∧ u = { s with ctrs := u.ctrs, regs := u.regs, out := u.out }))
    ∧ (∀ sl, s.pasidSlice pasid.toNat = some sl →
        (¬ (0xC80000 + 4096 * sl ≤ off.toNat ∧ off.toNat < 0xC80000 + 4096 * sl + 4096) →
          completes (.pasidBar0Request rid pasid off size v) s (fun u =>
            u.out = .cpl who .ur [] :: s.out ∧ u.ctr (SLC_REFUSE sl) = (s.count (SLC_REFUSE sl) 1).ctr (SLC_REFUSE sl)
            ∧ sameCtrs [SLC_REFUSE sl] s u ∧ sameRegs [0xC00004] s u
            ∧ u = { s with ctrs := u.ctrs, regs := u.regs, out := u.out }))
        ∧ (0xC80000 + 4096 * sl ≤ off.toNat → off.toNat < 0xC80000 + 4096 * sl + 4096 → off.toNat % 4 = 0 →
          exec (.pasidBar0Request rid pasid off 4 (some w)) s
            = .next ((s.pageWrite sl (off.toNat % 4096) w.toNat).complete who .ok [])
          ∧ exec (.pasidBar0Request rid pasid off 4 none) s
            = .next (s.complete who .ok (natToBytes 4 (s.pageRead sl (off.toNat % 4096))))))

namespace Sys2Proof.Spec

/-- A vector command `op` on tile `t` writes, in each lane that its mask enables (all lanes without a mask, R566), the value
`f s l a b d` of the lane's operands VA, VB and old VD into VD, and changes nothing else of the part: no other lane, register,
mask, tile, event or counter. -/
def lanewise (op : Fin 1024 → VecSlot → Instr) (f : State → Fin 1024 → VecSlot → Nat → Word → Word → Word → Word) : Prop :=
  ∀ (t : Fin 1024) (v : VecSlot) (s : State), completes (op t v) s (fun u =>
    onlyTile t s u ∧ u.tile t = { s.tile t with vregs := (u.tile t).vregs }
    ∧ ∀ r l, l < 64 → (u.tile t).vreg r l =
        if r = v.vd.toNat ∧ (v.men = true → ((s.tile t).mask v.mreg.toNat).getLsbD l = true) then
          f s t v l ((s.tile t).vreg v.va.toNat l) ((s.tile t).vreg v.vb.toNat l) ((s.tile t).vreg v.vd.toNat l)
        else (s.tile t).vreg r l)

/-- A lanewise command of two operands. -/
def lanes2 (op : Fin 1024 → VecSlot → Instr) (f : Word → Word → Word) : Prop := lanewise op (fun _ _ _ _ a b _ => f a b)
/-- A lanewise command of one operand. -/
def lanes1 (op : Fin 1024 → VecSlot → Instr) (f : Word → Word) : Prop := lanewise op (fun _ _ _ _ a _ _ => f a)

/-- A comparison writes, in mask register VD mod 8, the bit of every enabled lane from the relation of the lane's operands,
keeps the bits of the other lanes, and changes nothing else (R567). -/
def comparison (op : Fin 1024 → VecSlot → Instr) (rel : Word → Word → Bool) : Prop :=
  ∀ (t : Fin 1024) (v : VecSlot) (s : State), completes (op t v) s (fun u =>
    onlyTile t s u ∧ u.tile t = { s.tile t with masks := (u.tile t).masks }
    ∧ ∀ m l, l < 64 → ((u.tile t).mask m).getLsbD l =
        if m = v.vd.toNat % 8 ∧ (v.men = true → ((s.tile t).mask v.mreg.toNat).getLsbD l = true) then
          rel ((s.tile t).vreg v.va.toNat l) ((s.tile t).vreg v.vb.toNat l)
        else ((s.tile t).mask m).getLsbD l)

/-- A reduction of the 64 lanes of VA: the value in lane 0 of VD, the index in lane 1, zero in the other lanes, nothing else
changed (R569). -/
def reduction (op : Fin 1024 → VecSlot → Instr) (val idx : VecSlot → List Word → Word) : Prop :=
  ∀ (t : Fin 1024) (v : VecSlot) (s : State), completes (op t v) s (fun u =>
    onlyTile t s u ∧ u.tile t = { s.tile t with vregs := (u.tile t).vregs }
    ∧ ∀ r l, l < 64 → (u.tile t).vreg r l =
        if r = v.vd.toNat then
          (if l = 0 then val v ((s.tile t).lanes v.va.toNat) else if l = 1 then idx v ((s.tile t).lanes v.va.toNat) else 0)
        else (s.tile t).vreg r l)

/-- One halving stage of R85 on a function of lanes: lane i combines with lane i + n. -/
def stage (f : Word → Word → Word) (n : Nat) (x : Nat → Word) : Nat → Word := fun i => f (x i) (x (i + n))

/-- The six stages of R85. -/
def sixStages (f : Word → Word → Word) (x : Nat → Word) : Word :=
  stage f 1 (stage f 2 (stage f 4 (stage f 8 (stage f 16 (stage f 32 x))))) 0

/-- Lane i of a list of lanes. -/
def laneIn (l : List Word) (i : Nat) : Word := nth 0 l i

end Sys2Proof.Spec

/-- IADD, ISUB, IMUL, IAND, IOR, IXOR, ISHL, ISRA, ISRL (shift amounts modulo 32), IMIN and IMAX (signed), VMOV and SEL (VA where
the mask bit is 1, else VB) complete on every tile and operand: each enabled lane of VD takes the wrapped 32-bit result and
nothing else changes. VNOP changes nothing at all. -/
def Obligations.VectorIntegerLanes : Prop :=
  lanes2 .iadd (fun a b => a + b) ∧ lanes2 .isub (fun a b => a - b) ∧ lanes2 .imul (fun a b => a * b)
  ∧ lanes2 .iand (fun a b => a &&& b) ∧ lanes2 .ior (fun a b => a ||| b) ∧ lanes2 .ixor (fun a b => a ^^^ b)
  ∧ lanes2 .ishl (fun a b => a <<< (b.toNat % 32)) ∧ lanes2 .isra (fun a b => a.sshiftRight (b.toNat % 32))
  ∧ lanes2 .isrl (fun a b => a >>> (b.toNat % 32))
  ∧ lanes2 .imin (fun a b => if a.toInt ≤ b.toInt then a else b) ∧ lanes2 .imax (fun a b => if a.toInt ≤ b.toInt then b else a)
  ∧ lanes1 .vmov (fun a => a)
  ∧ lanewise .sel (fun s t v l a b _ => if ((s.tile t).mask v.mreg.toNat).getLsbD l then a else b)
  ∧ ∀ (t : Fin 1024) (v : VecSlot) (s : State), exec (.vnop t v) s = .next s

/-- FADD, FSUB, FMUL and FFMA (VA × VB + VD) round the exact result of the operands' values once to FP32, to nearest even, a NaN
result being the canonical one; FDIV and FSQRT round the quotient and the root likewise; FMIN and FMAX return the canonical NaN
if an operand is a NaN, else the smaller or larger with −0 below +0; FABS clears and FNEG inverts the sign bit of a value that
is no NaN and returns the canonical NaN for one. Each completes on every operand, writes the enabled lanes of VD and changes
nothing else. -/
def Obligations.VectorFloatLanes : Prop :=
  lanes2 .fadd (fun a b => toFP32 (addVal (ofFP32 a) (ofFP32 b)))
  ∧ lanes2 .fsub (fun a b => toFP32 (addVal (ofFP32 a) (negVal (ofFP32 b))))
  ∧ lanes2 .fmul (fun a b => toFP32 (mulVal (ofFP32 a) (ofFP32 b)))
  ∧ lanewise .ffma (fun _ _ _ _ a b d => toFP32 (addVal (mulVal (ofFP32 a) (ofFP32 b)) (ofFP32 d)))
  ∧ lanes2 .fdiv (fun a b => toFP32 (divVal (ofFP32 a) (ofFP32 b))) ∧ lanes1 .fsqrt (fun a => toFP32 (sqrtVal (ofFP32 a)))
  ∧ lanes2 .fmin (fun a b => if ofFP32 a = .nan ∨ ofFP32 b = .nan then 0x7FC00000
      else if flt a b = true ∨ (feq a b = true ∧ a.getLsbD 31 = true) then a else b)
  ∧ lanes2 .fmax (fun a b => if ofFP32 a = .nan ∨ ofFP32 b = .nan then 0x7FC00000
      else if flt b a = true ∨ (feq a b = true ∧ b.getLsbD 31 = true) then a else b)
  ∧ lanes1 .fabs (fun a => if ofFP32 a = .nan then 0x7FC00000 else a &&& 0x7FFFFFFF)
  ∧ lanes1 .fneg (fun a => if ofFP32 a = .nan then 0x7FC00000 else a ^^^ 0x80000000)

/-- FRCP, FRSQ, FEXP2, FEXP, FLOG2, FLOG, FTANH, FSIGM, FSIN and FCOS complete on every operand and write, in the enabled lanes,
one value for each operand, the same on every tile, slot and state: a NaN gives the canonical NaN; the reciprocals of ±0 are
±∞ and of +∞ +0; the reciprocal square root and the logarithms of a negative finite input are NaN and the logarithms of ±0 −∞;
exp of −∞ is +0 and of +∞ is +∞; tanh of ±∞ is ±1; the sigmoid of −∞ is 0. FSIN and FCOS give NaN for a magnitude above 2^20 and
record CVT_NAN exactly if such a lane is enabled; the other eight record nothing and change nothing else. -/
def Obligations.VectorFunctions : Prop :=
  (∃ rcp rsq e2 e lg2 lg th sg : Word → Word,
    lanes1 .frcp rcp ∧ lanes1 .frsq rsq ∧ lanes1 .fexp2 e2 ∧ lanes1 .fexp e ∧ lanes1 .flog2 lg2 ∧ lanes1 .flog lg
    ∧ lanes1 .ftanh th ∧ lanes1 .fsigm sg
    ∧ (∀ a, ofFP32 a = .nan → rcp a = 0x7FC00000 ∧ rsq a = 0x7FC00000 ∧ e2 a = 0x7FC00000 ∧ e a = 0x7FC00000
        ∧ lg2 a = 0x7FC00000 ∧ lg a = 0x7FC00000 ∧ th a = 0x7FC00000 ∧ sg a = 0x7FC00000)
    ∧ rcp 0 = 0x7F800000 ∧ rcp 0x80000000 = 0xFF800000 ∧ rcp 0x7F800000 = 0 ∧ rsq 0 = 0x7F800000 ∧ rsq 0x80000000 = 0xFF800000
    ∧ rsq 0x7F800000 = 0
    ∧ (∀ a m ex, ofFP32 a = .fin true m ex → m ≠ 0 → rsq a = 0x7FC00000 ∧ lg2 a = 0x7FC00000 ∧ lg a = 0x7FC00000)
    ∧ (∀ n ex a, ofFP32 a = .fin n 0 ex → lg2 a = 0xFF800000 ∧ lg a = 0xFF800000)
    ∧ e2 0xFF800000 = 0 ∧ e 0xFF800000 = 0 ∧ e2 0x7F800000 = 0x7F800000 ∧ e 0x7F800000 = 0x7F800000
    ∧ th 0x7F800000 = 0x3F800000 ∧ th 0xFF800000 = 0xBF800000 ∧ sg 0xFF800000 = 0)
  ∧ ∀ op : Fin 1024 → VecSlot → Instr, op = .fsin ∨ op = .fcos → ∃ f : Word → Word,
      (∀ a, ofFP32 a = .nan ∨ 0x49800000 < a.toNat % 2 ^ 31 → f a = 0x7FC00000)
      ∧ ∀ (t : Fin 1024) (v : VecSlot) (s : State), completes (op t v) s (fun u =>
          (∀ i r l, l < 64 → (u.tile i).vreg r l =
            if i = t.val ∧ r = v.vd.toNat ∧ (s.tile t).laneOn v l = true then f ((s.tile t).vreg v.va.toNat l)
            else (s.tile i).vreg r l)
          ∧ u.mem = s.mem ∧ u.ctrs = s.ctrs ∧ sameRegs [(TIL_ARITH_STATUS_CVT_NAN t).key, tileStatus t] s u
          ∧ u.reg (TIL_ARITH_STATUS_CVT_NAN t).key = s.reg (TIL_ARITH_STATUS_CVT_NAN t).key |||
              (if ∃ l, l < 64 ∧ (s.tile t).laneOn v l = true ∧ isNan32 ((s.tile t).vreg v.va.toNat l) = false
                  ∧ 0x49800000 < ((s.tile t).vreg v.va.toNat l).toNat % 2 ^ 31 then 4 else 0))

/-- FCLT, FCLE and FCEQ are false where an operand is a NaN and treat −0 and +0 as equal; ICLT compares signed and ICEQ compares
for equality. Each completes, writes the bits of the enabled lanes in mask register VD mod 8 and changes nothing else.
RSUM, RMAX and RMIN combine the 64 lanes of VA in six stages, lane i with lane i + 32, 16, 8, 4, 2 and 1, as FP32 (format 1,
each sum rounded once) or as wrapping or signed INT32 (any other format), whatever the mask; the result is in lane 0 of VD and
the other lanes are 0. RMAXI and RMINI also write, in lane 1, the lowest lane that holds the result, or for FP32 with a NaN
result the lowest lane that holds a NaN. All complete and change nothing else. -/
def Obligations.VectorComparisonsAndReductions : Prop :=
  (comparison .fclt flt ∧ comparison .fcle fle ∧ comparison .fceq feq
  ∧ comparison .iclt (fun a b => decide (a.toInt < b.toInt)) ∧ comparison .iceq (fun a b => a == b)
  ∧ (∀ a b : Word, ofFP32 a = .nan ∨ ofFP32 b = .nan → flt a b = false ∧ fle a b = false ∧ feq a b = false)
  ∧ feq 0x80000000 0 = true ∧ flt 0x80000000 0 = false)
  ∧ reduction .rsum (fun v l => sixStages (if v.fmt = 1 then fadd else fun a b => a + b) (laneIn l)) (fun _ _ => 0)
  ∧ reduction .rmax (fun v l => sixStages (if v.fmt = 1 then fmax else imax) (laneIn l)) (fun _ _ => 0)
  ∧ reduction .rmin (fun v l => sixStages (if v.fmt = 1 then fmin else imin) (laneIn l)) (fun _ _ => 0)
  ∧ (∀ op val, (op = Instr.rmaxi ∧ val = (fun (v : VecSlot) l => sixStages (if v.fmt = 1 then fmax else imax) (laneIn l)))
      ∨ (op = Instr.rmini ∧ val = (fun (v : VecSlot) l => sixStages (if v.fmt = 1 then fmin else imin) (laneIn l))) →
    ∃ idx, reduction op val idx
      ∧ ∀ v l k, l.length = 64 → k < 64 →
          (if v.fmt = 1 ∧ isNan32 (val v l) = true then isNan32 (laneIn l k) = true else laneIn l k = val v l) →
          (∀ j, j < k → ¬ (if v.fmt = 1 ∧ isNan32 (val v l) = true then isNan32 (laneIn l j) = true else laneIn l j = val v l)) →
          idx v l = BitVec.ofNat 32 k)

/-- CVT_TO and CVT_TO_T (ternary codes) into a format narrower than 32 bits write the whole of VD with the 64 codes packed from
bit 0, each the value of a lane of VA (FP32, or INT32 where VB is 1) encoded to nearest even or, with VSR and a format of R66,
stochastically with the draw of the tile's conversion number, and record the conversions' events; formats of 32 bits write the
enabled lanes. CVT_FROM and CVT_FROM_T write the enabled lanes with the elements of VA decoded to FP32 or INT32. DQBLK writes the
elements of two blocks of 32 scaled by lanes 0 and 1 of VB. QBLK writes the codes of two quantised blocks and their scales.
PERM writes lane l with the lane of VA its permutation names, ACCRD with an accumulator column. -/
def Obligations.VectorConversions : Prop :=
  lanewise .perm (fun s t v l _ _ _ => (s.tile t).vreg v.va.toNat (permLane (s.tile t).cur v.vb.toNat l))
  ∧ lanewise .accrd (fun s t v l _ _ _ => (s.tile t).cx.accAt l v.va.toNat)
  ∧ lanewise .dqblk (fun s t v l _ _ _ => toFP32 (blockElem v.fmt.toNat (((s.tile t).vreg v.vb.toNat (l / 32)).toNat % 256)
      (packedElem (fmtWidth v.fmt.toNat) ((s.tile t).vbits v.va.toNat) l)))
  ∧ (∀ (tern : Bool) (t : Fin 1024) (v : VecSlot) (s : State),
      let fmt := if tern then 11 else v.fmt.toNat
      let sr := v.vsr && stochFmt fmt
      let c := s.nextConv t sr
      let code := fun l => encodeElem fmt tern (if sr then .stochastic (c.2.draw t c.1 l) else .nearest)
        (if v.vb = 1 then intVal ((s.tile t).vreg v.va.toNat l).toInt else ofFP32 ((s.tile t).vreg v.va.toNat l))
      completes (if tern then .cvtToT t v else .cvtTo t v) s (fun u => ∃ w,
        onlyTile t c.2 w ∧ w.tile t = { c.2.tile t with vregs := (w.tile t).vregs }
        ∧ (fmtWidth fmt = 32 →
            u = w.arith t ((List.range 64).foldl (fun e l => if (s.tile t).laneOn v l then evAdd e (code l).2 else e) 0)
            ∧ ∀ r l, l < 64 → (w.tile t).vreg r l =
              if r = v.vd.toNat ∧ (s.tile t).laneOn v l = true then BitVec.ofNat 32 (code l).1 else (s.tile t).vreg r l)
        ∧ (fmtWidth fmt ≠ 32 →
            u = w.arith t ((List.range 64).foldl (fun e l => evAdd e (code l).2) 0)
            ∧ ∀ r l, l < 64 → (w.tile t).vreg r l = if r = v.vd.toNat then
              BitVec.ofNat 32 (packElems (fmtWidth fmt) ((List.range 64).map (fun i => (code i).1)) / 2 ^ (32 * l))
            else (s.tile t).vreg r l)))
  ∧ (∀ (tern : Bool) (t : Fin 1024) (v : VecSlot) (s : State),
      let fmt := if tern then 11 else v.fmt.toNat
      let elem := fun l => decodeElem fmt tern (if fmtWidth fmt = 32 then ((s.tile t).vreg v.va.toNat l).toNat
        else packedElem (fmtWidth fmt) ((s.tile t).vbits v.va.toNat) l)
      completes (if tern then .cvtFromT t v else .cvtFrom t v) s (fun u => ∃ w, u = w.arith t
          ((List.range 64).foldl (fun e l => if (s.tile t).laneOn v l then evAdd e (elem l).2 else e) 0)
        ∧ onlyTile t s w ∧ w.tile t = { s.tile t with vregs := (w.tile t).vregs }
        ∧ ∀ r l, l < 64 → (w.tile t).vreg r l = if r = v.vd.toNat ∧ (s.tile t).laneOn v l = true then
            (if v.vb = 1 then (match roundInt (elem l).1 with | .inl (some z) => BitVec.ofInt 32 z | _ => 0)
             else toFP32 (elem l).1)
          else (s.tile t).vreg r l))
  ∧ (∀ (t : Fin 1024) (v : VecSlot) (s : State),
      let sr := v.vsr && stochFmt v.fmt.toNat
      let c := s.nextConv t sr
      let q := fun (b : Nat) => quantBlock v.fmt.toNat
        (fun i => if sr then .stochastic (c.2.draw t c.1 (32 * b + i)) else .nearest)
        ((((s.tile t).lanes v.va.toNat).drop (32 * b)).take 32)
      completes (.qblk t v) s (fun u => ∃ w, u = w.arith t (evAdd (q 0).2.2 (q 1).2.2)
        ∧ onlyTile t c.2 w ∧ w.tile t = { c.2.tile t with vregs := (w.tile t).vregs }
        ∧ ∀ r l, l < 64 → (w.tile t).vreg r l =
            if r = v.vb.toNat then (if l = 0 then BitVec.ofNat 32 (q 0).1 else if l = 1 then BitVec.ofNat 32 (q 1).1 else 0)
            else if r = v.vd.toNat then
              BitVec.ofNat 32 (packElems (fmtWidth v.fmt.toNat) ((q 0).2.1 ++ (q 1).2.1) / 2 ^ (32 * l))
            else (s.tile t).vreg r l))

namespace Sys2Proof.Spec

/-- The tile's schedule may reach scratchpad row `row` (R88), no injection is armed, and every code word of the row is clean. -/
def rowClean (s : State) (t : Nat) (row : Nat) : Prop :=
  s.rowOk t (s.tile t).run.radio row = true ∧ s.flag (TIL_INJECT_ARM t) = false
  ∧ ∀ w, w < 16 → (s.tile t).spad.synAt (16 * s.physRow t row + w) = 0

/-- The 256 data bytes of a scratchpad row. -/
def rowBytes (s : State) (t : Nat) (row : Nat) : List Byte := (s.tile t).spad.bytes (256 * s.physRow t row) 256

/-- After the row was written: the tile's scratchpad holds exactly these 256 bytes in it, its code words are clean, and every
other byte and code word is as before. -/
def rowWritten (s u : State) (t row : Nat) (data : Nat → Byte) : Prop :=
  (∀ a, (u.tile t).spad.byte a =
    if 256 * s.physRow t row ≤ a ∧ a < 256 * s.physRow t row + 256 then data (a - 256 * s.physRow t row)
    else (s.tile t).spad.byte a)
  ∧ ∀ w, (u.tile t).spad.synAt w =
    if 16 * s.physRow t row ≤ w ∧ w < 16 * s.physRow t row + 16 then 0 else (s.tile t).spad.synAt w

/-- The lanes of an activation row's codes into the accumulators, one after another (R129, R564); block b of the j-th activation row of operand row
`ROW` has the scale of that block's index in the element array (R48; the model's reading, log entry 14). -/
def actRows (r : BitVec 256) (p : PortSlot) (bits : Nat) (scales : List Byte) (cx : TileCtx) (n : Nat) : TileCtx × Nat :=
  let fa := agFmt r
  let wa := fmtWidth fa.1
  let kk := passK wa (fmtWidth ((cx.wAct.forPass fa).fmt.toNat % 32))
  let step := if kk * wa / 8 ≤ 64 then 64 else 128
  let first := p.row.toNat * (256 / step) * (kk / 32)
  (List.range n).foldl (fun acc j =>
    if p.arg.toNat + j < 64 then
      let out := actRowInto acc.1 fa ((List.range kk).map (fun k => bitField bits (8 * step * j + wa * k) wa))
        (fun b => (nth 0 scales (first % 256 + j * (kk / 32) + b)).toNat) (p.arg.toNat + j) p.clr
      (out.1, evAdd acc.2 out.2)
    else acc) (cx, 0)

end Sys2Proof.Spec

/-- VLD through a defined generator, from a row the schedule may reach whose code words are clean: lane l of vector register
ARG mod 32 takes the little-endian word of bytes 4l to 4l + 3 of the row, and nothing else of the part changes. VST to a row it
may reach: the row holds the lanes' bytes in that order with clean code words, and every other scratchpad byte, every register
and every other tile is as before. VST to a row outside its region writes nothing and fires DET_006. -/
def Obligations.VectorLoadStoreRow : Prop :=
  ∀ (t : Fin 1024) (p : PortSlot) (s : State) (r : BitVec 256) (row : Nat),
    (s.tile t).agOf p = some r → (s.tile t).portRow p r = (row : Int) →
    (rowClean s t row → completes (.vld t p) s (fun u =>
      onlyTile t s u ∧ u.tile t = { s.tile t with vregs := (u.tile t).vregs }
      ∧ ∀ q l, l < 64 → (u.tile t).vreg q l = if q = p.arg.toNat % 32 then
          BitVec.ofNat 32 (bytesToNat (((rowBytes s t row).drop (4 * l)).take 4)) else (s.tile t).vreg q l))
    ∧ (s.rowOk t (s.tile t).run.radio row = true → completes (.vst t p) s (fun u =>
      onlyTile t s u ∧ u.tile t = { s.tile t with spad := (u.tile t).spad }
      ∧ rowWritten s u t row (fun b => BitVec.ofNat 8 (((s.tile t).vreg (p.arg.toNat % 32) (b / 4)).toNat / 256 ^ (b % 4)))))
    ∧ (s.rowOk t (s.tile t).run.radio row = false → exec (.vst t p) s = .next (s.fireTile 6 t 0))

/-- WLD through a defined generator from a clean reachable row, the reading of whose scales, if it has any, corrects and refuses
nothing: if the row follows the last one loaded of a tile of
fewer than 12 rows, its 256 bytes stand behind those in the shadow register, else the register starts again with them at offset
0 and the generator's scales; the register takes the generator's format; the active register, the accumulators, the scratchpad and all else of the part are
as before. -/
def Obligations.WeightLoadRow : Prop :=
  ∀ (t : Fin 1024) (p : PortSlot) (s : State) (r : BitVec 256) (row : Nat),
    (s.tile t).agOf p = some r → (s.tile t).portRow p r = (row : Int) → rowClean s t row → (s.scaleRow t r 0).2 = s →
    let w := (s.tile t).cx.wShd
    let n := if 0 < w.rows ∧ w.rows < 12 ∧ row = w.nextRow then w.rows else 0
    completes (.wld t p) s (fun u =>
      onlyTile t s u ∧ u.tile t = { s.tile t with cx := { (s.tile t).cx with wShd := (u.tile t).cx.wShd } }
      ∧ (u.tile t).cx.wShd.rows = n + 1 ∧ (u.tile t).cx.wShd.nextRow = row + 1
      ∧ (u.tile t).cx.wShd.fmt.toNat = recField r 1 12 7
      ∧ (∀ i, i < 256 * (n + 1) → mapGet (fun _ => 0) (u.tile t).cx.wShd.bytes i =
          (if i < 256 * n then mapGet (fun _ => 0) w.bytes i else (rowBytes s t row).getD (i - 256 * n) 0))
      ∧ ∀ i, i < 128 → mapGet (fun _ => 0) (u.tile t).cx.wShd.scales i =
          (if n = 0 then (s.scaleRow t r 0).1.getD i 0 else mapGet (fun _ => 0) w.scales i))

/-- ACT through a defined generator from a clean reachable row, the reading of whose scales, if it has any, corrects and refuses
nothing: with SWAP the shadow weights become active first; then
the slot's NR + 1 activation rows of the scratchpad row, as many as fit, are added one after another into accumulator rows ARG
and up, each against the active weights with the checksum column beside it (R54, R56, R80); the events of the row are recorded;
the row is staged. Scratchpad, vector and mask registers, mover and every other tile are as before. -/
def Obligations.ActivationRows : Prop :=
  ∀ (t : Fin 1024) (p : PortSlot) (s : State) (r : BitVec 256) (row : Nat),
    (s.tile t).agOf p = some r → (s.tile t).portRow p r = (row : Int) → rowClean s t row →
    let bytes := rowBytes s t row
    let cx := if p.swap then swapWeights (s.tile t).cx else (s.tile t).cx
    let fa := agFmt r
    let kk := passK (fmtWidth fa.1) (fmtWidth ((cx.wAct.forPass fa).fmt.toNat % 32))
    let fit := 256 / (if kk * fmtWidth fa.1 / 8 ≤ 64 then 64 else 128)
    let sc := s.scaleRow t r (p.row.toNat * fit * (kk / 32) / 256)
    sc.2 = s →
    let res := actRows r p (bytesToNat bytes) sc.1 { cx with staging := stageRow cx.staging bytes } (min (p.nr.toNat + 1) fit)
    completes (.act t p) s (fun u =>
      u = (s.setTile t { s.tile t with cx := res.1 }).arith t res.2
      ∧ (u.tile t) = { s.tile t with cx := res.1 } ∧ (∀ i, i ≠ t.val → u.tile i = s.tile i)
      ∧ u.mem = s.mem ∧ sameRegs [(TIL_ARITH_STATUS_INT_WRAP t).key, tileStatus t] s u ∧ u.ctrs = s.ctrs)

/-- DRN without LAST, of a generator of format 1 (every value as accumulated), to a reachable row with no injection armed: the
row holds the 64 accumulators of column ARG mod 32, four bytes each from row 0, with clean code words; accumulators, weights,
checksum state and vector registers are as before and no event is recorded. For formats 2 to 5 the row holds 32 / width
columns' codes packed, rounded to nearest or, with SR for an FP8 format, by the draws of the drain's conversion, and their events
are recorded. A generator of another format moves nothing. With LAST the same is followed by the check of every row (R81). -/
def Obligations.DrainColumns : Prop :=
  ∀ (t : Fin 1024) (p : PortSlot) (s : State) (r : BitVec 256) (row : Nat),
    (s.tile t).agOf p = some r → (s.tile t).portRow p r = (row : Int) →
    s.rowOk t (s.tile t).run.radio row = true → s.flag (TIL_INJECT_ARM t) = false → p.swap = false →
    let fmt := recField r 1 12 5
    let wd := fmtWidth fmt
    let conv := (s.tile t).run.drain.getD (s.tile t).run.conv
    let code := fun c q => encodeElem fmt false
      (if p.sr && decide (4 ≤ fmt) then .stochastic (s.draw t conv (64 * c + q)) else .nearest) (accVal (s.tile t).cx q c)
    let codes := (List.range (32 / wd)).flatMap (fun j => (List.range 64).map (fun q => code ((p.arg.toNat % 32 + j) % 32) q))
    (fmt = 1 → completes (.drn t p) s (fun u =>
      onlyTile t s u ∧ (u.tile t).cx = (s.tile t).cx ∧ (u.tile t).vregs = (s.tile t).vregs
      ∧ rowWritten s u t row (fun b => BitVec.ofNat 8 (((s.tile t).cx.accAt (b / 4) (p.arg.toNat % 32)).toNat / 256 ^ (b % 4)))))
    ∧ (2 ≤ fmt → fmt ≤ 5 → completes (.drn t p) s (fun u =>
      (u.tile t).cx = (s.tile t).cx ∧ (u.tile t).vregs = (s.tile t).vregs ∧ (∀ i, i ≠ t.val → u.tile i = s.tile i)
      ∧ sameRegs [(TIL_ARITH_STATUS_INT_WRAP t).key, tileStatus t] s u
      ∧ u.reg (TIL_ARITH_STATUS_INT_WRAP t).key = s.reg (TIL_ARITH_STATUS_INT_WRAP t).key |||
          BitVec.ofNat 32 (evBits (codes.foldl (fun e c => evAdd e c.2) 0))
      ∧ rowWritten s u t row (fun b => nth 0 (natToBytes 256 (packElems wd (codes.map (fun c => c.1)))) b)))
    ∧ (fmt = 0 ∨ 5 < fmt → exec (.drn t p) s = .next s)
    ∧ ∀ u, 1 ≤ fmt → fmt ≤ 5 → exec (.drn t p) s = .next u → exec (.drn t { p with swap := true }) s
        = .next ((u.onTile t (fun x => { x with run := { x.run with drain := none } })).checkTile t)

/-- MOUT of a clean reachable row on a route of the image to a tile of the same group whose ejection has credit: the row, with no
word marked, joins the end of the destination's ejection buffer under the route's number, and nothing else changes. MIN with a
row of its route waiting takes the oldest one, leaves the other routes' rows in their order, and writes it to the scratchpad row
its generator names; the buffer's row leaves. -/
def Obligations.RouteRows : Prop :=
  (∀ (t : Fin 1024) (p : PortSlot) (s : State) (r : BitVec 256) (row d : Nat) (rt : RouteRec),
    (s.tile t).agOf p = some r → (s.tile t).portRow p r = (row : Int) → rowClean s t row →
    s.routeOut (s.runId t) p.arg.toNat = some rt → rt.dst / 16 = (s.runId t).lgroup →
    s.physTile (s.runId t) (groupOf t) rt.dst = some d → s.moutReady t p = true →
    completes (.mout t p) s (fun u =>
      onlyTile d s u ∧ u.tile d = { s.tile d with ej := (u.tile d).ej }
      ∧ ∃ ws, (u.tile d).ej = (s.tile d).ej ++ [(p.arg.toNat, ws)]
        ∧ wordsData ws = rowBytes s t row ∧ ∀ c ∈ ws, c.marked = false))
  ∧ ∀ (t : Fin 1024) (p : PortSlot) (s : State) (r : BitVec 256) (row : Nat) (pre suf : List (Nat × List CWord)) (ws : List CWord),
    (s.tile t).agOf p = some r → (s.tile t).portRow p r = (row : Int) → s.rowOk t (s.tile t).run.radio row = true →
    (s.tile t).ej = pre ++ (p.arg.toNat, ws) :: suf → (∀ e ∈ pre, e.1 ≠ p.arg.toNat) →
    completes (.min t p) s (fun u =>
      onlyTile t s u ∧ (u.tile t).ej = pre ++ suf
      ∧ u.tile t = { s.tile t with ej := pre ++ suf, spad := (s.tile t).spad.writeWords (16 * s.physRow t row) (ws.take 16) })

/-- LOOP_BEGIN on a tile that enters the bundle by falling through gives the loop COUNT + 1 iterations, the current bundle as its
begin and iteration 0; entered by a taken branch it changes nothing. LOOP_END with more than one iteration left takes the
branch to the begin bundle with one iteration fewer left and the next iteration's index; otherwise the loop ends at 0 and the
schedule falls through to the next bundle. Nothing but the tile's run changes, and no other loop's counters.
TILE_BUNDLE_ISSUE on a tile whose schedule runs, not in a replay: while IDLE cycles are left one of them passes and only that
count changes; with none left and nothing holding the current bundle, the bundle's slots have their effects on the state after
its loop has begun, the entry it releases becomes free, the schedule advances, and the tile's mover and scoreboard registers
follow; while something holds the bundle nothing changes. On a tile whose schedule does not run nothing changes. -/
def Obligations.BundlesAndLoops : Prop :=
  (∀ (t : Fin 1024) (lc : Fin 4) (count : BitVec 16) (s : State),
    let run := fun (x : State) => (x.tile t).run
    let c := mapGet (fun _ => 0) (run s).lc lc
    completes (.loopBegin t lc count) s (fun u =>
      onlyTile t s u ∧ u.tile t = { s.tile t with run := run u }
      ∧ ((run s).branched = true → run u = run s)
      ∧ ((run s).branched = false →
          run u = { run s with lc := (run u).lc, lbegin := (run u).lbegin, liter := (run u).liter }
          ∧ ∀ k, mapGet (fun _ => 0) (run u).lc k = (if k = lc.val then count.toNat + 1 else mapGet (fun _ => 0) (run s).lc k)
            ∧ mapGet (fun _ => 0) (run u).lbegin k = (if k = lc.val then (run s).pc else mapGet (fun _ => 0) (run s).lbegin k)
            ∧ mapGet (fun _ => 0) (run u).liter k = (if k = lc.val then 0 else mapGet (fun _ => 0) (run s).liter k)))
    ∧ completes (.loopEnd t lc) s (fun u =>
      onlyTile t s u ∧ u.tile t = { s.tile t with run := run u }
      ∧ run u = { run s with lc := (run u).lc, liter := (run u).liter, pc := (run u).pc, branched := (run u).branched }
      ∧ (1 < c → (run u).pc = mapGet (fun _ => 0) (run s).lbegin lc ∧ (run u).branched = true)
      ∧ (c ≤ 1 → (run u).pc = (run s).pc + 1 ∧ (run u).branched = false)
      ∧ ∀ k, mapGet (fun _ => 0) (run u).lc k = (if k = lc.val then (if 1 < c then c - 1 else 0) else mapGet (fun _ => 0) (run s).lc k)
        ∧ mapGet (fun _ => 0) (run u).liter k = (if k = lc.val then (if 1 < c then mapGet (fun _ => 0) (run s).liter k + 1 else 0)
            else mapGet (fun _ => 0) (run s).liter k)))
  ∧ (∀ (t : Fin 1024) (s : State) (b : BitVec 128),
    ((s.tile t).run.running = true → 0 < (s.tile t).run.idle → completes (.tileBundleIssue t) s (fun u =>
      onlyTile t s u ∧ u.tile t = { s.tile t with run := { (s.tile t).run with idle := (s.tile t).run.idle - 1 } }))
    ∧ ((s.tile t).run.running = true → (s.tile t).run.idle = 0 → (s.tile t).bundle = some b → s.bundleReady t b = true →
      (s.runId t).replay = false →
      let s2 := if bunField b 3 0 2 = 1 ∨ bunField b 3 0 2 = 3 then
          s.onTile t (loopBegin (bunField b 3 2 2) (bunField b 3 4 16)) else s
      let s3 := s2.bundleSlots t b
      let s4 := if bunField b 2 26 1 = 1 then s3.onTile t (releaseEntry (bunField b 2 20 6)) else s3
      exec (.tileBundleIssue t) s = .next ((s4.onTile t (advance b)).refreshTile t))
    ∧ ((s.tile t).run.running = true → (s.tile t).run.idle = 0 → (s.tile t).bundle = some b → s.bundleReady t b = false →
      exec (.tileBundleIssue t) s = .next s)
    ∧ ((s.tile t).run.running = false → exec (.tileBundleIssue t) s = .next s))

namespace Sys2Proof.Spec

/-- The mover commands and the kinds of operation they issue (R93, R126). -/
def moverCommands : List ((Fin 1024 → MoverRec → Instr) × Nat) :=
  [(.copy, 0), (.tileRd, 1), (.tileWr, 2), (.tierRd, 3), (.tierWr, 4), (.kvRd, 5), (.kvWr, 6), (.fabRd, 7), (.fabWr, 8),
   (.fabRed, 9), (.fabMcast, 10), (.fabAtom, 11), (.fence, 12)]

end Sys2Proof.Spec

/-- COPY, TILE_RD, TILE_WR, TIER_RD, TIER_WR, KV_RD, KV_WR, FAB_RD, FAB_WR, FAB_RED, FAB_MCAST, FAB_ATOM and FENCE, with a free entry
in the range of the running schedule: the lowest-numbered free entry of the range becomes ISSUED with the operation's kind,
scratchpad address, length and the schedule position; the operation, its other fields as given, joins the end of the tile's mover
queue with no request issued; the other entries, the rest of the tile, every other tile and every register but the tile's mover
and scoreboard registers are as before. With no free entry nothing happens: the schedule holds. -/
def Obligations.MoverOperationIssued : Prop :=
  ∀ op k, (op, k) ∈ moverCommands → ∀ (t : Fin 1024) (d : MoverRec) (s : State),
    (∀ e, (s.tile t).freeEntry = some e → completes (op t d) s (fun u =>
      let x := s.tile t
      let y := u.tile t
      let base := if x.run.radio then 48 else 0
      base ≤ e ∧ e < base + x.cur.scb ∧ (∀ j, base ≤ j → j < e → (x.entry j).st ≠ .free) ∧ (x.entry e).st = .free
      ∧ y.entry e = ⟨.issued, k, 0, d.laddr.toNat, d.len.toNat, x.run.issued, 0⟩
      ∧ (∀ j, j ≠ e → y.entry j = x.entry j)
      ∧ (∃ o : MvOp, y.mvq = x.mvq ++ [o] ∧ o.desc = { d with op := BitVec.ofNat 4 k } ∧ o.entry = e ∧ o.next = 0 ∧ o.out = []
          ∧ o.cause = 0 ∧ o.slice = (s.runId t).slice ∧ o.step = (s.runId t).step ∧ o.pos = x.run.issued)
      ∧ y = { x with scb := y.scb, mvq := y.mvq, born := x.born + 1 }
      ∧ u = { s with tiles := u.tiles, regs := u.regs } ∧ (∀ i, i ≠ t.val → u.tile i = s.tile i)
      ∧ sameRegs [(TIL_MOVER_CTX_CTX t).key, (TIL_SCB_STATUS_IN_USE t).key] s u))
    ∧ ((s.tile t).freeEntry = none → exec (op t d) s = .next s)

/-- CONTEXT_TAKE_OP on an IDLE context: of the queued operations of a class the context serves (slice 0 first, then tenants), the
oldest leaves the queue, the context holds it and its scoreboard entry names the context; the order of the others stays.
MOVER_REQUEST_ISSUE: the first context, in round-robin order after the one that issued last, that can issue does: for kinds
inside the part its operation has issued one request more, the request joins the outstanding ones under the number of its unit,
and the turn passes; a fabric kind's unit issues. Where no context can issue nothing changes.
MOVER_REPLY for an outstanding request whose answer is there without error, with no injection armed: for a kind that receives,
the answer's bytes are written at the scratchpad address of the request's part; the request is no longer outstanding, and the
operation's cause becomes data error exactly where a word arrives marked or a merge meets an uncorrectable word. MOVER_OP_DONE
for an operation that has ended (every unit issued and answered; for a FENCE every earlier operation ended): the context is free
and the entry is DONE, or ERROR with the cause. TILE_INCOMING_ACCESS of a TILE_RD inside the group to a tile that is on: the
bytes read from the target's scratchpad answer the request. -/
def Obligations.MoverContextsAndReplies : Prop :=
  ((∀ (t : Fin 1024) (c : Fin 16) (s : State) (o : MvOp) (pre suf : List MvOp) (radio : Bool),
    (s.tile t).ctx c = none → (s.tile t).mvq = pre ++ o :: suf → decide (o.slice = 0) = radio →
    (∀ q ∈ pre, decide (q.slice = 0) ≠ radio) → (s.tile t).ctxServes c radio = true →
    (radio = false → (s.tile t).ctxServes c true = false ∨ ∀ q ∈ pre ++ o :: suf, q.slice ≠ 0) →
    completes (.contextTakeOp t c) s (fun u =>
      (u.tile t).ctx c = some o ∧ (u.tile t).mvq = pre ++ suf
      ∧ (∀ j, j ≠ c.val → (u.tile t).ctx j = (s.tile t).ctx j)
      ∧ (u.tile t).entry o.entry = { (s.tile t).entry o.entry with ctx := c.val }
      ∧ (∀ j, j ≠ o.entry → (u.tile t).entry j = (s.tile t).entry j)
      ∧ u.tile t = { s.tile t with ctxs := (u.tile t).ctxs, mvq := pre ++ suf, scb := (u.tile t).scb }
      ∧ (∀ i, i ≠ t.val → u.tile i = s.tile i)
      ∧ sameRegs [(TIL_MOVER_CTX_CTX t).key, (TIL_SCB_STATUS_IN_USE t).key] s u))
  ∧ ∀ (t : Fin 1024) (s : State),
      (∀ c o, (s.tile t).ctxOrder.find? (fun c => s.canIssue t c) = some c → (s.tile t).ctx c = some o →
        (o.desc.op.toNat < 7 → completes (.moverRequestIssue t) s (fun u =>
          (u.tile t).lastCtx = c ∧ (∃ p q, (u.tile t).ctx c = some p ∧ p.next = o.next + 1 ∧ p.out = o.out ++ [q] ∧ q.idx = o.next
            ∧ p.desc = o.desc ∧ p.entry = o.entry)
          ∧ ∀ j, j ≠ c → (u.tile t).ctx j = (s.tile t).ctx j))
        ∧ (7 ≤ o.desc.op.toNat → exec (.moverRequestIssue t) s
            = .next (((s.fabIssue t c o).onTile t (fun x => { x with lastCtx := c })).refreshTile t)))
      ∧ ((s.tile t).ctxOrder.find? (fun c => s.canIssue t c) = none → exec (.moverRequestIssue t) s = .next s))
  ∧ ((∀ (t : Fin 1024) (c k : Fin 16) (s : State) (o : MvOp) (q : MvReq) (data : List MByte),
    s.reqAt t c k = some (o, q) → q.reply = some (data, causeNone) → s.flag (TIL_INJECT_ARM t) = false →
    let wr := if opReceives o.desc.op.toNat then
        s.spadWrite t (decide (o.slice = 0)) (o.desc.laddr.toNat + q.off) (data.take q.len) else (false, s)
    completes (.moverReply t c k) s (fun u =>
      (u.tile t).spad = (wr.2.tile t).spad
      ∧ (u.tile t).ctx c = some { o with
          out := o.out.eraseIdx k
          cause := if o.cause = 0 then (if wr.1 || markedM data then causeData else causeNone) else o.cause }
      ∧ (∀ j, j ≠ c.val → (u.tile t).ctx j = (s.tile t).ctx j) ∧ ∀ i, i ≠ t.val → u.tile i = s.tile i))
  ∧ (∀ (t : Fin 1024) (c : Fin 16) (s : State) (o : MvOp), (s.tile t).ctx c = some o → (s.tile t).opEnded c = true →
      o.dead = false → o.cause = 0 → completes (.moverOpDone t c) s (fun u =>
        (u.tile t).ctx c = none ∧ (u.tile t).entry o.entry = { (s.tile t).entry o.entry with st := .done, cause := 0 }
        ∧ (∀ j, j ≠ o.entry → (u.tile t).entry j = (s.tile t).entry j)
        ∧ (∀ j, j ≠ c.val → (u.tile t).ctx j = (s.tile t).ctx j)
        ∧ u.tile t = { s.tile t with ctxs := (u.tile t).ctxs, scb := (u.tile t).scb }))
  ∧ (∀ (t : Fin 1024) (c : Fin 16) (s : State) (o : MvOp), (s.tile t).ctx c = some o → (s.tile t).opEnded c = true →
      o.dead = false → o.cause ≠ 0 → ∃ w : State, exec (.moverOpDone t c) s = .next (w.errorEffect t (s.opId t o) o.pos o.cause)
        ∧ (w.tile t).ctx c = none ∧ ((w.tile t).entry o.entry).st = .error ∧ ((w.tile t).entry o.entry).cause = o.cause)
  ∧ ∀ (t : Fin 1024) (c k : Fin 16) (s : State) (o : MvOp) (q : MvReq) (d : Nat),
      s.reqAt t c k = some (o, q) → q.reply = none → o.desc.op = 1 → recRtile o.desc / 16 = (s.opId t o).lgroup →
      s.physTile (s.opId t o) (groupOf t) (recRtile o.desc) = some d → s.groupOn (groupOf d) = true →
      let r := s.spadRead d (decide (o.slice = 0)) q.addr q.len
      exec (.tileIncomingAccess t c k) s = .next (r.2.post t c q.idx r.1 causeNone))

/-- With the selected tile present and on: HW_CLR sets the high-water mark to the entries in use; TIL_BIST_RESTART sets the next
chunk to 0; TILE_INJECT_ARM takes point and bit and arms where bit 31 is 1. REPAIR_MAP_WRITE of a present tile in mode OFF or
IDLE takes the entry and sets the free spares to 16 less the valid entries; in another mode it only notes LOCK_WR, and RSVD_WR where it
sets reserved bits. Each changes
no other register. RADIO_GROUPS_WRITE while slice 0 is FREE, where every changed group is held by no slice and every newly marked
one present, gives each of the 32 groups the written mark and leaves the other half's marks; while slice 0 exists it changes no
mark. SPAD_BIST_CHUNK of a powered tile with the test on and no failing row: the next chunk's 256 code words are replaced by
what a correcting read of them delivers, each corrected word is counted, the test buffer is empty, and the order goes on, after chunk 192 at 0 with PASS_DONE. -/
def Obligations.TileWindowCommands : Prop :=
  (∀ (s : State), s.tileReach s.winTile = true →
    completes .hwClr s (fun u => onlyRegs [(TIL_SCB_STATUS_HW_CLR s.winTile).key] s u
      ∧ u.get (TIL_SCB_STATUS_HIGH_WATER s.winTile) = s.get (TIL_SCB_STATUS_IN_USE s.winTile)
      ∧ u.get (TIL_SCB_STATUS_IN_USE s.winTile) = s.get (TIL_SCB_STATUS_IN_USE s.winTile))
    ∧ completes .tilBistRestart s (fun u => onlyRegs [(TIL_BIST_STATUS_CHUNK s.winTile).key] s u
      ∧ u.get (TIL_BIST_STATUS_CHUNK s.winTile) = 0)
    ∧ ∀ v : Word, completes (.tileInjectArm v) s (fun u => onlyRegs [(TIL_INJECT_ARM s.winTile).key, tileStatus s.winTile] s u
      ∧ u.get (TIL_INJECT_POINT s.winTile) = bitField v.toNat (TIL_INJECT_POINT 0).lo (TIL_INJECT_POINT 0).wd
      ∧ u.get (TIL_INJECT_BIT s.winTile) = bitField v.toNat (TIL_INJECT_BIT 0).lo (TIL_INJECT_BIT 0).wd
      ∧ u.flag (TIL_INJECT_ARM s.winTile) = (s.flag (TIL_INJECT_ARM s.winTile) || v.getLsbD 31)))
  ∧ (∀ (n : Fin 16) (v : Word) (s : State), s.present (groupOf s.winTile) = true →
      (s.get (TIL_STATE_MODE s.winTile) = 0 ∨ s.get (TIL_STATE_MODE s.winTile) = 1 →
        completes (.repairMapWrite n v) s (fun u =>
          onlyRegs [(TIL_REPAIR_MAP_ROW s.winTile n).key, (TIL_BIST_STATUS_SPARES_FREE s.winTile).key, tileStatus s.winTile] s u
          ∧ u.get (TIL_REPAIR_MAP_ROW s.winTile n) = bitField v.toNat (TIL_REPAIR_MAP_ROW 0 0).lo (TIL_REPAIR_MAP_ROW 0 0).wd
          ∧ u.get (TIL_REPAIR_MAP_VALID s.winTile n) = bitField v.toNat (TIL_REPAIR_MAP_VALID 0 0).lo 1
          ∧ u.get (TIL_BIST_STATUS_SPARES_FREE s.winTile)
            = 16 - ((List.range 16).filter (fun j => u.flag (TIL_REPAIR_MAP_VALID s.winTile j))).length))
      ∧ (s.get (TIL_STATE_MODE s.winTile) ≠ 0 → s.get (TIL_STATE_MODE s.winTile) ≠ 1 →
        completes (.repairMapWrite n v) s (fun u => onlyRegs [tileStatus s.winTile] s u
          ∧ u.reg (tileStatus s.winTile) = s.reg (tileStatus s.winTile) ||| (if v.toNat / 4096 % 2 ^ 19 = 0 then 2 else 3))))
  ∧ (∀ (hi : Bool) (v : Word) (s : State), let base := if hi then 32 else 0
      (s.taken 0 = false → (∀ i, i < 32 → v.getLsbD i ≠ s.marked (base + i) →
          s.holder (base + i) = none ∧ (v.getLsbD i = true → s.present (base + i) = true)) →
        completes (.radioGroupsWrite hi v) s (fun u => u = { s with regs := u.regs }
          ∧ (∀ i, i < 32 → u.marked (base + i) = v.getLsbD i) ∧ ∀ i, i < 32 → u.marked (32 - base + i) = s.marked (32 - base + i)))
      ∧ (s.taken 0 = true → completes (.radioGroupsWrite hi v) s (fun u => onlyRegs [0x4] s u)))
  ∧ ∀ (t : Fin 1024) (s : State), s.groupOn (groupOf t) = true → s.flag (TIL_BIST_CTRL_BG_EN t) = true →
      let c := s.nextChunk t
      let n := s.get (TIL_BIST_STATUS_CHUNK t)
      let m := (s.tile t).spad
      let clean := ∀ w, 256 * c ≤ w → w < 256 * c + 256 → m.synAt w = 0
      completes (.spadBistChunk t 0) s (fun u => ∃ q,
        u.tile t = { s.tile t with spad := m.writeWords (256 * c) (m.readWords (256 * c) 256), testBuf := memEmpty, chunkQ := q }
        ∧ (∀ i, i ≠ t.val → u.tile i = s.tile i)
        ∧ u.ctr (TIL_SPAD_CE t) = (s.count (TIL_SPAD_CE t) (m.corrected (256 * c) 256)).ctr (TIL_SPAD_CE t)
        ∧ ((s.tile t).chunkQ = [] → n < 192 → u.get (TIL_BIST_STATUS_CHUNK t) = n + 1)
        ∧ ((s.tile t).chunkQ = [] → n = 192 → u.get (TIL_BIST_STATUS_CHUNK t) = 0 ∧ u.get (TIL_BIST_STATUS_PASS_DONE t) = 1)
        ∧ (clean → q = (s.tile t).chunkQ.drop 1 ∧ sameRegs [(TIL_BIST_STATUS_CHUNK t).key] s u ∧ u.ctrs = s.ctrs)
        ∧ (clean → (s.tile t).chunkQ ≠ [] → u.regs = s.regs))

/-- LOAD_START with no load in progress and a valid source space begins FETCH for the slice of PLN_LOAD_SRC and clears the last
load's error; one in progress notes BUSY alone. LOAD_FETCH_DONE in FETCH with an image that the source gives, the quota holds and
CHECK accepts goes on by the signature policy with the image stored; an image that is not there fails with FETCH. SIGNATURE_ANSWER
while the signature is awaited goes on to VALIDATE or fails with SIG_BAD; SIG_TIMEOUT then fails with SIG_TIMEOUT. LOAD_WRITE_DONE
of a full image in WRITE with no error, no quarantined target and AUTO_ACT 0 ends in LOADED: the slice has the image and reports
it. LOAD_ABORT of a load in progress fails with ABORTED. LOAD_ACT of a LOADED image makes it ACTIVE with step 0 next. UNLOAD of a
LOADED image, or of one ACTIVE whose slice is stopped or faulted, leaves the slice without an image; otherwise, without an image
too, it notes UNLOAD_REF alone. PARTIAL_RELOAD_SWITCH where the WRITE of a partial reload may run (its slice held or stopped at a
step boundary, none of its groups lent, being saved or away) without error makes the new generation current, and a held slice goes
on; where it may not run it changes nothing. (`State.inv`, which every step keeps, rules out a loader whose slice number is 64 or more.) -/
def Obligations.ImageLoadStages : Prop :=
  (∀ s : State, (s.loading = false → s.get PLN_LOAD_SRC_SPACE ≠ 3 → completes .loadStart s (fun u =>
      u.get PLN_LOAD_STATUS_STAGE = 1 ∧ u.get PLN_LOAD_STATUS_ERR = 0 ∧ u.get PLN_LOAD_STATUS_ERR_SECT = 0
      ∧ u.get PLN_LOAD_DETAIL_INDEX = 0 ∧ u.loader.slice = s.get PLN_LOAD_SRC_SLICE
      ∧ u = { s with regs := u.regs, loader := u.loader }
      ∧ sameRegs [PLN_LOAD_STATUS_STAGE.key, PLN_LOAD_DETAIL_INDEX.key] s u))
    ∧ (s.loading = true → completes .loadStart s (fun u => onlyRegs [PLN_LOAD_STATUS_BUSY.key] s u ∧ u.get PLN_LOAD_STATUS_BUSY = 1)))
  ∧ (∀ (ok : Bool) (host : List Byte) (s : State), s.get PLN_LOAD_STATUS_STAGE = 1 → s.tiersOpen = true →
      (∀ img, (s.loadSource ok host).1 = some img → img.length ≤ s.winCount s.loader.slice .img * 2 ^ 28 →
        checkImage img (s.get PLN_LOAD_LEN_LEN) = none → ∃ w : State, exec (.loadFetchDone ok host) s = .next (w.loadPolicy img)
          ∧ w.loader.bytes = img ∧ w.get PLN_LOAD_STATUS_STAGE = 2)
      ∧ ((s.loadSource ok host).1 = none → completes (.loadFetchDone ok host) s (fun u =>
          u.get PLN_LOAD_STATUS_STAGE = 7 ∧ u.get PLN_LOAD_STATUS_ERR = 1)))
  ∧ (∀ s : State, s.loader.waitSig = true →
      (∃ w : State, exec (.signatureAnswer true) s = .next w.loadValidate ∧ w = { s with loader := { s.loader with waitSig := false } })
      ∧ completes (.signatureAnswer false) s (fun u => u.get PLN_LOAD_STATUS_STAGE = 7 ∧ u.get PLN_LOAD_STATUS_ERR = 0x0B
        ∧ u.loader.waitSig = false)
      ∧ completes .sigTimeout s (fun u => u.get PLN_LOAD_STATUS_STAGE = 7 ∧ u.get PLN_LOAD_STATUS_ERR = 0x0D ∧ u.loader.waitSig = false))
  ∧ (∀ s : State, s.inv → s.get PLN_LOAD_STATUS_STAGE = 4 → hPartial s.loader.bytes = false →
      (∀ q ∈ s.loadTargets, s.quarantined q.2 = false) → s.flag PLN_LOAD_CTRL_AUTO_ACT = false →
      completes (.loadWriteDone true) s (fun u => u.get PLN_LOAD_STATUS_STAGE = 5 ∧ (u.slice s.loader.slice).image = some s.loadImage
        ∧ u.get (PLN_SLICE_IMG_STATE s.loader.slice) = 1 ∧ u.get (PLN_SLICE_IMG_GEN s.loader.slice) = s.loadImage.gen % 256))
  ∧ (∀ s : State, s.inv → s.loading = true → completes .loadAbort s (fun u => u.get PLN_LOAD_STATUS_STAGE = 7 ∧ u.get PLN_LOAD_STATUS_ERR = 0x21))
  ∧ (∀ s : State, let sl := s.get PLN_LOAD_SRC_SLICE
      (s.get (PLN_SLICE_IMG_STATE sl) = 1 → (s.slice sl).image ≠ none → completes .loadAct s (fun u =>
        u.get (PLN_SLICE_IMG_STATE sl) = 2 ∧ (u.slice sl).steps = [] ∧ (u.slice sl).nextRelease = 0
        ∧ u.get64 (DSP_SLC_STEP_LO_STEP sl) (DSP_SLC_STEP_HI_STEP sl) = 0))
      ∧ (s.get (PLN_SLICE_IMG_STATE sl) = 1 ∨ (s.get (PLN_SLICE_IMG_STATE sl) = 2
            ∧ (s.get (DSP_SLC_STATE_STATE sl) = 0 ∨ s.get (DSP_SLC_STATE_STATE sl) = 7)) →
          completes .unload s (fun u => u.get (PLN_SLICE_IMG_STATE sl) = 0 ∧ (u.slice sl).image = none))
      ∧ (s.get (PLN_SLICE_IMG_STATE sl) = 2 → s.get (DSP_SLC_STATE_STATE sl) ≠ 0 → s.get (DSP_SLC_STATE_STATE sl) ≠ 7 →
          completes .unload s (fun u => onlyRegs [PLN_LOAD_STATUS_UNLOAD_REF.key] s u ∧ u.get PLN_LOAD_STATUS_UNLOAD_REF = 1))
      ∧ (s.get (PLN_SLICE_IMG_STATE sl) = 0 → (s.slice sl).image = none →
          completes .unload s (fun u => onlyRegs [PLN_LOAD_STATUS_UNLOAD_REF.key] s u ∧ u.get PLN_LOAD_STATUS_UNLOAD_REF = 1)))
  ∧ (∀ (ok : Bool) (s : State), s.writeOpen = false → exec (.partialReloadSwitch ok) s = .next s)
  ∧ ∀ (s : State) (old : Image), s.inv → s.writeOpen = true → (s.slice s.loader.slice).image = some old →
      (∀ q ∈ s.loadTargets, s.quarantined q.2 = false) → completes (.partialReloadSwitch true) s (fun u =>
        u.get PLN_LOAD_STATUS_STAGE = 6 ∧ u.get (PLN_SLICE_IMG_STATE s.loader.slice) = 2
        ∧ (u.slice s.loader.slice).image = some (mergeImage old s.loadImage)
        ∧ u.get (PLN_SLICE_IMG_GEN s.loader.slice) = (mergeImage old s.loadImage).gen % 256
        ∧ (s.get (DSP_SLC_STATE_STATE s.loader.slice) = 4 →
            u.get (DSP_SLC_STATE_STATE s.loader.slice) = s.get (DSP_SLC_CTRL_RUN s.loader.slice)))

/-- For a slice outside FREE: RUN written 1 in STOPPED with an active image goes to READY, or to HELD where a partial reload waits to
write and no step is left; written 0 in FAULTED, or in READY with no step left, it goes to STOPPED, and the stream commands that
waited are applied; in RUNNING, COMMITTING, STOPPED and HELD, and in READY with a step left, a 0 changes only the bit. RETRY in FAULTED
with RUN 1, no reload that waits and no stream command that waits goes to READY and changes only the state; stream commands that wait
are applied before it. CREDIT_WRITE stores the credit. For a FREE slice, a RUN of 1, a RETRY, and a CREDIT_WRITE of a credit that is not
0 change nothing but LOCK_WR, and RSVD_WR where the write sets reserved bits. PROGRESS_TIMER_EXPIRY of a slice RUNNING or COMMITTING whose groups are all at work goes to STALLED,
remembers the state, and sets STEP_TIMEOUT; in any other state it changes nothing. -/
def Obligations.DispatcherControls : Prop :=
  ∀ (sl : Fin 64) (s : State),
    (s.taken sl = true →
      (s.get (DSP_SLC_STATE_STATE sl) = 0 → s.get (PLN_SLICE_IMG_STATE sl) = 2 → completes (.run sl true) s (fun u =>
        onlyRegs [(DSP_SLC_CTRL_RUN sl).key, (DSP_SLC_STATE_STATE sl).key] s u ∧ u.get (DSP_SLC_CTRL_RUN sl) = 1
        ∧ (s.holdFor sl = false → u.get (DSP_SLC_STATE_STATE sl) = 1)
        ∧ (s.holdFor sl = true → (s.slice sl).steps = [] → (s.slice sl).rerun = 0 → s.flag (DSP_SLC_SAVE_SAVE_PEND sl) = false →
            u.get (DSP_SLC_STATE_STATE sl) = 4)))
      ∧ (s.get (DSP_SLC_STATE_STATE sl) = 7 ∨ (s.get (DSP_SLC_STATE_STATE sl) = 1 ∧ (s.slice sl).steps = []) → completes (.run sl false) s (fun u =>
        ∃ w : State, u = w.cmdDrain sl ∧ w.get (DSP_SLC_CTRL_RUN sl) = 0 ∧ w.get (DSP_SLC_STATE_STATE sl) = 0
          ∧ (w.stream sl).waiting = (s.stream sl).waiting ∧ ((s.stream sl).waiting = [] → u = w)))
      ∧ (s.get (DSP_SLC_STATE_STATE sl) ∈ [0, 2, 3, 4] ∨ (s.get (DSP_SLC_STATE_STATE sl) = 1 ∧ (s.slice sl).steps ≠ []) → completes (.run sl false) s (fun u =>
        onlyRegs [(DSP_SLC_CTRL_RUN sl).key] s u ∧ u.get (DSP_SLC_CTRL_RUN sl) = 0))
      ∧ (s.get (DSP_SLC_STATE_STATE sl) = 7 → s.get (DSP_SLC_CTRL_RUN sl) = 1 → s.holdFor sl = false → (s.stream sl).waiting = [] →
        completes (.retry sl) s (fun u => onlyRegs [(DSP_SLC_STATE_STATE sl).key] s u ∧ u.get (DSP_SLC_STATE_STATE sl) = 1))
      ∧ (s.get (DSP_SLC_STATE_STATE sl) = 7 → (s.stream sl).waiting ≠ [] → exec (.retry sl) s = .next ((s.cmdDrain sl).dspRestart sl))
      ∧ ∀ v : Word, completes (.creditWrite sl v) s (fun u => onlyRegs [(DSP_SLC_CREDIT_CREDIT sl).key, 0x200004] s u
        ∧ u.get (DSP_SLC_CREDIT_CREDIT sl) = v.toNat % 65536))
    ∧ (s.taken sl = false → ∀ v : Word, v.toNat % 65536 ≠ 0 → ∀ c ∈ [(Instr.run sl true, (2 : Word)), (.retry sl, 2),
          (.creditWrite sl v, if v.toNat < 65536 then 2 else 3)],
        completes c.1 s (fun u => onlyRegs [0x200004] s u ∧ u.reg 0x200004 = s.reg 0x200004 ||| c.2))
    ∧ (s.get (DSP_SLC_STATE_STATE sl) = 2 ∨ s.get (DSP_SLC_STATE_STATE sl) = 3 →
        (∀ g ∈ s.sliceGroups sl, s.get (DSP_GRP_STATE_STATE g) ∉ [4, 5, 7]) →
        completes (.progressTimerExpiry sl) s (fun u => u.get (DSP_SLC_STATE_STATE sl) = 6
          ∧ (u.slice sl).stallSt = s.get (DSP_SLC_STATE_STATE sl) ∧ u.get (DSP_SLC_EVENT_STEP_TIMEOUT sl) = 1))
    ∧ (s.get (DSP_SLC_STATE_STATE sl) ≠ 2 → s.get (DSP_SLC_STATE_STATE sl) ≠ 3 → exec (.progressTimerExpiry sl) s = .next s)

/-- STEP_RELEASE of a slice that may release, its stream engine off: one more step stands uncommitted, the next number of the
slice, the slice is RUNNING, a release that is neither a rerun nor continuous uses one credit, and the number to release next
advances. SELECTOR_RESOLVE of a selector whose source is there: the oldest step that had not resolved it has, and for a selector
of its own step the variant slots it fills hold the table's values for its lanes. STEP_END of a tenant slice when decode operands,
selectors and groups are done: the oldest running step has ended. STEP_COMMIT when the oldest step has ended and is judged, the
commit group is ready, no deferred line of the slice waits and the slice is not preempted: the step commits and the step register holds the number after it. -/
def Obligations.StepLife : Prop :=
  (∀ (sl : Fin 64) (cons : Word) (s : State) (im : Image), (s.slice sl).image = some im → s.mayRelease sl = true →
    s.flag (STM_SLC_CTRL_ENABLE sl) = false → completes (.stepRelease sl cons) s (fun u =>
      (∃ r, (u.slice sl).steps = (s.slice sl).steps ++ [r] ∧ r.num = (s.slice sl).nextRelease)
      ∧ (u.slice sl).nextRelease = ((s.slice sl).nextRelease + 1) % 2 ^ 64
      ∧ u.get (DSP_SLC_STATE_STATE sl) = 2
      ∧ u.get (DSP_SLC_CREDIT_CREDIT sl) = (if 0 < (s.slice sl).rerun ∨ s.flag (DSP_SLC_CTRL_CONT sl) = true
          then s.get (DSP_SLC_CREDIT_CREDIT sl) else s.get (DSP_SLC_CREDIT_CREDIT sl) - 1)
      ∧ u.mem = s.mem ∧ u.tiles = s.tiles))
  ∧ (∀ (sl i : Fin 64) (s : State) (im : Image) (q : SelRec) (r : StepRt) (vs : List Nat), (s.slice sl).image = some im →
    im.sels[i.val]? = some q → (s.slice sl).steps.find? (fun r => !r.resolved.contains i.val) = some r →
    s.selValues sl im r i q = some vs → completes (.selectorResolve sl i) s (fun u =>
      ∃ p ∈ (u.slice sl).steps, p.num = r.num ∧ p.resolved = r.resolved ++ [i.val]
        ∧ (q.next = false → ∀ j, j < vs.length → mapGet (fun _ => 0) p.var (q.firstSlot + j)
            = nth 0 im.vt (q.vtOff + min (q.index (nth 0 vs j)) (q.vtLen - 1)) % 1024 + 1)))
  ∧ (∀ (sl : Fin 64) (s : State) (im : Image) (r : StepRt), sl ≠ 0 → (s.slice sl).image = some im →
    (s.slice sl).steps.find? (fun r => !r.ended) = some r → r.decodeLeft = [] → r.resolved.length = im.sels.length →
    (∀ g ∈ s.sliceGroups sl, s.groupDone sl r.num g = true) →
    completes (.stepEnd sl) s (fun u => ∃ p ∈ (u.slice sl).steps, p.num = r.num ∧ p.ended = true))
  ∧ ∀ (sl : Fin 64) (s : State) (r : StepRt) (rest : List StepRt), (s.slice sl).steps = r :: rest → r.ended = true → r.judged = true →
      (s.get (DSP_SLC_CTRL_COMMIT_MGROUP sl) = 0 ∨ ∀ d ∈ s.commitGroup sl, d ≠ s.self → d ∈ r.ready) →
      s.get (DSP_SLC_STATE_STATE sl) ≠ 5 → (∀ l ∈ s.drv.defq, l.slice ≠ sl) → completes (.stepCommit sl) s (fun u => u = s.stepCommitNow sl r
        ∧ u.get64 (DSP_SLC_STEP_LO_STEP sl) (DSP_SLC_STEP_HI_STEP sl) = (r.num + 1) % 2 ^ 64)

/-- SEGMENT_BEGIN where the group's next segment has its variant and may begin and no resume prologue is due: all 16 tiles run the
directory's body for that segment and variant, from its first bundle, with no loop counters and no vector or mask registers of an
earlier body, in the schedule's own store; the group stands in the segment and, unless it is lent to the radio, in RUN. SEGMENT_END once all 16 tiles have retired
the segment's end: the group runs nothing and stands after the segment, or after its last one before segment 0 of the next step,
and at a BOUNDARY unless it is lent. -/
def Obligations.SegmentsBeginAndEnd : Prop :=
  (∀ (g : Fin 64) (radio : Bool) (s : State) (c : SegCtx) (im : Image) (r : StepRt) (k : Nat) (sg : SegRec) (v : Nat),
    s.segCtx g radio = some c → (s.slice c.slice).image = some im →
    (s.slice c.slice).steps.find? (fun r => decide (r.num = c.step)) = some r →
    k = (if c.begun then c.seg + 1 else 0) → im.segs[k]? = some sg →
    v = (if sg.slot = 0xFF then 1 else mapGet (fun _ => 0) r.var sg.slot) → v ≠ 0 → c.running = false →
    s.segOpen g radio c = true → (s.group g).resume = false →
    completes (.segmentBegin g radio) s (fun u =>
      (∀ t ∈ groupTiles g,
        let st := if radio then (s.tile t).rstore else (s.tile t).store
        (u.tile t).run.running = true ∧ (u.tile t).run.radio = radio ∧ (u.tile t).run.pc = nth 0 st.dir (sg.dirBase + (v - 1))
        ∧ (u.tile t).run.lc = [] ∧ (u.tile t).run.idle = 0 ∧ (u.tile t).vregs = [] ∧ (u.tile t).masks = [])
      ∧ u.get (DSP_GRP_STATE_SEG g) = k % 4096
      ∧ (radio = true → (u.group g).rseg = k ∧ (u.group g).rrunning = true ∧ (u.group g).rbegun = true)
      ∧ (radio = false → (u.group g).seg = k ∧ (u.group g).running = true ∧ (u.group g).begun = true
          ∧ u.get (DSP_GRP_STATE_STATE g) = 2)))
  ∧ ∀ (g : Fin 64) (radio : Bool) (s : State) (c : SegCtx) (im : Image) (sg : SegRec),
      s.segCtx g radio = some c → c.running = true → (∀ t ∈ groupTiles g, (s.tile t).run.ended = true) →
      (s.slice c.slice).image = some im → im.segs[c.seg]? = some sg → (radio = true ∨ (s.group g).prologue = false) →
      completes (.segmentEnd g radio) s (fun u =>
        (radio = true → (u.group g).rrunning = false
          ∧ (u.group g).rstep = (if sg.last then stepNext c.step else c.step) ∧ (u.group g).rseg = (if sg.last then 0 else c.seg)
          ∧ (u.group g).rbegun = !sg.last)
        ∧ (radio = false → (u.group g).running = false
          ∧ (u.group g).step = (if sg.last then stepNext c.step else c.step) ∧ (u.group g).seg = (if sg.last then 0 else c.seg)
          ∧ (u.group g).begun = !sg.last)
        ∧ (¬ (radio = true ∧ s.get (DSP_GRP_STATE_STATE g) = 4) → u.get (DSP_GRP_STATE_STATE g) = 3))

namespace Sys2Proof.Spec

/-- Of a step of the kind that signals something nothing changed but registers, counters, what leaves the part, the interrupt
messages that wait, and the manager's records. -/
def signals (s u : State) : Prop :=
  u = { s with regs := u.regs, ctrs := u.ctrs, out := u.out, pcie := u.pcie, integ := u.integ }

/-- As `signals`, and of the registers only those of `keys`. -/
def signalsIn (keys : List Nat) (s u : State) : Prop := signals s u ∧ sameRegs keys s u

/-- Request `k` of context `c` is answered by `data` with the cause, and the operation is otherwise as it was. -/
def answered (t c k : Nat) (q : MvReq) (data : List MByte) (cause : Nat) (u : State) : Prop :=
  (u.reqAt t c k).map (fun p => p.2) = some { q with reply := some (data, cause) }

/-- What the answer of the tier path leaves of a request: a reply with the data, with no data, or with a cause. -/
def tierReply (t c k : Nat) (q : MvReq) (a : KvAns) (u : State) : Prop :=
  match a with
  | .data l => answered t c k q l 0 u
  | .done => answered t c k q [] 0 u
  | .refuse => answered t c k q [] causeRefused u
  | .error e => answered t c k q [] e u
  | .hold => True

end Sys2Proof.Spec

/-- For an unanswered request of a context whose operation's tiers are open. TIER_READ_REQUEST of a TIER_RD is answered with the
bytes of the slice's view, refused outside its windows or ended with a data error; of a KV_RD that the profile permits, as the KV
read of its selector answers. TIER_WRITE_REQUEST of a TIER_WR is answered as the staged (slice 0: direct) write comes out; where it
finds no line it waits, unanswered, and nothing else changes. STAGED_WRITE_RETRY of a waiting write makes it again in the same way, no longer waiting. A
read whose parity retries are exhausted is the same read after its channel has failed; one whose transfer's link error is corrected is
the same read, counted in the controller's LINK_CE. DRAIN_COMMITTED_LINE with a first
committed line of one chunk, of a slice that is not logged, in an open tier and with no MOVE under way, writes its 16 bytes to the chunk's home, leaves every other byte of the
tier, and drops the line. -/
def Obligations.TierRequests : Prop :=
  (∀ (t : Fin 1024) (c k : Fin 16) (s : State) (o : MvOp) (q : MvReq), s.reqAt t c k = some (o, q) → q.reply = none →
    s.opOpen o = true →
    let id := s.opId t o
    let g := groupOf t
    let tb := decide (o.desc.remote.toNat / 2 ^ 63 = 1)
    (o.desc.op = 3 → exec (.tierReadRequest t c k ⟨none, none⟩) s = .next (s.postKv t c q.idx (s.kvBytes id g tb q.addr q.len)))
    ∧ (o.desc.op = 3 → (id.replay = false ∨ ∀ l, (s.kvBytes id g tb q.addr q.len).1 = .data l → markedM l = false) →
      completes (.tierReadRequest t c k ⟨none, none⟩) s (fun u =>
      tierReply t c k q (s.kvBytes id g tb q.addr q.len).1 u ∧ u.mem = (s.kvBytes id g tb q.addr q.len).2.mem
      ∧ ∀ i, i ≠ t.val → u.tile i = s.tile i))
    ∧ (o.desc.op = 5 → kvRefused (s.stream id.slice).prof (kvSel o.desc) false o.desc.len.toNat = false →
      (s.kvRead id g (kvSel o.desc) q.off q.len).1 ≠ .hold → completes (.tierReadRequest t c k ⟨none, none⟩) s (fun u =>
        u = s.postKv t c q.idx (s.kvRead id g (kvSel o.desc) q.off q.len)))
    ∧ (o.desc.op = 4 → (s.workWrite id g tb q.addr q.data).1 ≠ .hold → completes (.tierWriteRequest t c k) s (fun u =>
      tierReply t c k q (s.workWrite id g tb q.addr q.data).1 u ∧ u.mem = (s.workWrite id g tb q.addr q.data).2.mem
      ∧ u.slices = (s.workWrite id g tb q.addr q.data).2.slices ∧ ∀ i, i ≠ t.val → u.tile i = s.tile i))
    ∧ (o.desc.op = 4 → (s.workWrite id g tb q.addr q.data).1 = .hold → completes (.tierWriteRequest t c k) s (fun u =>
      u = { s with tiles := u.tiles } ∧ (u.tile t).ctx c = some { o with waiting := true }
      ∧ (∀ j, j ≠ c.val → (u.tile t).ctx j = (s.tile t).ctx j) ∧ ∀ i, i ≠ t.val → u.tile i = s.tile i))
    ∧ (o.waiting = true → ∃ w : State, w = s.onOp t c (fun p => { p with waiting := false })
        ∧ exec (.stagedWriteRetry t c k) s = exec (.tierWriteRequest t c k) w
        ∧ ((o.desc.op = 4 → (w.workWrite id g tb q.addr q.data).1 ≠ .hold → completes (.stagedWriteRetry t c k) s (fun u =>
            tierReply t c k q (w.workWrite id g tb q.addr q.data).1 u ∧ ((u.tile t).ctx c).map (fun p => p.waiting) = some false))))
    ∧ (∀ (tierB : Bool) (a : BitVec 40), inTier tierB a.toNat = true → s.chanFailed tierB a.toNat = false →
        ∃ w : State, w.chanFailed tierB a.toNat = true ∧ w.tiles = s.tiles
          ∧ exec (.tierReadRequest t c k ⟨some (tierB, a), none⟩) s = exec (.tierReadRequest t c k ⟨none, none⟩) w)
    ∧ ∀ (fail : Option (Bool × BitVec 40)) (m : Fin 16), exec (.tierReadRequest t c k ⟨fail, some m⟩) s
        = exec (.tierReadRequest t c k ⟨fail, none⟩) (s.tally (MEM_MCB_LINK_CE m)))
  ∧ ∀ (sl : Fin 64) (s : State) (tierB : Bool) (off ch da : Nat) (lg : SMap Nat) (d : List Byte) (rest : List StLine),
      (s.slice sl).committed = ⟨tierB, off, [(ch, some ⟨d, false⟩)], lg⟩ :: rest → off % 256 = 0 → ch < 16 → d.length = 16 →
      s.translate sl (tierWin tierB) (off + 16 * ch) = some da → da % 16 = 0 → inTier tierB (da + 15) = true →
      s.rangeFailed tierB da 16 = false → s.logSlots sl = [] → s.tierOpen tierB = true → s.pmHead 0 = none →
      completes (.drainCommittedLine sl) s (fun u => (u.slice sl).committed = rest
        ∧ (∀ j, j < 16 → (u.tier tierB).byte (da + j) = nth 0 d j)
        ∧ (∀ a, a < da ∨ da + 16 ≤ a → (u.tier tierB).byte a = (s.tier tierB).byte a)
        ∧ u.tier (!tierB) = s.tier (!tierB) ∧ u.tiles = s.tiles)

/-- XT_WRITE of an entry in no window of a slice outside FREE: the word that is not VALID, or is in range and meets no other VALID
entry, is stored; else nothing but XT_CONFLICT, its interrupt, and RSVD_WR for reserved bits. In a window, the entry keeps its value. REFRESH_DUE defers the
bank's refresh while TC0 requests wait, up to the limit of log entry 19 (DESIGN CHOICE), and else clears the deferred count. HBM_TEMP_READ and
LP5X_RATE_READ (whose temperature is free, log entry 19) store the reading and the thermal step, which rises at 85, 95 and 105 °C and
falls 3 °C below; a step not risen changes no other register, the first sets THERM_WARN, the second THERM_THROTTLE. SCRUB_READ of an
enabled open tier: a clean word changes nothing, a correctable one is written back and counted, an uncorrectable one poisoned and
counted. TIER_INIT_COMPLETE of a tier not open, with no access held for it, makes it zero and open, and the dead devices' channels
failed; once both are open the warden logs a BOOT record (that it does so then is the model's choice, log entry 131). TC0_PEAK_CLR clears the peak. MEM_INJECT_ARM stores point and instance, and arms where bit 31 is 1. -/
def Obligations.TierUpkeep : Prop :=
  (∀ (i : Fin 4224) (v : Word) (s : State), let n := xtVal v
    let bad := n.valid = true ∧ (xtBad n = true ∨ ∃ j, j < 4224 ∧ j ≠ i.val ∧ xtClash n (xtVal (s.reg (MEM_XT_VALID j).key)) = true)
    (s.xtLocked i = false → ¬ bad → completes (.xtWrite i v) s (fun u => onlyRegs [(MEM_XT_VALID i).key, 0x300004] s u
      ∧ u.get (MEM_XT_EXT i) = n.ext ∧ u.flag (MEM_XT_SPREAD i) = n.spread ∧ u.flag (MEM_XT_TIER_B i) = n.tierB
      ∧ u.flag (MEM_XT_VALID i) = n.valid))
    ∧ (s.xtLocked i = false → bad → completes (.xtWrite i v) s (fun u => signalsIn [0x300004, 0x300014, 0x1000014] s u
      ∧ u.flag MEM_EVENT_XT_CONFLICT = true))
    ∧ (s.xtLocked i = true → completes (.xtWrite i v) s (fun u => signalsIn [0x300004, 0x300014, 0x1000014] s u)))
  ∧ (∀ (ctrl : Fin 24) (bank : Fin 1024) (tc0 : Bool) (s : State), let key := 1024 * ctrl.val + bank.val
    let n := mapGet (fun _ => 0) s.mem.refresh key
    completes (.refreshDue ctrl bank tc0) s (fun u => u = { s with mem := { s.mem with refresh := u.mem.refresh } }
      ∧ mapGet (fun _ => 0) u.mem.refresh key = (if tc0 = true ∧ n < Config.refreshLimit ctrl then n + 1 else 0)
      ∧ ∀ j, j ≠ key → mapGet (fun _ => 0) u.mem.refresh j = mapGet (fun _ => 0) s.mem.refresh j))
  ∧ (∀ (c : Instr) (f g : Fld) (v : Nat) (temp : Int) (s : State),
    ((∃ (k : Fin 8) (w : BitVec 8), c = .hbmTempRead k w ∧ f = MEM_HBM_STATUS_TEMP k ∧ g = MEM_HBM_STATUS_STEP k ∧ v = w.toNat ∧ temp = w.toInt)
      ∨ ∃ (k : Fin 16) (w : BitVec 3), c = .lp5xRateRead k w ∧ f = MEM_MCB_STATUS_RATE k ∧ g = MEM_MCB_STATUS_STEP k ∧ v = w.toNat
          ∧ temp = Config.rateTemp w.toNat) →
    temp < 105 → s.get g < 3 →
    let new := if 95 ≤ temp ∨ (2 ≤ s.get g ∧ 92 < temp) then 2 else if 85 ≤ temp ∨ (1 ≤ s.get g ∧ 82 < temp) then 1 else 0
    completes c s (fun u => u.get f = v ∧ u.get g = new ∧ signals s { u with free := s.free }
      ∧ (new ≤ s.get g → onlyRegs [f.key] s u)
      ∧ (s.get g = 0 → 1 ≤ new → u.flag MEM_EVENT_THERM_WARN = true)
      ∧ (s.get g < 2 → new = 2 → u.flag MEM_EVENT_THERM_THROTTLE = true)))
  ∧ (∀ (tierB : Bool) (w : BitVec 36) (s : State),
    (if tierB then s.flag MEM_SCRUB_CFG_B_EN else s.flag MEM_SCRUB_CFG_A_EN) = true → s.tierOpen tierB = true →
    inTier tierB (16 * w.toNat) = true → s.chanFailed tierB (16 * w.toNat) = false → s.flag MEM_INJECT_ARM = false →
    let inst := if tierB then mcbOf (16 * w.toNat) else stackOf (16 * w.toNat)
    let ce := if tierB then MEM_MCB_CE inst else MEM_HBM_CE inst
    let ue := if tierB then MEM_MCB_UE inst else MEM_HBM_UE inst
    completes (.scrubRead tierB w) s (fun u =>
      (classify ((s.tier tierB).synAt w.toNat) = .clean → u = s)
      ∧ (∀ i, classify ((s.tier tierB).synAt w.toNat) = .correctable i →
          u.tier tierB = (s.tier tierB).writeWord w.toNat ((s.tier tierB).readWord w.toNat) ∧ u.ctr ce = (s.tally ce).ctr ce)
      ∧ (classify ((s.tier tierB).synAt w.toNat) = .uncorrectable →
          u.tier tierB = (s.tier tierB).setSyn w.toNat 0xFFFF ∧ u.ctr ue = (s.tally ue).ctr ue
          ∧ u.flag MEM_ERR_ADDR_HI_VALID = true ∧ u.flag MEM_EVENT_POISON = true)
      ∧ u.tier (!tierB) = s.tier (!tierB) ∧ u.tiles = s.tiles ∧ u.slices = s.slices))
  ∧ (∀ (tierB : Bool) (dead : BitVec 16) (s : State), s.tierOpen tierB = false → (∀ q ∈ s.pcie.tierQ, q.tierB ≠ tierB) →
    completes (.tierInitComplete tierB dead) s (fun u => u.tierOpen tierB = true ∧ u.tier tierB = memEmpty
      ∧ u.tier (!tierB) = s.tier (!tierB)
      ∧ (∀ i, i < (if tierB then 16 else 8) → dead.getLsbD i = true → ∀ j, j < (if tierB then 4 else 32) →
          (if tierB then u.mem.failB.contains (4 * i + j) else u.mem.failA.contains (32 * i + j)) = true)
      ∧ (dead = 0 → onlyRegs [0x300020] s { u with mem := s.mem, pcie := s.pcie, hol := s.hol, sal := s.sal })
      ∧ (s.tierOpen (!tierB) = false → u.hol.log = s.hol.log)
      ∧ (s.tierOpen (!tierB) = true → ∃ l, u.hol.log.getLast? = some l ∧ l.body.kind = 12)))
  ∧ (∀ (d : Fin 4) (s : State), completes (.tc0PeakClr d) s (fun u => onlyRegs [(MEM_TC0_PEAK_PEAK d).key] s u ∧ u.get (MEM_TC0_PEAK_PEAK d) = 0))
  ∧ ∀ (v : Word) (s : State), completes (.memInjectArm v) s (fun u => onlyRegs [0x300c20, 0x300004] s u
      ∧ u.get MEM_INJECT_POINT = bitField v.toNat 0 4 ∧ u.get MEM_INJECT_INST = bitField v.toNat 4 5
      ∧ u.flag MEM_INJECT_ARM = (s.flag MEM_INJECT_ARM || v.getLsbD 31))

/-- SUBMIT with room puts the descriptor of the eight registers at the end of the mover's queue and counts it (stated where no MOVE
comes to start with it); with 256 queued it sets FULL alone. Nothing is performed before the tiers it reaches are open. PAGE_MOVER_COPY and PAGE_MOVER_ZERO of a head not refused and not yet performed (COPY: whose destination holds no
committed line), of open tiers, write every line of the destination from the source's committed data, or zeros, and give the head its result, 0,
or 2 if a copied word was in error. PAGE_MOVER_MOVE starts a head that has not started, which marks its page, and of a started
one copies the lines, moves the slice's staged lines of the page, a replay's too, to the destination and gives the result. PAGE_MOVER_COMPLETE of a manager's head that is performed, or refused, and is no
MOVE, with no descriptor waiting and no MOVE behind it: it leaves the queue, and the status shows its tag, its result (1 for refused) and PM_DONE; a refusal for want of a
translation advances the slice's refusal counter (R315); an unperformed head that is not refused stays. -/
def Obligations.PageMover : Prop :=
  (∀ s : State, (s.mem.pm.length < 256 → s.pmHead 0 = none → (s.mem.pm = [] → bitField (s.reg 0x300800).toNat 0 2 ≠ 0) → completes .submit s (fun u =>
      u.mem = { s.mem with pm := s.mem.pm ++ [⟨(List.range 8).map (fun i => s.reg (0x300800 + 4 * i)), false, none, false⟩] }
      ∧ u.get MEM_PM_STATUS_QUEUED = s.mem.pm.length + 1 ∧ sameRegs [0x300824] s u ∧ u = { s with mem := u.mem, regs := u.regs }))
    ∧ (256 ≤ s.mem.pm.length → completes .submit s (fun u => onlyRegs [0x300824] s u ∧ u.get MEM_PM_STATUS_FULL = 1)))
  ∧ (∀ (s : State) (d : PmDesc) (rest : List PmDesc), s.mem.pm = d :: rest → d.res = none →
    (d.get 0 0 2 = 1 → s.pmRefused d = false → s.pmBlocked d = false → s.pmOpen d = true → completes .pageMoverCopy s (fun u =>
      let r := s.pmLines d (fun st off => st.commitLine d.slice d.srcB off)
      u.mem = { r.2.mem with pm := { d with res := some (if r.1 then 2 else 0) } :: rest } ∧ u.slices = s.slices ∧ u.tiles = s.tiles))
    ∧ (d.get 0 0 2 = 2 → s.pmRefused d = false → s.pmOpen d = true → completes .pageMoverZero s (fun u =>
      u.mem = { (s.pmLines d (fun st _ => (zerosM 256, st))).2.mem with pm := { d with res := some 0 } :: rest }
      ∧ u.slices = s.slices ∧ u.tiles = s.tiles))
    ∧ (s.pmOpen d = false → ∀ i ∈ [Instr.pageMoverCopy, .pageMoverZero, .pageMoverMove], exec i s = .next s)
    ∧ (d.get 0 0 2 = 0 → exec .pageMoverMove s = exec .pageMoverMove s.pmStart)
    ∧ (d.get 0 0 2 = 0 → d.moving = true → s.pmRefused d = false → s.pmOpen d = true → completes .pageMoverMove s (fun u =>
      let r := s.pmLines d (fun st off => st.homeLine d.slice d.srcB off)
      u.mem.pm = { d with res := some (if r.1 then 2 else 0) } :: rest
      ∧ u.integ.replays = s.integ.replays.map (fun p => if p.slice = d.slice then { p with overlay := p.overlay.map (moveLine d) } else p)
      ∧ (u.slice d.slice).committed = (s.slice d.slice).committed.map (moveLine d)
      ∧ (u.slice d.slice).steps = (s.slice d.slice).steps.map (fun p => { p with lines := p.lines.map (moveLine d) })
      ∧ (∀ j, j ≠ d.slice → u.slice j = s.slice j) ∧ u.tiles = s.tiles)))
  ∧ ∀ (s : State) (d : PmDesc) (rest : List PmDesc), s.mem.pm = d :: rest → d.stm = false → d.moving = false →
      (∀ r, d.get 0 0 2 ≠ 0 → s.mem.pmWait = [] → (∀ h ∈ rest.head?, h.get 0 0 2 ≠ 0) → (d.res = some r ∨ (d.res = none ∧ s.pmRefused d = true ∧ r = 1)) →
        completes .pageMoverComplete s (fun u => u.mem = { s.mem with pm := rest }
          ∧ u.get MEM_PM_STATUS_QUEUED = rest.length % 512 ∧ u.get MEM_PM_STATUS_TAG = d.get 0 24 8
          ∧ u.get MEM_PM_STATUS_RESULT = r % 8 ∧ u.flag MEM_EVENT_PM_DONE = true
          ∧ signalsIn [0x300824, 0x300014, 0x1000014] { (if d.res = none then s.pmCount d else s) with mem := u.mem } u))
      ∧ (d.res = none → s.pmRefused d = false → exec .pageMoverComplete s = .next s)

namespace Sys2Proof.Spec

/-- The slice's engine may read its next command and apply it at once: it is enabled, its ring holds a command, DMA and the tiers are
open, no earlier command waits, the output ring has room beside what the uncommitted steps keep, and for a stream's command no
uncommitted step has the stream in its batch and its entry's channel is in order. -/
def engineReady (sl : Nat) (sid : Option Nat) (s : State) : Prop :=
  s.flag (STM_SLC_CTRL_ENABLE sl) = true ∧ (s.stream sl).cmdCons ≠ (s.stream sl).cmdProd ∧ s.dmaOpen = true
  ∧ s.tiersOpen = true ∧ (s.stream sl).waiting = [] ∧ 1 + s.outHeld sl ≤ (s.stream sl).outFree (s.stream sl).outCons
  ∧ ∀ i ∈ sid, s.inStep sl i = false ∧ s.rangeFailed false (entryAddr i) 128 = false

/-- The command is read: the ring's entry is asked for under the slice's PASID and the consumer index has advanced. -/
def cmdRead (sl : Nat) (s : State) : State := s.cmdFetch sl

/-- The command is read, and the stream's entry with it. -/
def cmdOpened (sl sid : Nat) (s : State) : State := (cmdRead sl s).readEntry sl sid

/-- The command's effect takes the state `cmdRead sl s` to a state that satisfies `P`, and then its DONE entry (kind 3) goes to the
output queue with the producer index and the doorbell interrupt. -/
def applied (c : Instr) (sl opc sid : Nat) (tag : Word) (s : State) (P : State → Prop) : Prop :=
  ∃ w : State, exec c s = .next ((w.outPut sl (outEntry sid 3 opc tag.toNat 0 0)).outBell sl) ∧ P w

/-- The entry of stream `sid` became `e`, and of the part nothing else changed but the reading of the command and of the entry. -/
def entryBecame (sl sid : Nat) (e : List Byte) (s w : State) : Prop :=
  w = (cmdOpened sl sid s).setEntry sid e ∧ w.entryHome sid = e

/-- The four decode commands, their operand kinds and what each does for a slot. -/
def decodeCommands : List ((Fin 64 → Fin 64 → Instr) × Nat × (State → Nat → Nat → Nat → SlotFix → State)) :=
  [(.emit, 1, State.emitSlot), (.draft, 2, State.draftSlot), (.argmax, 3, fun a sl n op x => a.argSlot sl n op true x),
   (.argmin, 4, fun a sl n op x => a.argSlot sl n op false x)]

end Sys2Proof.Spec

/-- For an engine that may read and apply, and a stream granted to the slice, each command, with its DONE entry in the output queue, does
this. OPEN of a FREE stream: an OPEN entry of the slice with LEN and AVAIL 0 and the block's parameters. SETPARAM: the parameters of
words 3 to 10 and flags from the block; state, owner, LEN and AVAIL stay. APPEND in range: AVAIL advances by the count, a HALTED stream opens,
LEN stays. CLOSE outside a batch: the pages return and the entry is all zeros. CLEAR: a stopped stream is OPEN, CAUSE is 0, LEN and
AVAIL stay. TRUNCATE to at most LEN: LEN and AVAIL are the value. BATCH into a slot free or its own: the slot holds the stream, or
none, as bit 31 says. RESIZE to no fewer pages than used: the new table's offset and size. A command on a stream not granted only
sets CMD_REFUSED and is answered REFUSED (kind 4). -/
def Obligations.StreamEntryCommands : Prop :=
  ∀ (sl : Fin 64) (sid : BitVec 20) (tag val : Word) (host : List Byte) (cons : Word) (s : State),
    engineReady sl (some sid.toNat) s →
    let n := sid.toNat
    let o := cmdOpened sl n s
    let e := o.entryHome n
    let p := (s.stream sl).prof
    (s.ownsStream sl n = true →
      (entState e = 0 → applied (.openStream sl sid tag host cons) sl 1 n tag s (fun w => ∃ e2, entryBecame sl n e2 s w
        ∧ entState e2 = 1 ∧ entGet e2 0 3 6 = sl ∧ entLen e2 = 0 ∧ entAvail e2 = 0 ∧ entBudget e2 = entBudget host
        ∧ entIn e2 = entIn host ∧ entPt e2 = entPt host ∧ entPages e2 = entPages host))
      ∧ (entState e ≠ 0 → applied (.setparam sl sid tag host cons) sl 2 n tag s (fun w => ∃ e2, entryBecame sl n e2 s w
        ∧ entState e2 = entState e ∧ entGet e2 0 3 6 = entGet e 0 3 6 ∧ entLen e2 = entLen e ∧ entAvail e2 = entAvail e
        ∧ entBudget e2 = entBudget host ∧ entIn e2 = entIn e ∧ entPt e2 = entPt e ∧ entPages e2 = entPages e))
      ∧ (1 ≤ val.toNat → val.toNat ≤ 4096 → entAvail e - entLen e + val.toNat ≤ 2 ^ profInLog p →
        entAvail e + val.toNat ≤ 2 ^ 20 → entState e ≠ 0 → entState e ≠ 4 →
        applied (.append sl sid tag val host cons) sl 3 n tag s (fun w => entAvail (w.entryHome n) = entAvail e + val.toNat
          ∧ entLen (w.entryHome n) = entLen e ∧ entState (w.entryHome n) = (if entState e = 2 then 1 else entState e)
          ∧ w.streams = (cmdRead sl s).streams ∧ (∀ j, j ≠ sl.val → w.slice j = s.slice j) ∧ (w.slice sl).steps = (s.slice sl).steps
          ∧ w.tiles = s.tiles))
      ∧ (entGet e 17 12 1 = 0 → applied (.close sl sid tag cons) sl 4 n tag s (fun w =>
          w = (o.freePages sl e 0).setEntry n (List.replicate 128 0) ∧ w.entryHome n = List.replicate 128 0))
      ∧ (entState e ≠ 0 → applied (.clear sl sid tag cons) sl 5 n tag s (fun w => ∃ e2, entryBecame sl n e2 s w
        ∧ entState e2 = 1 ∧ entGet e2 0 12 4 = 0 ∧ entLen e2 = entLen e ∧ entAvail e2 = entAvail e))
      ∧ (val.toNat ≤ entLen e → applied (.truncate sl sid tag val cons) sl 6 n tag s (fun w =>
          entLen (w.entryHome n) = val.toNat ∧ entAvail (w.entryHome n) = val.toNat
          ∧ ∃ e2, w = (o.freePages sl e ((val.toNat + 255) / 256)).setEntry n e2))
      ∧ (let slot := val.toNat % 4096
         let held := mapGet (fun _ => 0) (s.stream sl).batch slot
         (held = 0 ∨ held = n + 1) → entState e ≠ 0 → (entGet e 17 12 1 = 0 ∨ entGet e 17 0 12 = slot) →
         applied (.batch sl sid tag val cons) sl 7 n tag s (fun w =>
          mapGet (fun _ => 0) (w.stream sl).batch slot = (if val.getLsbD 31 then n + 1 else 0)
          ∧ entGet (w.entryHome n) 17 0 13 = (if val.getLsbD 31 then slot + 4096 else 0)
          ∧ ∀ j, j ≠ slot → mapGet (fun _ => 0) (w.stream sl).batch j = mapGet (fun _ => 0) (s.stream sl).batch j))
      ∧ (let pages := leField host 8 4 % 2 ^ 13
         o.pagesUsed sl e ≤ pages → applied (.resize sl sid tag host cons) sl 10 n tag s (fun w => ∃ e2, entryBecame sl n e2 s w
          ∧ entPages e2 = pages ∧ entPt e2 = leField host 0 8 % 2 ^ 40 ∧ entState e2 = entState e ∧ entLen e2 = entLen e)))
    ∧ (s.ownsStream sl n = false → ∀ p ∈ [(Instr.openStream sl sid tag host cons, 1), (.setparam sl sid tag host cons, 2),
        (.append sl sid tag val host cons, 3), (.close sl sid tag cons, 4), (.clear sl sid tag cons, 5),
        (.truncate sl sid tag val cons, 6), (.batch sl sid tag val cons, 7), (.demote sl sid tag cons, 8),
        (.promote sl sid tag cons, 9), (.resize sl sid tag host cons, 10)],
        ∃ w : State, exec p.1 s = .next ((w.outPut sl (outEntry n 4 p.2 tag.toNat 0 0)).outBell sl)
          ∧ w = (cmdRead sl s).stmEvent sl (STM_SLC_EVENT_CMD_REFUSED sl) ∧ w.flag (STM_SLC_EVENT_CMD_REFUSED sl) = true
          ∧ w.mem = s.mem)

/-- FREE_A and FREE_B of 1 to 4,096 aligned pages that the ring has room for put them in its tier's ring, whose tail rises by their
number. DEMOTE and PROMOTE of a stream in use queue the moves of its pages to tier B, upward, and to tier A, downward. Any stream command
met while an earlier one waits for the uncommitted steps joins the end of the queue of waiting commands and has no other effect than the reading.
STREAM_ENABLE with the slice's dispatcher stopped: off clears ENABLE alone; on, with a profile that passes its check, keeps the
profile and sets ENABLE; with the dispatcher not stopped it changes nothing but LOCK_WR. EMIT, DRAFT, ARGMAX and ARGMIN on an
operand of their kind that may start: every one of the 4,096 slots is worked through in order for the oldest such step, the
operand is no longer left in it, the units are not busy, and 4,096 items are counted. The index that ARGMAX and
ARGMIN take from a list is that of its largest, smallest, value in FP32 order, the lowest such. -/
def Obligations.StreamPagesAndDecode : Prop :=
  (∀ (sl : Fin 64) (sid : BitVec 20) (tag val : Word) (host : List Byte) (cons : Word) (s : State),
    (∀ tierB : Bool, engineReady sl none s → 1 ≤ val.toNat → val.toNat ≤ 4096 →
      (s.stream sl).level tierB + val.toNat ≤ 2 ^ profFreeLog (s.stream sl).prof →
      (∀ i, i < val.toNat → let o := leField host (8 * i) 8
        o % 256 = 0 ∧ o < 2 ^ 40 ∧ o % 2 ^ 28 + 256 * rowBytes (s.stream sl).prof ≤ 2 ^ 28) →
      applied (if tierB then .freeB sl tag val host cons else .freeA sl tag val host cons) sl (if tierB then 12 else 11) 0 tag s (fun w =>
        (w.stream sl).tailB = (s.stream sl).tailB + (if tierB then val.toNat else 0)
        ∧ (w.stream sl).tailA = (s.stream sl).tailA + (if tierB then 0 else val.toNat)
        ∧ (w.stream sl).headA = (s.stream sl).headA ∧ (w.stream sl).headB = (s.stream sl).headB ∧ w.slices = s.slices ∧ w.tiles = s.tiles))
    ∧ (engineReady sl (some sid.toNat) s → s.ownsStream sl sid.toNat = true → let o := cmdOpened sl sid.toNat s
      entState (o.entryHome sid.toNat) ≠ 0 →
      let qs := List.range (entPages (o.entryHome sid.toNat))
      applied (.demote sl sid tag cons) sl 8 sid.toNat tag s (fun w => w = o.queueMoves sl sid.toNat qs true)
      ∧ applied (.promote sl sid tag cons) sl 9 sid.toNat tag s (fun w => w = o.queueMoves sl sid.toNat qs.reverse false))
    ∧ (s.flag (STM_SLC_CTRL_ENABLE sl) = true → (s.stream sl).cmdCons ≠ (s.stream sl).cmdProd → s.dmaOpen = true →
      s.tiersOpen = true → (s.stream sl).waiting ≠ [] → (s.slice sl).steps ≠ [] → s.dspStoppedNow sl = false → completes (.append sl sid tag val host cons) s (fun u =>
        (u.stream sl).waiting = (s.stream sl).waiting ++ [⟨3, sid.toNat, tag, val.toNat, host⟩]
        ∧ (u.stream sl).cmdCons = ((s.stream sl).cmdCons + 1) % 2 ^ 32 ∧ u = { s with streams := u.streams, out := u.out })))
  ∧ (∀ (sl : Fin 64) (s : State), let off := s.get (STM_SLC_PROF_LO_OFF sl) / 4096 * 4096 + 2 ^ 32 * (s.get (STM_SLC_PROF_HI_OFF sl) % 256)
    (s.get (DSP_SLC_STATE_STATE sl) = 0 ∨ s.get (DSP_SLC_STATE_STATE sl) = 7 →
      completes (.streamEnable sl false) s (fun u => onlyRegs [(STM_SLC_CTRL_ENABLE sl).key] s u ∧ u.get (STM_SLC_CTRL_ENABLE sl) = 0)
      ∧ ∀ d, s.tiersOpen = true → (s.viewRead sl (s.viewLines sl true) false off 4096).1 = some d → markedM d = false → profileOk (bytesM d) = true →
          completes (.streamEnable sl true) s (fun u => u.get (STM_SLC_CTRL_ENABLE sl) = 1 ∧ (u.stream sl).prof = bytesM d
            ∧ u.slices = s.slices ∧ u.tiles = s.tiles))
    ∧ (s.get (DSP_SLC_STATE_STATE sl) ≠ 0 → s.get (DSP_SLC_STATE_STATE sl) ≠ 7 → ∀ en, completes (.streamEnable sl en) s (fun u =>
        onlyRegs [0x400004] s u ∧ u.reg 0x400004 = s.reg 0x400004 ||| 2)))
  ∧ (∀ q ∈ decodeCommands, ∀ (sl op : Fin 64) (s : State) (r : StepRt), opKind (s.stream sl).prof op = q.2.1 → s.tiersOpen = true →
    (s.slice sl).steps.find? (fun r => s.opStarts sl op r) = some r → completes (q.1 sl op) s (fun u =>
      ∃ w : State, w = (List.range 4096).foldl (fun a slot => match a.slotFix sl r.num slot with
          | some x => q.2.2 a sl r.num op x
          | none => a.postResult sl r.num op slot (DecRes.none 1)) s
        ∧ u = { w with slices := u.slices, regs := u.regs, ctrs := u.ctrs }
        ∧ (∀ p ∈ (u.slice sl).steps, p.num = r.num → op.val ∉ p.decodeLeft)
        ∧ (∀ j, j ≠ sl.val → u.slice j = w.slice j)
        ∧ (∀ i, i < 4 → u.get (DEC_UNIT_STATUS_SLICE i) = sl ∧ u.get (DEC_UNIT_STATUS_BUSY i) = 0)
        ∧ u.ctr (DEC_SLC_ITEMS sl) = (w.count (DEC_SLC_ITEMS sl) 4096).ctr (DEC_SLC_ITEMS sl)))
  ∧ ∀ z : List Word, z ≠ [] →
      (argmaxIdx z < z.length ∧ ∀ j, j < z.length → orderKey (nth 0 z j) ≤ orderKey (nth 0 z (argmaxIdx z))
        ∧ (orderKey (nth 0 z j) = orderKey (nth 0 z (argmaxIdx z)) → argmaxIdx z ≤ j))
      ∧ (argminIdx z < z.length ∧ ∀ j, j < z.length → orderKey (nth 0 z (argminIdx z)) ≤ orderKey (nth 0 z j)
        ∧ (orderKey (nth 0 z j) = orderKey (nth 0 z (argminIdx z)) → argminIdx z ≤ j))

namespace Sys2Proof.Spec

/-- Cluster `c` runs a task that meets its next bundle in this BCLK: no `IDLE` is left, no earlier result is on its way, and no
injection is armed. -/
def laneReady (c : Nat) (s : State) : Prop :=
  s.taskRuns c = true ∧ (s.cluster c).idle = 0 ∧ (s.cluster c).pend = [] ∧ s.flag (BBA_INJECT_ARM c) = false

/-- One BCLK of cluster `c` that issued a bundle: of the part only the cluster, the status register's PC and, where a flag was
raised, the cluster's flags register and interrupts changed; the PC shown is the bundle's. -/
def issued (c : Nat) (s u : State) : Prop :=
  u = { s with regs := u.regs, clusters := u.clusters, out := u.out, pcie := u.pcie }
  ∧ sameRegs [(BBA_CL_STATUS_PC c).key, (BBA_CL_FLAGS_SAT c).key, 0x1000014] s u
  ∧ u.get (BBA_CL_STATUS_PC c) = (s.cluster c).pc % 4096 ∧ u.clState c = s.clState c
  ∧ ∀ d, d ≠ c → u.cluster d = s.cluster d

/-- The sequencer went on to the next bundle. -/
def seqNext (x y : ClusterRt) : Prop := y.pc = x.pc + 1 ∧ y.branched = false ∧ y.clk = x.clk + 1 ∧ y.idle = 0

/-- Cluster `y` is `x` but for data registers, accumulators, flags, results on their way and the sequencer's advance. -/
def dataOnly (x y : ClusterRt) : Prop :=
  y = { x with v := y.v, acc := y.acc, accM := y.accM, flags := y.flags, pend := y.pend, clk := y.clk, pc := y.pc, branched := y.branched }
  ∧ seqNext x y

/-- A bit of a mask. -/
abbrev inMask (x : ClusterRt) (l : Nat) : Prop := x.mask.getLsbD l = true

/-- An A-slot command of latency `lat` that raises no flag writes `f x l a` to VD of every lane l of the mask, `x` the cluster at the
start of the BCLK: read `lat - 1` BCLK after the issue, VD of those lanes has that value; every other register of every lane, and
every flag and accumulator, is as before. -/
def aluWrites (op : Fin 128 → LaneAlu → Instr) (lat : Nat) (f : ClusterRt → Nat → LaneAlu → Word) : Prop :=
  ∀ (c : Fin 128) (a : LaneAlu) (s : State), laneReady c s → completes (op c a) s (fun u =>
    let x := s.cluster c
    issued c s u ∧ dataOnly x (u.cluster c) ∧ (u.cluster c).flags = x.flags ∧ (u.cluster c).acc = x.acc ∧ (u.cluster c).accM = x.accM
    ∧ u.out = s.out ∧ u.pcie = s.pcie ∧ sameRegs [(BBA_CL_STATUS_PC c).key] s u
    ∧ ∀ l n, l < 64 → n < 64 → (ClusterRt.settle (lat - 1) (u.cluster c)).reg l n
        = if n = a.vd.toNat ∧ x.mask.getLsbD l = true then f x l a else x.reg l n)

/-- `z` clamped to `w`-bit two's complement. -/
def clamp (w : Nat) (z : Int) : Int := max (-(2 : Int) ^ (w - 1)) (min ((2 : Int) ^ (w - 1) - 1) z)

/-- As `aluWrites` for a command whose result may saturate: `f` gives the value and whether it did, and the SAT flag of exactly
the lanes where it did is set, their other flags as before; SAT of the cluster's flags is set where a lane's SAT became 1. -/
def aluSaturates (op : Fin 128 → LaneAlu → Instr) (lat : Nat) (f : ClusterRt → Nat → LaneAlu → Word × Prop) : Prop :=
  ∀ (c : Fin 128) (a : LaneAlu) (s : State), laneReady c s → completes (op c a) s (fun u =>
    let x := s.cluster c
    issued c s u ∧ dataOnly x (u.cluster c) ∧ (u.cluster c).acc = x.acc ∧ (u.cluster c).accM = x.accM
    ∧ (∀ l n, l < 64 → n < 64 → (ClusterRt.settle (lat - 1) (u.cluster c)).reg l n
        = if n = a.vd.toNat ∧ x.mask.getLsbD l = true then (f x l a).1 else x.reg l n)
    ∧ (∀ l, l < 64 → ((inMask x l ∧ (f x l a).2) → (u.cluster c).flag l = x.flag l ||| 1)
        ∧ (¬ (inMask x l ∧ (f x l a).2) → (u.cluster c).flag l = x.flag l))
    ∧ ((∃ l, l < 64 ∧ inMask x l ∧ (f x l a).2 ∧ (x.flag l).getLsbD 0 = false) → u.flag (BBA_CL_FLAGS_SAT c) = true))

/-- Two halves combined and each clamped to INT16. -/
def halves (f : Int → Int → Int) (p q : Word) : Word × Prop :=
  let i := f (halfOf p false) (halfOf q false)
  let j := f (halfOf p true) (halfOf q true)
  (packCI (clamp 16 i) (clamp 16 j), i ≠ clamp 16 i ∨ j ≠ clamp 16 j)

/-- The A-slot commands of one result without a flag (R254, R255, R257): command, latency, value. -/
def aluTable : List ((Fin 128 → LaneAlu → Instr) × Nat × (ClusterRt → Nat → LaneAlu → Word)) :=
  [(.add, 1, fun x l a => x.reg l a.va.toNat + x.reg l a.vb.toNat),
   (.sub, 1, fun x l a => x.reg l a.va.toNat - x.reg l a.vb.toNat),
   (.and, 1, fun x l a => x.reg l a.va.toNat &&& x.reg l a.vb.toNat),
   (.or, 1, fun x l a => x.reg l a.va.toNat ||| x.reg l a.vb.toNat),
   (.xor, 1, fun x l a => x.reg l a.va.toNat ^^^ x.reg l a.vb.toNat),
   (.shl, 1, fun x l a => x.reg l a.va.toNat <<< (a.imm.extractLsb' 0 5).toNat),
   (.shra, 1, fun x l a => BitVec.ofInt 32 ((x.reg l a.va.toNat).toInt / 2 ^ (a.imm.extractLsb' 0 5).toNat)),
   (.shrl, 1, fun x l a => x.reg l a.va.toNat >>> (a.imm.extractLsb' 0 5).toNat),
   (.movi, 1, fun _ _ a => BitVec.signExtend 32 (a.va ++ a.vb ++ a.imm)),
   (.movh, 1, fun x l a => a.va ++ a.vb ++ a.imm.extractLsb' 4 4 ++ (x.reg l a.vd.toNat).extractLsb' 0 16),
   (.laneMax, 1, fun x l a => BitVec.ofInt 32 (max (x.reg l a.va.toNat).toInt (x.reg l a.vb.toNat).toInt)),
   (.laneMin, 1, fun x l a => BitVec.ofInt 32 (min (x.reg l a.va.toNat).toInt (x.reg l a.vb.toNat).toInt)),
   (.nrm, 1, fun x l a => BitVec.ofNat 32 (rsb 32 (x.reg l a.va.toNat).toNat)),
   (.nrmc, 1, fun x l a => BitVec.ofNat 32 (min (x.reg l a.vd.toNat).toNat
      (min (rsb 16 ((x.reg l a.va.toNat).toNat % 65536)) (rsb 16 ((x.reg l a.va.toNat).toNat / 65536))))),
   (.xch, 2, fun x l a => let src := Nat.xor l (a.imm.extractLsb' 0 6).toNat
      if x.mask.getLsbD src then x.reg src a.va.toNat else 0),
   (.mov, 1, fun x l a => x.reg l a.va.toNat),
   (.rdf, 1, fun x l _ => x.flag l)]

/-- The A-slot commands whose result may saturate. -/
def aluSatTable : List ((Fin 128 → LaneAlu → Instr) × Nat × (ClusterRt → Nat → LaneAlu → Word × Prop)) :=
  let sh (a : LaneAlu) : Nat := (a.imm.extractLsb' 0 5).toNat
  [(.cadd, 1, fun x l a => halves (fun p q => p + q) (x.reg l a.va.toNat) (x.reg l a.vb.toNat)),
   (.csub, 1, fun x l a => halves (fun p q => p - q) (x.reg l a.va.toNat) (x.reg l a.vb.toNat)),
   (.shc, 1, fun x l a => let n : Int := ((x.reg l a.vb.toNat).extractLsb' 0 5).toInt
      halves (fun p _ => if 0 ≤ n then p * 2 ^ n.toNat else p / 2 ^ (-n).toNat) (x.reg l a.va.toNat) 0),
   (.exth, 2, fun x l a => let z := x.accOf l (a.imm.extractLsb' 6 2).toNat / 2 ^ sh a
      (BitVec.ofInt 32 (clamp 16 z), z ≠ clamp 16 z)),
   (.extc, 2, fun x l a => let p := 2 * (a.imm.extractLsb' 7 1).toNat
      let i := x.accOf l p / 2 ^ sh a
      let j := x.accOf l (p + 1) / 2 ^ sh a
      (packCI (clamp 16 i) (clamp 16 j), i ≠ clamp 16 i ∨ j ≠ clamp 16 j)),
   (.extw, 2, fun x l a => let z := x.accOf l (a.imm.extractLsb' 6 2).toNat / 2 ^ sh a
      (BitVec.ofInt 32 (clamp 32 z), z ≠ clamp 32 z))]

/-- An M-slot command: in every lane of the mask, the accumulators that `f` names take the values it gives, `lat` BCLK after issue as the
A slot reads them, at once as the M slot reads them; where `f` says that an addition overflowed, AOV of that accumulator is set
and, if none stood, the first event is recorded; all else of the lanes is as before. `f` gives accumulator, value, overflow. -/
def mulWrites (op : Fin 128 → LaneMul → Instr) (lat : Nat) (f : ClusterRt → Nat → LaneMul → List (Nat × Int × Bool)) : Prop :=
  ∀ (c : Fin 128) (m : LaneMul) (s : State), laneReady c s → completes (op c m) s (fun u =>
    let x := s.cluster c
    let y := u.cluster c
    issued c s u ∧ dataOnly x y ∧ y.v = x.v
    ∧ ∀ l, l < 64 → (inMask x l →
        (∀ q ∈ f x l m, y.accNow l q.1 = q.2.1 ∧ (ClusterRt.settle (lat - 1) y).accOf l q.1 = q.2.1)
        ∧ (∀ k, k < 4 → k ∉ (f x l m).map (fun q => q.1) → y.accNow l k = x.accNow l k
            ∧ (ClusterRt.settle (lat - 1) y).accOf l k = x.accOf l k)
        ∧ y.flag l = ((f x l m).foldl (fun (z : ClusterRt) q => if q.2.2 then z.aov l q.1 else z) x).flag l)
      ∧ (¬ inMask x l → y.flag l = x.flag l ∧ ∀ k, k < 4 → y.accNow l k = x.accNow l k ∧ (ClusterRt.settle (lat - 1) y).accOf l k = x.accOf l k))

/-- Terms added one after the other, each sum kept in 40 bits (R250); whether any overflowed. -/
def accumulate (wrap : Bool) (z0 : Int) : List Int → Int × Bool
  | [] => (z0, false)
  | t :: ts =>
    let r := fit40 wrap (z0 + t)
    let q := accumulate wrap r.1 ts
    (q.1, r.2 || q.2)

/-- The product of the selected halves. -/
def realProduct (x : ClusterRt) (l : Nat) (m : LaneMul) : Int := halfOf (x.reg l m.va.toNat) m.ha * halfOf (x.reg l m.vb.toNat) m.hb

/-- A real form: one accumulator. -/
def realForm (keep : Bool) (sg : Int) (x : ClusterRt) (l : Nat) (m : LaneMul) : List (Nat × Int × Bool) :=
  [(m.acc.toNat, accumulate x.wrapMode (if keep then x.accNow l m.acc.toNat else 0) [sg * realProduct x l m])]

/-- A complex form: the pair, the terms in the order of R252. -/
def complexForm (keep conj : Bool) (x : ClusterRt) (l : Nat) (m : LaneMul) : List (Nat × Int × Bool) :=
  let k := m.acc.toNat / 2 * 2
  let a := x.reg l m.va.toNat
  let b := x.reg l m.vb.toNat
  let ia := halfOf a false
  let qa := halfOf a true
  let ib := halfOf b false
  let qb := halfOf b true
  [(k, accumulate x.wrapMode (if keep then x.accNow l k else 0) (if conj then [ia * ib, qa * qb] else [ia * ib, -(qa * qb)])),
   (k + 1, accumulate x.wrapMode (if keep then x.accNow l (k + 1) else 0) (if conj then [qa * ib, -(ia * qb)] else [ia * qb, qa * ib]))]

end Sys2Proof.Spec

/-- For a cluster ready to issue: ADD, SUB, AND, OR, XOR, SHL, SHRA, SHRL, MOVI, MOVH, LANE_MAX, LANE_MIN, NRM, NRMC, XCH, MOV and RDF write the
value of the table in every lane of the mask after their latency and raise no flag; CADD, CSUB, SHC, EXTH, EXTC and EXTW write the
clamped value and set SAT of exactly the lanes that saturated; MAXI and MINI write VA and VB to VD and the register after it where
VA is strictly greater, less, than VD, and nothing elsewhere. Every other register of every lane, and every other cluster, is as
before. rsb counts the bits below the sign that equal it. -/
def Obligations.LaneAluInstructions : Prop :=
  (∀ q ∈ aluTable, aluWrites q.1 q.2.1 q.2.2) ∧ (∀ q ∈ aluSatTable, aluSaturates q.1 q.2.1 q.2.2)
  ∧ (∀ (big : Bool) (c : Fin 128) (a : LaneAlu) (s : State), laneReady c s →
      completes (if big then .maxi c a else .mini c a) s (fun u =>
        let x := s.cluster c
        issued c s u ∧ dataOnly x (u.cluster c) ∧ (u.cluster c).flags = x.flags ∧ (u.cluster c).acc = x.acc
        ∧ ∀ l n, l < 64 → n < 64 →
            let va := x.reg l a.va.toNat
            let old := x.reg l a.vd.toNat
            let takes := inMask x l ∧ (if big then old.toInt < va.toInt else va.toInt < old.toInt)
            ((takes ∧ n = a.vd.toNat → (u.cluster c).reg l n = va)
              ∧ (takes ∧ n = (a.vd.toNat + 1) % 64 → (u.cluster c).reg l n = x.reg l a.vb.toNat)
              ∧ (¬ takes ∨ (n ≠ a.vd.toNat ∧ n ≠ (a.vd.toNat + 1) % 64) → (u.cluster c).reg l n = x.reg l n))))
  ∧ ∀ w v, w = 16 ∨ w = 32 → rsb w v ≤ w - 1 ∧ (∀ i, i < rsb w v → v / 2 ^ (w - 2 - i) % 2 = v / 2 ^ (w - 1) % 2)
      ∧ (rsb w v < w - 1 → v / 2 ^ (w - 2 - rsb w v) % 2 ≠ v / 2 ^ (w - 1) % 2)

/-- For a cluster ready to issue: MPY, MAC and MSU replace, add to, subtract from the accumulator the exact product of the selected
halves; CMPY, CMAC and CMACJ form, add, add with b conjugated, the complex product into the pair, each accumulator by two
additions in the order of R252; ACLR makes it 0. Every sum goes through the 40-bit rule of R250 (kept in range, clamped outside, or wrapped where
the innermost loop says so), and an overflow sets AOV of its accumulator with the first event. Other accumulators,
registers, flags and lanes outside the mask are as before. -/
def Obligations.LaneMulInstructions : Prop :=
  mulWrites .mpy 2 (realForm false 1) ∧ mulWrites .mac 2 (realForm true 1) ∧ mulWrites .msu 2 (realForm true (-1))
  ∧ mulWrites .cmpy 5 (complexForm false false) ∧ mulWrites .cmac 5 (complexForm true false)
  ∧ mulWrites .cmacj 5 (complexForm true true) ∧ mulWrites .aclr 1 (fun _ _ m => [(m.acc.toNat, 0, false)])
  ∧ (∀ (wrap : Bool) (z : Int), -(2 : Int) ^ 39 ≤ z → z < 2 ^ 39 → fit40 wrap z = (z, false))
  ∧ (∀ z : Int, 2 ^ 39 ≤ z → fit40 false z = (2 ^ 39 - 1, true)) ∧ (∀ z : Int, z < -(2 : Int) ^ 39 → fit40 false z = (-(2 : Int) ^ 39, true))
  ∧ ∀ z : Int, (2 ^ 39 ≤ z ∨ z < -(2 : Int) ^ 39) → (fit40 true z).2 = true ∧ ∃ k : Int, (fit40 true z).1 = z + k * 2 ^ 40
      ∧ -(2 : Int) ^ 39 ≤ (fit40 true z).1 ∧ (fit40 true z).1 < 2 ^ 39

namespace Sys2Proof.Spec

/-- The address register after the update of R260. -/
def nextAddr (x : ClusterRt) (l : Nat) (o : LaneMem) : BitVec 14 :=
  let n : Int := ((x.addr l o.ar.toNat).toNat : Int) + (x.modr l o.mr.toNat).toInt
  let w := x.win l (o.win.toNat - 1)
  let base : Int := ((w.extractLsb' 0 14).toNat : Int)
  let len : Int := ((w.extractLsb' 16 14).toNat : Int)
  BitVec.ofInt 14 (if o.win ≠ 0 ∧ len ≠ 0 then (if base + len ≤ n then n - len else if n < base then n + len else n) else n)

/-- The first byte of the access within its row, and the row that serves it. -/
def accessRow (s : State) (c l : Nat) (o : LaneMem) : Nat := s.bankRow c l ((s.cluster c).accessAddr l o / 16)

/-- An L-slot access of every lane of the mask to a row that reads clean: after it, in those lanes, the bank's row holds `f` of what it
held, all other rows of all banks are as before, the address register is as before or, where PM is 1, the next of R260; no flag, address,
modifier or window register else changed. -/
def accesses (cmd : Instr) (c : Nat) (o : LaneMem) (f : ClusterRt → Nat → List Byte → List Byte) (s : State) (P : State → Prop) : Prop :=
  completes cmd s (fun u =>
    let x := s.cluster c
    let y := u.cluster c
    issued c s u ∧ seqNext x y ∧ y.flags = x.flags ∧ y.m = x.m ∧ y.w = x.w ∧ y.acc = x.acc ∧ y.accM = x.accM
    ∧ (∀ l i, l < 64 → i < 8 → y.addr l i = if inMask x l ∧ o.pm = true ∧ i = o.ar.toNat then nextAddr x l o else x.addr l i)
    ∧ (∀ l r, l < 64 → ((y.bank l).readWord r).data
        = if inMask x l ∧ r = accessRow s c l o then f x l ((x.bank l).readWord r).data else ((x.bank l).readWord r).data)
    ∧ P u)

/-- A lane's bytes `d` put into a row from byte `off`. -/
def putBytes (off : Nat) (d row : List Byte) : List Byte := row.take off ++ d ++ row.drop (off + d.length)

end Sys2Proof.Spec

/-- For a cluster ready to issue, with every row that a lane of the mask reads clean: LD brings 4, 8 or 16 bytes of the row to VR and the
registers after it, little-endian, in 3 BCLK; ST puts the registers' bytes into the row; AADD and ASWP put the sum, the register, in
place of the word and return the old word in 4 BCLK; the address register follows R260 where PM is 1. AMOD updates it alone. SETI sets an address or
modifier register; MOVR moves a data register's low bits to an address, modifier or window register; MOVV brings one of them back,
zero-extended, sign-extended, whole. Nothing else of the lanes changes. -/
def Obligations.LaneMemInstructions : Prop :=
  (∀ (c : Fin 128) (o : LaneMem) (s : State), laneReady c s → o.sz ≠ 3 →
    let x := s.cluster c
    (∀ l, l < 64 → inMask x l → rowNote (x.bank l) (accessRow s c l o) = .clean) →
    let a (l : Nat) : Nat := x.accessAddr l o % 16
    let word (l j : Nat) : Word :=
      BitVec.ofNat 32 (bytesToNat (((((x.bank l).readWord (accessRow s c l o)).data.drop (a l)).drop (4 * j)).take 4))
    accesses (.ld c o) c o (fun _ _ r => r) s (fun u => ∀ l n, l < 64 → n < 64 →
      (∀ j, j < accessBytes o.sz / 4 → inMask x l → n = (o.vr.toNat + j) % 64 → (ClusterRt.settle 2 (u.cluster c)).reg l n = word l j)
      ∧ (¬ inMask x l ∨ (∀ j, j < accessBytes o.sz / 4 → n ≠ (o.vr.toNat + j) % 64) →
          (ClusterRt.settle 2 (u.cluster c)).reg l n = x.reg l n))
    ∧ accesses (.st c o) c o (fun x l r => putBytes (a l) ((List.range (accessBytes o.sz / 4)).flatMap (fun j =>
        natToBytes 4 (x.reg l (o.vr.toNat + j)).toNat)) r) s (fun u => (u.cluster c).v = x.v)
    ∧ (o.sz = 0 → ∀ (cmd : Instr) (f : Word → Word → Word),
        (cmd = .aadd c o ∧ f = fun p q => p + q) ∨ (cmd = .aswp c o ∧ f = fun _ q => q) →
        accesses cmd c o (fun x l r => putBytes (a l) (natToBytes 4 (f (word l 0) (x.reg l o.vr.toNat)).toNat) r) s (fun u =>
          ∀ l n, l < 64 → n < 64 → (ClusterRt.settle 3 (u.cluster c)).reg l n
            = if inMask x l ∧ n = o.vr.toNat then word l 0 else x.reg l n)))
  ∧ (∀ (c : Fin 128) (o : LaneMem) (s : State), laneReady c s → completes (.amod c o) s (fun u =>
      let x := s.cluster c
      let y := u.cluster c
      issued c s u ∧ y = { x with a := y.a, clk := y.clk, pc := y.pc, branched := y.branched } ∧ seqNext x y
      ∧ ∀ l i, l < 64 → i < 8 → y.addr l i = if inMask x l ∧ i = o.ar.toNat then nextAddr x l o else x.addr l i))
  ∧ (∀ (c : Fin 128) (isM : Bool) (i : Fin 8) (imm : BitVec 16) (s : State), laneReady c s → completes (.seti c isM i imm) s (fun u =>
      let x := s.cluster c
      let y := u.cluster c
      issued c s u ∧ y = { x with a := y.a, m := y.m, clk := y.clk, pc := y.pc, branched := y.branched } ∧ seqNext x y
      ∧ (∀ l j, l < 64 → j < 8 → y.addr l j = if inMask x l ∧ isM = false ∧ j = i.val then imm.truncate 14 else x.addr l j)
      ∧ ∀ l j, l < 64 → j < 8 → y.modr l j = if inMask x l ∧ isM = true ∧ j = i.val then imm else x.modr l j))
  ∧ ∀ (c : Fin 128) (vr : BitVec 6) (kind : BitVec 2) (i : Fin 8) (s : State), laneReady c s → kind ≠ 3 → (kind = 2 → i.val < 4) →
      completes (.movr c vr kind i) s (fun u =>
        let x := s.cluster c
        let y := u.cluster c
        issued c s u ∧ y = { x with a := y.a, m := y.m, w := y.w, clk := y.clk, pc := y.pc, branched := y.branched } ∧ seqNext x y
        ∧ ∀ l j, l < 64 → j < 8 →
            y.addr l j = (if inMask x l ∧ kind = 0 ∧ j = i.val then (x.reg l vr.toNat).truncate 14 else x.addr l j)
            ∧ y.modr l j = (if inMask x l ∧ kind = 1 ∧ j = i.val then (x.reg l vr.toNat).truncate 16 else x.modr l j)
            ∧ (j < 4 → y.win l j = (if inMask x l ∧ kind = 2 ∧ j = i.val then x.reg l vr.toNat else x.win l j)))
      ∧ completes (.movv c vr kind i) s (fun u =>
        let x := s.cluster c
        issued c s u ∧ dataOnly x (u.cluster c) ∧ (u.cluster c).flags = x.flags ∧ (u.cluster c).acc = x.acc
        ∧ ∀ l n, l < 64 → n < 64 → (u.cluster c).reg l n = if inMask x l ∧ n = vr.toNat then
            (if kind = 0 then (x.addr l i).zeroExtend 32 else if kind = 1 then (x.modr l i).signExtend 32 else x.win l i)
          else x.reg l n)

namespace Sys2Proof.Spec

/-- Cluster `y` is `x` but for loops, counters, rotation, halting, posts, flags and the sequencer. -/
def controlOnly (x y : ClusterRt) : Prop :=
  y = { x with lc := y.lc, loops := y.loops, rrb := y.rrb, region := y.region, clk := y.clk, pc := y.pc, branched := y.branched, halted := y.halted
               posts := y.posts, flags := y.flags }
  ∧ y.clk = x.clk + 1

end Sys2Proof.Spec

/-- For a cluster ready to issue. LOOP entered by falling through loads its counter with COUNT + 1, records its begin, and a rotating loop sets
the region; entered by a branch it only goes on. ENDL of the innermost loop branches to its begin with the counter one less while the
counter exceeds 1, and otherwise ends the loop; a rotating loop's RRB falls by 1 either way. LOOP1 of COUNT not 0 stays at its bundle with
counter COUNT. HALT halts, POST joins the posts, CLRF clears the flags of the mask's lanes, WAIT clears its flag and goes on, or holds while
the flag is 0. LANE_BUNDLE_ISSUE: nothing in a cluster without a running task; an IDLE BCLK counts down; a clean bundle is met as the decoding of
its 16 bytes; a task on banks that a wipe seals off ends there, its banks kept. TASK_END of a halted task: the cluster is IDLE, its results have landed, and each lane's sticky flags are merged into its register. -/
def Obligations.LaneControlAndIssue : Prop :=
  (∀ (c : Fin 128) (o : LaneLoopOp) (s : State), laneReady c s →
    let x := s.cluster c
    (completes (.loop c o) s (fun u => let y := u.cluster c
      issued c s u ∧ controlOnly x y ∧ seqNext x y
      ∧ (x.branched = true → y.loops = x.loops ∧ y.lc = x.lc ∧ y.region = x.region)
      ∧ (x.branched = false → y.loops = ⟨o.lc.toNat, x.pc, o.wrap, o.rot, 0⟩ :: x.loops
          ∧ mapGet (fun _ => 0) y.lc o.lc.toNat = o.count.toNat + 1
          ∧ (∀ j, j ≠ o.lc.toNat → mapGet (fun _ => 0) y.lc j = mapGet (fun _ => 0) x.lc j)
          ∧ y.region = (if o.rot then some o.rsz else x.region))))
    ∧ (x.branched = false → completes (.loop1 c o) s (fun u => let y := u.cluster c
      issued c s u ∧ controlOnly x y
      ∧ (o.count ≠ 0 → y.pc = x.pc ∧ y.branched = true ∧ mapGet (fun _ => 0) y.lc o.lc.toNat = o.count.toNat
          ∧ y.loops = ⟨o.lc.toNat, x.pc, o.wrap, o.rot, 1⟩ :: x.loops)
      ∧ (o.count = 0 → seqNext x y ∧ y.loops = x.loops) ∧ y.rrb = (if o.rot then x.rrb - 1 else x.rrb))))
  ∧ (∀ (c : Fin 128) (lc : Fin 4) (s : State) (q : LaneLoop) (rest : List LaneLoop), laneReady c s →
    (s.cluster c).loops = q :: rest → q.lc = lc →
    let x := s.cluster c
    let n := mapGet (fun _ => 0) x.lc lc
    completes (.endl c lc) s (fun u => let y := u.cluster c
      issued c s u ∧ controlOnly x y ∧ y.rrb = (if q.rot then x.rrb - 1 else x.rrb)
      ∧ (1 < n → y.pc = q.start ∧ y.branched = true ∧ mapGet (fun _ => 0) y.lc lc = n - 1 ∧ y.loops = { q with iter := q.iter + 1 } :: rest)
      ∧ (n ≤ 1 → seqNext x y ∧ y.loops = rest ∧ y.lc = x.lc)))
  ∧ (∀ (c : Fin 128) (ev : Fin 64) (s : State), laneReady c s → let x := s.cluster c
    completes (.halt c) s (fun u => issued c s u ∧ u.cluster c = { x with halted := true, pc := x.pc + 1, branched := false, clk := x.clk + 1 })
    ∧ completes (.post c ev) s (fun u => issued c s u
        ∧ u.cluster c = { x with posts := x.posts ++ [ev.val], pc := x.pc + 1, branched := false, clk := x.clk + 1 })
    ∧ completes (.clrf c) s (fun u => issued c s u ∧ controlOnly x (u.cluster c) ∧ seqNext x (u.cluster c)
        ∧ (u.cluster c).loops = x.loops ∧ ∀ l, (u.cluster c).flag l = if inMask x l then 0 else x.flag l)
    ∧ (s.evFlag c ev = true → completes (.wait c ev) s (fun u => u.evFlag c ev = false
        ∧ (∀ e, e < 64 → e ≠ ev.val → u.evFlag c e = s.evFlag c e)
        ∧ u.cluster c = { x with pc := x.pc + 1, branched := false, clk := x.clk + 1 }))
    ∧ (s.evFlag c ev = false → completes (.wait c ev) s (fun u => u = { s with clusters := u.clusters }
        ∧ u.cluster c = { x with clk := x.clk + 1 } ∧ ∀ d, d ≠ c.val → u.cluster d = s.cluster d)))
  ∧ (∀ (c : Fin 128) (s : State), let x := s.cluster c
    (s.taskRuns c = false → s.sealStops c = false → exec (.laneBundleIssue c) s = .next s)
    ∧ (s.sealStops c = true → completes (.laneBundleIssue c) s (fun u => u.clState c = 1 ∧ u.taskRuns c = false
        ∧ (u.cluster c).banks = x.banks ∧ u = { s with regs := u.regs, clusters := u.clusters }))
    ∧ (s.taskRuns c = true → 0 < x.idle → completes (.laneBundleIssue c) s (fun u =>
        u.cluster c = { x.tick with idle := x.idle - 1 } ∧ u = { s with clusters := u.clusters }))
    ∧ (s.taskRuns c = true → x.idle = 0 → s.flag (BBA_INJECT_ARM c) = false → rowNote x.imem x.pc = .clean →
        ∀ b, bundleOf (x.imem.readWord x.pc).data = some b → (∀ ev, b.c ≠ .wait ev) → exec (.laneBundleIssue c) s = .next (s.issueOn c b)))
  ∧ ∀ (c : Fin 128) (s : State), s.clState c = 2 → (s.cluster c).halted = true → completes (.taskEnd c) s (fun u =>
      u.clState c = 1 ∧ (u.cluster c).halted = false
      ∧ (u.cluster c).v = (ClusterRt.settle (8 + (s.cluster c).pend.length) (s.cluster c)).v
      ∧ ∀ l, l < 64 → (inMask (s.cluster c) l → (u.reg (BBA_LANE_FLAGS_SAT c l).key).toNat
            = mergeFlags (s.reg (BBA_LANE_FLAGS_SAT c l).key).toNat ((s.cluster c).flag l).toNat % 2 ^ 32)
          ∧ (¬ inMask (s.cluster c) l → u.reg (BBA_LANE_FLAGS_SAT c l).key = s.reg (BBA_LANE_FLAGS_SAT c l).key))

namespace Sys2Proof.Spec

/-- Only registers (and of them those of `keys`) and clusters changed, and of the clusters only `c`. -/
def onlyCluster (c : Nat) (keys : List Nat) (s u : State) : Prop :=
  u = { s with regs := u.regs, clusters := u.clusters } ∧ sameRegs keys s u ∧ ∀ d, d ≠ c → u.cluster d = s.cluster d

end Sys2Proof.Spec

/-- TASK_START of an IDLE cluster with a queued task whose lanes' banks its slice owns and no load on the way there: the task runs from its first
bundle with the task's mask and slice, every lane register cleared, banks and instructions kept; a bank not owned drops the start and
sets OWN_REF and START_REF. TASK_START_WRITE queues a VALID task at its cluster while fewer than 16 wait. POST_START, POST_SET,
POST_KICK, POST_ARM and POST_NOTIFY take the cluster's oldest post that has an action, where it has theirs: a task is queued, a flag is set,
an enabled KICK queue's producer advances, a stage not yet armed is armed at this time, a notify record is written. EV_SET sets the
flag of the selected powered cluster, or notes that it was set. -/
def Obligations.TaskStartsAndPosts : Prop :=
  (∀ (c : Fin 128) (t : Nat) (rest : List Nat) (s : State), (s.cluster c).queue = t :: rest → s.clState c = 1 →
    let pc := s.get (BBA_TASK_CFG_PC t)
    let sl := s.get (BBA_TASK_CFG_SLICE t)
    s.loadHolds c pc = false →
    ((∀ l, l < 64 → (s.taskMask t).getLsbD l = true → s.ownsBank sl c l = true) → completes (.taskStart c) s (fun u =>
      onlyCluster c [(BBA_CL_STATUS_STATE c).key] s u ∧ u.clState c = 2 ∧ u.get (BBA_CL_STATUS_SLICE c) = sl ∧ u.get (BBA_CL_STATUS_PC c) = pc
      ∧ u.cluster c = { ClusterRt.reset with queue := rest, posts := (s.cluster c).posts, banks := (s.cluster c).banks
                                             imem := (s.cluster c).imem, mask := s.taskMask t, pc := pc, ahead := (s.cluster c).ahead }))
    ∧ (∀ l, l < 64 → (s.taskMask t).getLsbD l = true → s.ownsBank sl c l = false → completes (.taskStart c) s (fun u =>
      (u.cluster c).queue = rest ∧ u.clState c = 1 ∧ u.flag (BBA_CL_FLAGS_OWN_REF c) = true
      ∧ u.flag (BBA_START_STATUS_START_REF c) = true)))
  ∧ (∀ (v : Word) (s : State), let t := v.toNat % 1024
    let c := s.get (BBA_TASK_CFG_CL t)
    s.flag (BBA_TASK_CFG_VALID t) = true → (s.cluster c).queue.length < 16 → completes (.taskStartWrite v) s (fun u =>
      (u.cluster c).queue = (s.cluster c).queue ++ [t] ∧ u.clusterOn c = true
      ∧ (s.clusterOn c = true → onlyCluster c [0x600120, 0x600004] s u)
      ∧ (s.clusterOn c = false → u.clState c = 1 ∧ u.flag (BBA_START_STATUS_WAKE_UNPLANNED c) = true)))
  ∧ (∀ (c : Fin 128) (e : Nat) (rest : List Nat) (s : State), s.nextPost c (s.cluster c).posts = some (e, rest) →
    let arg := s.get (BBA_POST_ARG c e)
    (s.postAct c e = 1 → s.flag (BBA_TASK_CFG_VALID (arg % 1024)) = true →
      (s.cluster (s.get (BBA_TASK_CFG_CL (arg % 1024)))).queue.length < 16 → completes (.postStart c) s (fun u =>
      let d := s.get (BBA_TASK_CFG_CL (arg % 1024))
      (u.cluster c).posts = rest ∧ (u.cluster d).queue = (s.cluster d).queue ++ [arg % 1024]))
    ∧ (s.postAct c e = 2 → completes (.postSet c) s (fun u => (u.cluster c).posts = rest
      ∧ u.evFlag (arg % 128) (arg / 128 % 64) = true
      ∧ ∀ i, i < 64 → i ≠ arg / 128 % 64 → u.evFlag (arg % 128) i = s.evFlag (arg % 128) i))
    ∧ (s.postAct c e = 3 → s.flag (BBH_Q_CFG_EN (arg % 64)) = true → s.flag (BBH_Q_CFG_MODE (arg % 64)) = true →
      completes (.postKick c) s (fun u => (u.cluster c).posts = rest
        ∧ (u.helper (arg % 64)).prod = ((s.helper (arg % 64)).prod + arg / 64 % 16 + 1) % 2 ^ 32
        ∧ (u.helper (arg % 64)).cons = (s.helper (arg % 64)).cons ∧ ∀ q, q ≠ arg % 64 → u.helper q = s.helper q))
    ∧ (s.postAct c e = 4 → s.flag (BBA_NRX_ARMED (arg % 256)) = false → completes (.postArm c) s (fun u =>
        (u.cluster c).posts = rest ∧ u.flag (BBA_NRX_ARMED (arg % 256)) = true
        ∧ mapGet (fun _ => 0) u.radio.armedAt (arg % 256) = s.raw))
    ∧ (s.postAct c e = 5 → completes (.postNotify c) s (fun u => (u.cluster c).posts = rest ∧ u.radio.notify = s.radio.notify + 1)))
  ∧ ∀ (v : Word) (s : State), let c := s.winCluster
      s.clusterOn c = true → completes (.evSet v) s (fun u => u.evFlag c (v.toNat % 64) = true
        ∧ (∀ i, i < 64 → i ≠ v.toNat % 64 → u.evFlag c i = s.evFlag c i)
        ∧ (s.evFlag c (v.toNat % 64) = true → u.flag (BBA_START_STATUS_EV_MERGE c) = true))

/-- On a bank of the selected cluster: CLAIM of one neither owned, pending nor degraded, for a FREE slice, gives it the new owner; refused, it sets
LOCK_WR and no ownership. RELEASE of an owned one is pending, with the wipe begun if it is sealed and idle. SEAL seals, but not during a
tamper wipe. BANK_WIPE of a sealed bank that is wiped or pending and idle makes it all zeros and unseals it, in a cluster that is on (in one that is off
it waits); BANK_RELEASE_DONE of a
pending idle unsealed bank leaves it without an owner. BANK_BIST_CHUNK without failing rows replaces the chunk's words by their
corrected contents and goes on in the order, after lane 63 with PASS_DONE. BANK_REPAIR_WRITE in OFF or IDLE stores the entry, else notes LOCK_WR alone, with RSVD_WR for reserved bits. BBA_BIST_RESTART,
FAULT_CLR and LANE_INJECT_ARM of a powered cluster set the order's start, FAULT to IDLE, the injection; of one that is off they
note PWR_OFF_ACC alone. CLUSTER_POWER_OFF of an idle cluster without waiting starts, without a marked window ahead and not woken for one
switches it off, its lane registers cleared. -/
def Obligations.BanksAndClusters : Prop :=
  (∀ (l : Fin 64) (v : Word) (s : State), let c := s.winCluster
    let key := (BBA_BANK_OWN_NEW c l).key
    let new := bitField v.toNat 8 6
    (v.getLsbD 16 = false → v.getLsbD 17 = false →
      (s.flag (BBA_BANK_OWN_PEND c l) = false → s.flag (BBA_BANK_OWN_OWNED c l) = false → s.taken new = false →
        s.flag (BBA_BANK_OWN_DEGRADED c l) = false → completes (.claim l v) s (fun u => onlyRegs [key, 0x600004] s u
          ∧ u.get (BBA_BANK_OWN_OWNER c l) = new ∧ u.flag (BBA_BANK_OWN_OWNED c l) = true))
      ∧ (s.flag (BBA_BANK_OWN_PEND c l) = true ∨ s.flag (BBA_BANK_OWN_OWNED c l) = true ∨ s.taken new = true →
        completes (.claim l v) s (fun u => onlyRegs [key, 0x600004] s u ∧ u.flag (fLockWr 0x600004) = true
          ∧ u.get (BBA_BANK_OWN_OWNER c l) = s.get (BBA_BANK_OWN_OWNER c l)
          ∧ u.flag (BBA_BANK_OWN_OWNED c l) = s.flag (BBA_BANK_OWN_OWNED c l))))
    ∧ (v.getLsbD 15 = false → v.getLsbD 17 = false → s.flag (BBA_BANK_OWN_PEND c l) = false → s.flag (BBA_BANK_OWN_OWNED c l) = true →
        completes (.release l v) s (fun u => onlyRegs [key, 0x600004] s u ∧ u.flag (BBA_BANK_OWN_PEND c l) = true
          ∧ u.flag (BBA_BANK_OWN_WIPING c l) = (s.flag (BBA_BANK_OWN_WIPING c l) || (s.flag (BBA_BANK_OWN_SEAL c l) && !s.laneBusy c l))))
    ∧ (v.getLsbD 15 = false → v.getLsbD 16 = false → s.flag HOL_TAMPER_WIPING = false → completes (.seal l v) s (fun u =>
        onlyRegs [key, 0x600004] s u ∧ u.flag (BBA_BANK_OWN_SEAL c l) = true)))
  ∧ (∀ (c : Fin 128) (l : Fin 64) (s : State),
    (s.flag (BBA_BANK_OWN_PEND c l) = true → s.laneBusy c l = false → s.flag (BBA_BANK_OWN_SEAL c l) = false →
      completes (.bankReleaseDone c l) s (fun u => onlyRegs [(BBA_BANK_OWN_OWNED c l).key] s u
        ∧ u.flag (BBA_BANK_OWN_OWNED c l) = false ∧ u.get (BBA_BANK_OWN_OWNER c l) = 0 ∧ u.flag (BBA_BANK_OWN_PEND c l) = false))
    ∧ (s.flag (BBA_BANK_OWN_SEAL c l) = true →
      (s.flag (BBA_BANK_OWN_WIPING c l) = true ∨ (s.flag (BBA_BANK_OWN_PEND c l) = true ∧ s.laneBusy c l = false)) →
      (s.clusterOn c = false → exec (.bankWipe c l) s = .next s) ∧ (s.clusterOn c = true → completes (.bankWipe c l) s (fun u => onlyCluster c [(BBA_BANK_OWN_SEAL c l).key] s u ∧ (u.cluster c).bank l = memEmpty
        ∧ (∀ j, j ≠ l.val → (u.cluster c).bank j = (s.cluster c).bank j)
        ∧ u.flag (BBA_BANK_OWN_SEAL c l) = false ∧ u.flag (BBA_BANK_OWN_WIPING c l) = false))))
  ∧ (∀ (c : Fin 128) (s : State), let l := s.get (BBA_BIST_STATUS_LANE c)
    let k := s.get (BBA_BIST_STATUS_CHUNK c)
    let n := if k = 4 then 8 else 256
    s.clusterOn c = true → s.flag (BBA_BIST_CTRL_BG_EN c) = true → k ≤ 4 → completes (.bankBistChunk c 0) s (fun u =>
      onlyCluster c [(BBA_BIST_STATUS_LANE c).key] s u
      ∧ (u.cluster c).bank l = ((s.cluster c).bank l).writeWords (256 * k) (((s.cluster c).bank l).readWords (256 * k) n)
      ∧ (∀ j, j ≠ l → (u.cluster c).bank j = (s.cluster c).bank j)
      ∧ (k < 4 → u.get (BBA_BIST_STATUS_CHUNK c) = k + 1 ∧ u.get (BBA_BIST_STATUS_LANE c) = l)
      ∧ (k = 4 → u.get (BBA_BIST_STATUS_CHUNK c) = 0 ∧ u.get (BBA_BIST_STATUS_LANE c) = (l + 1) % 64
          ∧ (l = 63 → u.flag (BBA_BIST_STATUS_PASS_DONE c) = true))))
  ∧ (∀ (j : Fin 512) (v : Word) (s : State), let c := s.winCluster
    (s.clState c = 0 ∨ s.clState c = 1 → completes (.bankRepairWrite j v) s (fun u => onlyRegs [(BBA_REPAIR_ROW c j).key, 0x600004] s u
      ∧ u.get (BBA_REPAIR_ROW c j) = v.toNat % 1024 ∧ u.flag (BBA_REPAIR_VALID c j) = v.getLsbD 31))
    ∧ (s.clState c ≠ 0 → s.clState c ≠ 1 → completes (.bankRepairWrite j v) s (fun u => onlyRegs [0x600004] s u
      ∧ u.reg 0x600004 = s.reg 0x600004 ||| (if v.toNat / 1024 % 2 ^ 21 = 0 then 2 else 3))))
  ∧ (∀ (v : Word) (s : State), let c := s.winCluster
    (s.clusterOn c = true →
      completes .bbaBistRestart s (fun u => onlyRegs [(BBA_BIST_STATUS_LANE c).key] s u ∧ u.get (BBA_BIST_STATUS_LANE c) = 0
        ∧ u.get (BBA_BIST_STATUS_CHUNK c) = 0)
      ∧ completes .faultClr s (fun u => onlyRegs [(BBA_CL_STATUS_STATE c).key] s u
        ∧ u.clState c = (if s.clState c = 3 then 1 else s.clState c))
      ∧ completes (.laneInjectArm v) s (fun u => onlyRegs [(BBA_INJECT_ARM c).key, 0x600004] s u
        ∧ u.get (BBA_INJECT_POINT c) = bitField v.toNat 0 4 ∧ u.get (BBA_INJECT_LANE c) = bitField v.toNat 4 6
        ∧ u.get (BBA_INJECT_BIT c) = bitField v.toNat 10 8 ∧ u.flag (BBA_INJECT_ARM c) = (s.flag (BBA_INJECT_ARM c) || v.getLsbD 31)))
    ∧ (s.clusterOn c = false → ∀ i ∈ [Instr.bbaBistRestart, .faultClr, .laneInjectArm v], completes i s (fun u =>
        onlyRegs [0x600004] s u ∧ u.reg 0x600004 = s.reg 0x600004 ||| 8)))
  ∧ ∀ (c : Fin 128) (s : State), s.clusterOn c = true → s.clState c = 1 → (s.cluster c).queue = [] →
      ((s.cluster c).ahead = false ∨ s.flag DSP_CYC_CTRL_EN = false) → s.noMarkWithin c (s.get BBA_WAKE_CFG_OFF_MIN_US) = true → completes (.clusterPowerOff c) s (fun u =>
        onlyCluster c [(PWR_DOM_CL_ON (c.val / 32)).key, (BBA_CL_STATUS_STATE c).key] s u ∧ u.clusterOn c = false ∧ u.clState c = 0
        ∧ (∀ d, d < 128 → d ≠ c.val → u.clusterOn d = s.clusterOn d) ∧ u.cluster c = { (s.cluster c).clearLanes with ahead := false })

namespace Sys2Proof.Spec

/-- The helper commands: the kind of their descriptors and what an engine does with one. -/
def helperCommands : List ((Fin 64 → Instr) × Nat × (State → Nat → List Word → JobRes)) :=
  [(.nop, 0, jobNop), (.dma, 1, jobDma), (.fft, 2, jobFft), (.ldpcDec, 3, jobLdpcDec), (.ldpcEnc, 4, jobLdpcEnc),
   (.polarDec, 5, jobPolarDec), (.polarEnc, 6, jobPolarEnc), (.expand, 7, jobExpand), (.compress, 8, jobCompress), (.fhTx, 9, jobFhTx)]

end Sys2Proof.Spec

/-- HQ_ENABLE that sets EN of a queue not enabled, with a class to 4: the queue is enabled, without error, and its indices are 0. NOP, DMA,
FFT, LDPC_DEC, LDPC_ENC, POLAR_DEC, POLAR_ENC, EXPAND, COMPRESS and FH_TX, for a queue whose turn it is, with an engine of its class free, whose next descriptor
is of that kind, of its class and without reserved bits: the engine's work is done, the consumer index advances, and the descriptor with its
status and results joins those under way; the descriptor of another kind is left. A body's refusal has status 1 and at most counts the refused references of the slice. The DMA of 16 to
1,048,576 bytes in rows, both references reachable, writes what it reads. HELPER_COMPLETION takes descriptor k off those under
way; asked for neither event nor record it does nothing more; asked for an event alone it sets the flag. -/
def Obligations.HelperQueues : Prop :=
  (∀ (q : Fin 64) (v : Word) (s : State), s.flag (BBH_Q_CFG_EN q) = false → v.getLsbD 6 = true → bitField v.toNat 0 3 ≤ 4 →
    completes (.hqEnable q v) s (fun u => u.flag (BBH_Q_CFG_EN q) = true ∧ u.flag (BBH_Q_CFG_QERR q) = false
      ∧ u.get (BBH_Q_CFG_CLASS q) = bitField v.toNat 0 3 ∧ u.get (BBH_Q_CFG_SLICE q) = bitField v.toNat 7 6
      ∧ (u.helper q).prod = 0 ∧ (u.helper q).cons = 0 ∧ (u.helper q).done = 0 ∧ (u.helper q).jobs = (s.helper q).jobs
      ∧ (∀ p, p ≠ q.val → u.helper p = s.helper p) ∧ u = { s with regs := u.regs, radio := u.radio }
      ∧ sameRegs [(BBH_Q_CFG_EN q).key, (BBH_Q_STATUS_CONS q).key, 0x700004] s u))
  ∧ (∀ e ∈ helperCommands, ∀ (q : Fin 64) (s : State) (w : List Word), s.hqTurn q = true → s.tiersOpen = true →
      s.engineFree (s.get (BBH_Q_CFG_CLASS q)) = true → (s.hqDesc q).1 = some w →
    (df w 0 0 4 = e.2.1 → df w 0 20 12 = 0 → (∀ k, kindClass (df w 0 0 4) = some k → k = s.get (BBH_Q_CFG_CLASS q)) →
      completes (e.1 q) s (fun u => let r := (s.hqDesc q).2.deadWrite w (e.2.2 (s.hqDesc q).2 q w)
        (u.helper q).cons = ((s.helper q).cons + 1) % 2 ^ 32 ∧ (u.helper q).prod = (s.helper q).prod
        ∧ (u.helper q).jobs = (s.helper q).jobs
            ++ [⟨(s.helper q).cons % 2 ^ s.get (BBH_Q_CFG_LOG2 q), w, r.status, r.r0, r.r1, r.msg⟩]
        ∧ u.mem = r.st.mem ∧ u.clusters = r.st.clusters ∧ u.tiles = r.st.tiles ∧ u.eth = r.st.eth))
    ∧ (df w 0 0 4 ≠ e.2.1 → df w 0 0 4 ≤ 9 → exec (e.1 q) s = .next s)
    ∧ ∀ st : State, (e.2.2 st q w).status = 1 → (e.2.2 st q w).r0 = 0
        ∧ ((e.2.2 st q w).st = st ∨ ∃ n, 0 < n ∧ (e.2.2 st q w).st = st.count (SLC_REFUSE (st.hqSlice q)) n))
  ∧ (∀ (s : State) (q : Nat) (w : List Word), let n := dw w 6
    let sl := s.hqSlice q
    n % 16 = 0 → 16 ≤ n → n ≤ 1048576 → s.refOk sl (dref w 2) 0 n = true → s.refOk sl (dref w 4) 0 n = true →
    let r := s.refRead sl (dref w 2) 0 n
    (jobDma s q w).st = r.2.refWrite sl (dref w 4) 0 r.1 ∧ (jobDma s q w).status = (if markedM r.1 then 2 else 0))
  ∧ ∀ (q : Fin 64) (k : Nat) (s : State) (j : HelperJob), (s.helper q).jobs[k]? = some j → j.msg = none → s.tiersOpen = true → df j.words 0 5 1 = 0 →
      completes (.helperCompletion q k) s (fun u => (u.helper q).jobs = (s.helper q).jobs.eraseIdx k ∧ (u.helper q).cons = (s.helper q).cons
        ∧ (df j.words 0 6 1 = 0 → u = { s with regs := u.regs, radio := u.radio } ∧ sameRegs [(BBH_Q_STATUS_CONS q).key] s u)
        ∧ (df j.words 0 6 1 = 1 → u.evFlag (df j.words 0 13 7) (df j.words 0 7 6) = true) ∧ u.mem = s.mem ∧ u.tiles = s.tiles)

/-- FH_SYMBOL_COMPLETE of an enabled entry's symbol whose resource blocks are all written, by its number modulo the symbols of 1,024 frames: the symbol has completed,
nothing counts as missing, and the entry's event flag, if it has one, is set. FH_TX_LAUNCH of a head message that the scheduler puts on the wire now
is that start; of a late one it is what ETH_TX_LATE does. STAGE_OUTCOME of a stage whose windows have ended with result r: LAST shows r, or DETECTED where a
detector struck a running one, the stage is disarmed, its groups are free of it, and a notify record is written. PROG_START with an image
that passes the checks is BUSY with its bundles; with one that fails it reports error and detail. PROG_LOAD_DONE puts the bundles, from the first bundle
address, into every target cluster and reports DONE without error, when the targets are on and none runs a task; while one runs a task nothing changes. -/
def Obligations.RadioPipeline : Prop :=
  (∀ (i : Fin 4096) (g : Nat) (s : State) (x : FhSym), s.flag (BBH_FH_MAP_CFG_EN i) = true → s.fhSym i (s.gWrap i g) = some x → x.done = false →
    (∀ p, p < s.get (BBH_CAR_CFG_NRB (s.get (BBH_FH_MAP_CFG_CAR i))) → p ∈ x.got) →
    completes (.fhSymbolComplete i g) s (fun u => u.fhSym i (s.gWrap i g) = some { x with done := true } ∧ u.mem = s.mem ∧ u.ctrs = s.ctrs
      ∧ (s.flag (BBH_FH_MAP_STR_EVV i) = true →
          u.evFlag (if bitField (s.fhDst i) 62 2 = 0 then s.fhDst i % 128 else 0) (s.get (BBH_FH_MAP_STR_EV i)) = true)
      ∧ (s.flag (BBH_FH_MAP_STR_EVV i) = false → u = { s with radio := u.radio })))
  ∧ (∀ (q : Fin 128) (ph : Fin 8) (s : State) (q0 : Nat) (m : TxMsg), s.txHead q = some (.msg q0 m) →
    let p := s.get (TSH_TXQ_CFG_PORT q)
    (s.txIsLate p (.msg q m) = false → ∀ m' st, ((s.txStart p ph).ethPort p).wire = some (.msg q.val m', st) →
      exec (.fhTxLaunch q ph) s = .next (s.txStart p ph))
    ∧ (s.txIsLate p (.msg q m) = true → ∀ k : Fin 1024, k.val = q.val → exec (.fhTxLaunch q ph) s = exec (.ethTxLate k) s))
  ∧ (∀ (st : Fin 256) (s : State), let r := mapGet (fun _ => 0) s.radio.stageRes st
    1 ≤ r → r < 8 → completes (.stageOutcome st) s (fun u =>
      mapGet (fun _ => 0) u.radio.stageRes st = 0 ∧ u.flag (BBA_NRX_ARMED st) = false
      ∧ (r = 1 ∧ (∃ g, g < 64 ∧ (s.group g).stage = some st.val ∧ (s.group g).det = true) → u.get (BBA_NRX_LAST st) = 4)
      ∧ (¬ (r = 1 ∧ ∃ g, g < 64 ∧ (s.group g).stage = some st.val ∧ (s.group g).det = true) → u.get (BBA_NRX_LAST st) = r)
      ∧ (∀ g, g < 64 → (u.group g).stage ≠ some st.val) ∧ s.radio.notify < u.radio.notify))
  ∧ (∀ (ok : Bool) (host : List Byte) (sig : Bool) (s : State), s.flag BBA_PROG_STATUS_BUSY = false → (s.get BBA_PROG_SRC_SPACE = 0 ∨ s.tiersOpen = true) →
    let t := (s.progCheck ok host sig).2
    (∀ ds, (s.progCheck ok host sig).1 = .inr ds → completes (.progStart ok host sig) s (fun u => u.flag BBA_PROG_STATUS_BUSY = true
      ∧ u.radio = { t.radio with prog := ds, progAt := (s.get BBA_PROG_DST_CL_FIRST, s.get BBA_PROG_DST_CL_COUNT, s.get BBA_PROG_DST_BUNDLE) }
      ∧ sameRegs [0x600214] t u ∧ u = { t with regs := u.regs, radio := u.radio }
      ∧ (s.get BBA_PROG_SRC_SPACE = 0 → s.dmaOpen = true → t = { s with out := t.out })))
    ∧ (∀ e, (s.progCheck ok host sig).1 = .inl e →
      completes (.progStart ok host sig) s (fun u => u.get BBA_PROG_STATUS_ERR = e.1 % 16 ∧ u.get BBA_PROG_STATUS_DETAIL = e.2 % 4096
        ∧ u.flag BBA_PROG_STATUS_DONE = true ∧ u.flag BBA_PROG_STATUS_BUSY = false ∧ u.clusters = s.clusters)))
  ∧ ∀ s : State, s.flag BBA_PROG_STATUS_BUSY = true →
    ((∃ i, i < s.radio.progAt.2.1 ∧ s.clState (s.radio.progAt.1 + i) = clRun) → exec .progLoadDone s = .next s)
    ∧ ((∀ i, i < s.radio.progAt.2.1 → s.clState (s.radio.progAt.1 + i) ≠ clRun ∧ s.clusterOn (s.radio.progAt.1 + i) = true) →
      completes .progLoadDone s (fun u => let p := s.radio.progAt
      u.flag BBA_PROG_STATUS_BUSY = false ∧ u.flag BBA_PROG_STATUS_DONE = true ∧ u.get BBA_PROG_STATUS_ERR = 0
      ∧ (∀ i, i < p.2.1 → u.cluster (p.1 + i) = { s.cluster (p.1 + i) with
          imem := (s.cluster (p.1 + i)).imem.writeWords p.2.2 (s.radio.prog.map (fun d => ⟨d, false⟩)) })
      ∧ ∀ c, c < p.1 ∨ p.1 + p.2.1 ≤ c → u.cluster c = s.cluster c))

/-- CREATE of a FREE slice that passes every check makes it LIVE with its CAUSE kept, an empty mailbox and an empty stream engine; each of its groups was
present, not quarantined, and held by no slice. One that fails shows the first failing check's cause and stays FREE; a slice that
is not FREE only notes LOCK_WR. DESTROY of a LIVE slice leaves it FREE, DESTROYING or WAIT_EPOCH with every extent-table entry of its
windows invalid; of any other it only notes LOCK_WR. SLICE_FREE of a slice being destroyed that waits for nothing any more makes it FREE with its event. LOG_ENABLE of an
idle slot stores the slice and EN; SWAP, unless busy, makes the other buffer, cleared, the active one; SWAP_DONE ends it, when no write of the slice is held. EXPORT of a
stopped slice writes its record's bytes at the address; IMPORT of a record that passes takes step and ring indices from it, of one that fails
shows the failure alone; both set XFER_DONE, and clear XFER_ERR where they succeed, and where the slice may not transfer they set XFER_ERR 1 alone. -/
def Obligations.SliceLifecycle : Prop :=
  (∀ (sl : Fin 64) (s : State),
    (s.taken sl = false → s.createCause sl = none → completes (.create sl) s (fun u =>
      u.get (SLC_STATE_STATE sl) = 1 ∧ u.get (SLC_STATE_CAUSE sl) = s.get (SLC_STATE_CAUSE sl) ∧ u.get (SLC_MBX_REQ_PROD_INDEX sl) = 0
      ∧ u.get (SLC_MBX_REQ_CONS_INDEX sl) = 0 ∧ u.get (SLC_MBX_RSP_PROD_INDEX sl) = 0 ∧ u.get (SLC_MBX_RSP_CONS_INDEX sl) = 0
      ∧ u.stream sl = { StreamRt.reset with prof := (s.stream sl).prof }
      ∧ (∀ j, j ≠ sl.val → j < 64 → u.get (SLC_STATE_STATE j) = s.get (SLC_STATE_STATE j) ∧ u.stream j = s.stream j)
      ∧ (∀ g, g < 64 → s.granted sl g = true → s.present g = true ∧ s.quarantined g = false ∧ s.holder g = none)
      ∧ u = { s with regs := u.regs, streams := u.streams, cyc := u.cyc }))
    ∧ (∀ c, s.taken sl = false → s.createCause sl = some c → completes (.create sl) s (fun u =>
      onlyRegs [(SLC_STATE_CAUSE sl).key] s u ∧ u.get (SLC_STATE_CAUSE sl) = c ∧ u.taken sl = false))
    ∧ (s.taken sl = true → completes (.create sl) s (fun u => onlyRegs [0xC00004] s u ∧ u.reg 0xC00004 = s.reg 0xC00004 ||| 2))
    ∧ (s.live sl = true → completes (.destroy sl) s (fun u => u.get (SLC_STATE_STATE sl) ∈ [0, 2, 3]
      ∧ ∀ w ∈ allWindows, ∀ i, i < u.winCount sl w → u.flag (MEM_XT_VALID (u.winBase sl w + i)) = false))
    ∧ (s.live sl = false → completes (.destroy sl) s (fun u => onlyRegs [0xC00004] s u ∧ u.reg 0xC00004 = s.reg 0xC00004 ||| 2))
    ∧ (s.get (SLC_STATE_STATE sl) ∈ [2, 3] → s.hasBank sl = false → s.waitGroups sl = ([], []) → completes (.sliceFree sl) s (fun u =>
        u.get (SLC_STATE_STATE sl) = 0 ∧ u.flag (SLC_EVENT_FREED sl) = true)))
  ∧ (∀ (k : Fin 4) (v : Word) (s : State),
    (s.flag (SLC_LOG_CTRL_EN k) = false → v.getLsbD 9 = false → completes (.logEnable k v) s (fun u =>
      u.get (SLC_LOG_CTRL_SLICE k) = v.toNat % 64 ∧ u.flag (SLC_LOG_CTRL_EN k) = v.getLsbD 8
      ∧ sameRegs [(SLC_LOG_CTRL_EN k).key, 0xC00004] s u ∧ u.mem.tierB = s.mem.tierB
      ∧ (v.getLsbD 8 = false → u.mem = s.mem)
      ∧ (v.getLsbD 8 = true → u.get (SLC_LOG_CTRL_ACTIVE k) = 0
          ∧ u.mem.tierA = (s.mem.tierA.zeroRange (logBuffer k 0) 100663296).zeroRange (logBuffer k 1) 100663296)))
    ∧ (s.flag (SLC_LOG_CTRL_SWAP_BUSY k) = false → completes (.swap k) s (fun u =>
        u.get (SLC_LOG_CTRL_ACTIVE k) = 1 - s.get (SLC_LOG_CTRL_ACTIVE k) ∧ u.flag (SLC_LOG_CTRL_SWAP_BUSY k) = true
        ∧ sameRegs [(SLC_LOG_CTRL_ACTIVE k).key] s u
        ∧ u.mem = { s.mem with tierA := s.mem.tierA.zeroRange (logBuffer k (1 - s.get (SLC_LOG_CTRL_ACTIVE k))) 100663296 }))
    ∧ (s.flag (SLC_LOG_CTRL_SWAP_BUSY k) = true → completes (.swap k) s (fun u => onlyRegs [0xC00004] s u))
    ∧ (s.logHeld k = false → completes (.swapDone k) s (fun u => onlyRegs [(SLC_LOG_CTRL_SWAP_BUSY k).key] s u ∧ u.flag (SLC_LOG_CTRL_SWAP_BUSY k) = false))
    ∧ (s.logHeld k = true → exec (.swapDone k) s = .next s))
  ∧ ∀ (sl : Fin 64) (s : State),
      (s.xferOk sl = false → ∀ i ∈ [Instr.exportSlice sl, .importSlice sl], completes i s (fun u =>
        onlyRegs [(SLC_STATE_XFER_ERR sl).key] s u ∧ u.get (SLC_STATE_XFER_ERR sl) = 1))
      ∧ (s.xferOk sl = true → s.tiersOpen = true → (∀ k, k < 4 → s.flag (SLC_LOG_CTRL_EN k) = false) → completes (.exportSlice sl) s (fun u => let b := s.xferBody sl
        u.get (SLC_STATE_XFER_ERR sl) = 0 ∧ u.flag (SLC_EVENT_XFER_DONE sl) = true
        ∧ u.mem = (s.devWrite false (s.xferAddr sl) (cleanM (xferHead b ++ b))).2.mem ∧ u.tiles = s.tiles ∧ u.slices = s.slices))
      ∧ (s.xferOk sl = true → s.tiersOpen = true →
        let r := s.importRead sl
        let d := r.2.1
        (r.1 ≠ 0 → completes (.importSlice sl) s (fun u => u.get (SLC_STATE_XFER_ERR sl) = r.1 ∧ u.flag (SLC_EVENT_XFER_DONE sl) = true
          ∧ u.mem = r.2.2.mem ∧ u.stream sl = r.2.2.stream sl ∧ u.slice sl = r.2.2.slice sl))
        ∧ (r.1 = 0 → completes (.importSlice sl) s (fun u =>
          u.get (SLC_STATE_XFER_ERR sl) = 0 ∧ u.flag (SLC_EVENT_XFER_DONE sl) = true ∧ (u.slice sl).nextRelease = leField d 0x10 8
          ∧ u.get64 (DSP_SLC_STEP_LO_STEP sl) (DSP_SLC_STEP_HI_STEP sl) = leField d 0x10 8
          ∧ (u.stream sl).headA = leField d 0x20 4 ∧ (u.stream sl).tailA % 2 ^ 32 = leField d 0x24 4
          ∧ (u.stream sl).headB = leField d 0x28 4 ∧ (u.stream sl).tailB % 2 ^ 32 = leField d 0x2C 4
          ∧ (u.stream sl).tailA - (u.stream sl).headA < 2 ^ 32 ∧ u.tiles = s.tiles)))

namespace Sys2Proof.Spec

/-- A doorbell write of a slice that is not LIVE is ignored; one of a LIVE slice that is refused changes no index: it sets DB_REF and counts. -/
def doorbellRules (cmd : Instr) (sl : Nat) (ok : Prop) (s : State) (P : State → Prop) : Prop :=
  (s.live sl = false → exec cmd s = .next s)
  ∧ (s.live sl = true → ok → completes cmd s P)
  ∧ (s.live sl = true → ¬ ok → completes cmd s (fun u => u.flag (SLC_EVENT_DB_REF sl) = true
      ∧ u.ctr (SLC_REFUSE sl) = (s.count (SLC_REFUSE sl) 1).ctr (SLC_REFUSE sl)
      ∧ u = { s with regs := u.regs, ctrs := u.ctrs, out := u.out, pcie := u.pcie }
      ∧ sameRegs [(SLC_EVENT_DB_REF sl).key, 0xC00004, 0x1000014] s u ∧ sameCtrs [SLC_REFUSE sl] s u))

/-- R318: the new index is within the ring's size of the old producer and of the consumer, modulo 2^32. -/
def inRing (p c n v : Nat) : Prop := (v + 2 ^ 32 - p) % 2 ^ 32 ≤ n ∧ (v + 2 ^ 32 - c) % 2 ^ 32 ≤ n

end Sys2Proof.Spec

/-- MBX_REQ_PROD, MBX_RSP_CONS, STM_CMD_PROD, HQ_PROD, ETX_PROD and ERX_PROD of a slice that is not LIVE do nothing. Of a LIVE slice a
value in range of its ring, for a queue that is enabled and the slice's, becomes the index (a new mailbox request also sets
MBX_REQ), and nothing else of the queue changes; any other value is refused: no index changes, DB_REF is set and SLC_REFUSE counts.
MBX_RSP_PROD_WRITE of a LIVE slice stores the index and raises the slice's source; of another it only notes LOCK_WR. -/
def Obligations.DoorbellWrites : Prop :=
  ∀ (sl : Fin 64) (v : Word) (s : State), let n := 2 ^ s.get (SLC_WEIGHT_MBX_LOG2 sl)
    let x := v.toNat
    doorbellRules (.mbxReqProd sl v) sl
      (inRing (s.get (SLC_MBX_REQ_PROD_INDEX sl)) (s.get (SLC_MBX_REQ_CONS_INDEX sl)) n x) s (fun u =>
        u.get (SLC_MBX_REQ_PROD_INDEX sl) = x ∧ u.get (SLC_MBX_REQ_CONS_INDEX sl) = s.get (SLC_MBX_REQ_CONS_INDEX sl)
        ∧ (x ≠ s.get (SLC_MBX_REQ_PROD_INDEX sl) → u.flag (SLC_EVENT_MBX_REQ sl) = true)
        ∧ (x = s.get (SLC_MBX_REQ_PROD_INDEX sl) → u = s))
    ∧ doorbellRules (.mbxRspCons sl v) sl
      (let p := s.get (SLC_MBX_RSP_CONS_INDEX sl)
       (x + 2 ^ 32 - p) % 2 ^ 32 ≤ n ∧ (x + 2 ^ 32 - p) % 2 ^ 32 ≤ (s.get (SLC_MBX_RSP_PROD_INDEX sl) + 2 ^ 32 - p) % 2 ^ 32) s (fun u =>
        onlyRegs [(SLC_MBX_RSP_CONS_INDEX sl).key] s u ∧ u.get (SLC_MBX_RSP_CONS_INDEX sl) = x)
    ∧ doorbellRules (.stmCmdProd sl v) sl
      (s.flag (STM_SLC_CTRL_ENABLE sl) = true
        ∧ inRing (s.stream sl).cmdProd (s.stream sl).cmdCons (2 ^ profCmdLog (s.stream sl).prof) x) s (fun u =>
        u.stream sl = { s.stream sl with cmdProd := x } ∧ (∀ j, j ≠ sl.val → u.stream j = s.stream j) ∧ u = { s with streams := u.streams })
    ∧ (∀ q : Fin 64, doorbellRules (.hqProd sl q v) sl
        (s.hqSlice q = sl ∧ s.flag (BBH_Q_CFG_EN q) = true ∧ s.flag (BBH_Q_CFG_MODE q) = false
          ∧ inRing (s.helper q).prod (s.helper q).cons (2 ^ s.get (BBH_Q_CFG_LOG2 q)) x) s (fun u =>
        u.helper q = { s.helper q with prod := x } ∧ ∀ j, j ≠ q.val → u.helper j = s.helper j))
    ∧ (∀ j : Fin 256,
        (let q := (s.txRange sl).1 + j.val
         doorbellRules (.etxProd sl j v) sl
          (j.val < (s.txRange sl).2 ∧ s.flag (TSH_TXQ_CFG_EN q) = true
            ∧ inRing (s.txq q).prod (s.get (TSH_TXQ_STATUS_CONS q)) (2 ^ s.get (TSH_TXQ_CFG_LOG2 q)) x) s (fun u =>
          u.txq q = { s.txq q with prod := x } ∧ ∀ i, i ≠ q → u.txq i = s.txq i))
        ∧ (let q := (s.rxRange sl).1 + j.val
           doorbellRules (.erxProd sl j v) sl
            (j.val < (s.rxRange sl).2 ∧ s.flag (TSH_RXQ_CFG_EN q) = true
              ∧ inRing (s.rxq q).prod (s.get (TSH_RXQ_STATUS_CONS q)) (2 ^ s.get (TSH_RXQ_CFG_LOG2 q)) x) s (fun u =>
            u.rxq q = { s.rxq q with prod := x } ∧ ∀ i, i ≠ q → u.rxq i = s.rxq i)))
    ∧ (s.live sl = true → completes (.mbxRspProdWrite sl v) s (fun u => u.get (SLC_MBX_RSP_PROD_INDEX sl) = x
        ∧ ∃ w : State, u = w.raise (64 + 16 * sl.val) ∧ onlyRegs [(SLC_MBX_RSP_PROD_INDEX sl).key] s w))
    ∧ (s.live sl = false → completes (.mbxRspProdWrite sl v) s (fun u => onlyRegs [0xC00004] s u ∧ u.reg 0xC00004 = s.reg 0xC00004 ||| 2))

/-- CYC_WIN_WRITE stores a word of the inactive bank unless a switch is pending, else notes LOCK_WR alone. SWITCH of a bank that fails a check shows
its error and window alone; of one that passes it pends while the table is enabled, and else the banks change places. CYC_EN. CYCLIC_WINDOW_START
starts the window that T lies in, once, or once more after time stepped back: the table is in force while enabled from the first window of a frame. A group is lent by
state LENT. GROUP_RETURN of a lent group that is due gives back the state it had and its tiles their contexts. SAVE of a
slice at work pends; of slice 0 (model's choice, log entry 117) and of one stopped, faulted, preempted, FREE or sealed it notes LOCK_WR. GROUP_SAVE_BEGIN of a quiet
group at a boundary or idle, that fits before its next run, its slice not HELD or the save for a replay, is in SAVE; GROUP_SAVED in its turn leaves it SAVED,
intact where it stays powered. RESTORE of a PREEMPTED slice makes all its groups wait for restoring; GROUP_RESTORED in its turn leaves a
group in RESTORE at a BOUNDARY with a resume prologue due. Out of its turn either changes nothing. -/
def Obligations.CyclicTableAndPreemption : Prop :=
  (∀ (b : Fin 2) (j : Fin 1280) (w : Fin 8) (v : Word) (s : State),
    (b.val ≠ s.get DSP_CYC_CTRL_ACTIVE → s.flag DSP_CYC_CTRL_PEND = false → completes (.cycWinWrite b j w v) s (fun u =>
      onlyRegs [(DSP_CYC_WIN_WORD b j w).key] s u ∧ u.winWord b j w = v.toNat))
    ∧ (b.val = s.get DSP_CYC_CTRL_ACTIVE ∨ s.flag DSP_CYC_CTRL_PEND = true → completes (.cycWinWrite b j w v) s (fun u =>
      onlyRegs [0x200004] s u ∧ u.reg 0x200004 = s.reg 0x200004 ||| 2)))
  ∧ (∀ s : State,
    (∀ e, s.bankErr (1 - s.get DSP_CYC_CTRL_ACTIVE) = some e → completes .switch s (fun u => onlyRegs [DSP_CYC_CTRL_ERR.key] s u
      ∧ u.get DSP_CYC_CTRL_ERR = e.1 ∧ u.get DSP_CYC_CTRL_ERR_WIN = e.2 ∧ u.get DSP_CYC_CTRL_ACTIVE = s.get DSP_CYC_CTRL_ACTIVE))
    ∧ (s.bankErr (1 - s.get DSP_CYC_CTRL_ACTIVE) = none → completes .switch s (fun u => u.cyc.valid = true
      ∧ (s.flag DSP_CYC_CTRL_EN = true → u.flag DSP_CYC_CTRL_PEND = true ∧ u.get DSP_CYC_CTRL_ACTIVE = s.get DSP_CYC_CTRL_ACTIVE)
      ∧ (s.flag DSP_CYC_CTRL_EN = false → u.flag DSP_CYC_CTRL_PEND = false ∧ u.get DSP_CYC_CTRL_ACTIVE = 1 - s.get DSP_CYC_CTRL_ACTIVE
          ∧ u.flag DSP_CYC_EVENT_SWITCHED = true)))
    ∧ completes (.cycEn false) s (fun u => onlyRegs [DSP_CYC_CTRL_EN.key] s u ∧ u.flag DSP_CYC_CTRL_EN = false)
    ∧ (s.live 0 = true → s.cyc.valid = true → completes (.cycEn true) s (fun u =>
        onlyRegs [DSP_CYC_CTRL_EN.key] s u ∧ u.flag DSP_CYC_CTRL_EN = true))
    ∧ (s.live 0 = false ∨ s.cyc.valid = false → completes (.cycEn true) s (fun u => onlyRegs [DSP_CYC_CTRL_ERR.key] s u
        ∧ u.get DSP_CYC_CTRL_ERR = 1 ∧ u.flag DSP_CYC_CTRL_EN = s.flag DSP_CYC_CTRL_EN))
    ∧ (s.time.counts = false ∨ (s.cyc.lastWin = some s.windowNow ∧ s.cyc.again = false) → exec .cyclicWindowStart s = .next s)
    ∧ (s.time.counts = true → s.cyc.lastWin ≠ some s.windowNow ∨ s.cyc.again = true → completes .cyclicWindowStart s (fun u =>
        u.cyc.lastWin = some s.windowNow ∧ u.cyc.again = false
        ∧ u.cyc.force = (s.flag DSP_CYC_CTRL_EN && (s.cyc.force || decide (s.windowNow = 0)))
        ∧ (s.flag DSP_CYC_CTRL_EN = false → s.flag DSP_CYC_CTRL_PEND = false → s.cyc.force = false →
            u = { s with cyc := u.cyc, radio := u.radio }))))
  ∧ (∀ (g : Fin 64) (s : State), let st := s.get (DSP_GRP_STATE_STATE g)
    (st ∉ [4, 5, 7] → s.quarantined g = false → (s.lendGroup g).get (DSP_GRP_STATE_STATE g) = 4)
    ∧ (st = 4 → (s.group g).retPend = true → (s.group g).rrunning = false → completes (.groupReturn g) s (fun u =>
        u.get (DSP_GRP_STATE_STATE g) = (s.group g).before % 8 ∧ (u.group g).retPend = false ∧ (u.group g).stage = none
        ∧ ∀ t ∈ groupTiles g, (∀ c r, (s.tile t).saved = some (c, r) → (u.tile t).cx = c ∧ (u.tile t).run = r ∧ (u.tile t).saved = none)
            ∧ ((s.tile t).saved = none → (u.tile t).cx = TileCtx.empty ∧ (u.tile t).run = TileRun.reset)))
    ∧ (let sl := s.get (DSP_GRP_STATE_SLICE g)
       ((s.flag (DSP_SLC_SAVE_SAVE_PEND sl) = true ∧ s.get (DSP_SLC_STATE_STATE sl) ≠ 4) ∨ (s.group g).saveFor.isSome = true) → (s.sliceGroups sl).contains g.val = true →
        (st = 3 ∨ st = 1) → (s.group g).running = false → s.groupQuiet g = true → s.saveFits g = true →
        completes (.groupSaveBegin g) s (fun u => u.get (DSP_GRP_STATE_STATE g) = 5
          ∧ (∀ t ∈ groupTiles g, u.get (TIL_STATE_MODE t) = 5) ∧ u = { s with regs := u.regs }))
    ∧ (st = 5 → s.saveTurn g = true → s.tiersOpen = true → completes (.groupSaved g) s (fun u => u.get (DSP_GRP_STATE_STATE g) = 6
        ∧ (s.flag (DSP_SLC_SAVE_SAVE_OFF (s.get (DSP_GRP_STATE_SLICE g))) = false → u.flag (DSP_GRP_GUARD_INTACT g) = true)))
    ∧ (st = 5 → s.saveTurn g = false → exec (.groupSaved g) s = .next s)
    ∧ (st = 7 → s.saveTurn g = false → exec (.groupRestored g) s = .next s)
    ∧ (st = 7 → s.saveTurn g = true → s.tiersOpen = true → completes (.groupRestored g) s (fun u => u.get (DSP_GRP_STATE_STATE g) = 3 ∧ (u.group g).restoring = false
        ∧ (u.group g).resume = true ∧ u.flag (DSP_GRP_GUARD_INTACT g) = false))
    ∧ (st ≠ 7 → exec (.groupRestored g) s = .next (s.beginRestore g)))
  ∧ ∀ (sl : Fin 64) (s : State), let st := s.get (DSP_SLC_STATE_STATE sl)
      (sl ≠ 0 → s.taken sl = true → st ∉ [0, 5, 7] → s.sealedSlice sl = false → completes (.save sl) s (fun u => u.flag (DSP_SLC_SAVE_SAVE_PEND sl) = true))
      ∧ (sl = 0 ∨ s.taken sl = false ∨ st ∈ [0, 5, 7] ∨ s.sealedSlice sl = true → completes (.save sl) s (fun u => onlyRegs [0x200004] s u
          ∧ u.reg 0x200004 = s.reg 0x200004 ||| 2))
      ∧ (st = 5 → completes (.restore sl) s (fun u => ∀ g ∈ s.sliceGroups sl, (u.group g).restoring = true))
      ∧ (st ≠ 5 → completes (.restore sl) s (fun u => onlyRegs [0x200004] s u ∧ u.reg 0x200004 = s.reg 0x200004 ||| 2))

namespace Sys2Proof.Spec

/-- Of a step of the Dravsel block nothing changed but its own state, registers, counters, what leaves the part, the interrupt
messages that wait, and the manager's records. -/
def fabricOnly (s u : State) : Prop :=
  u = { s with regs := u.regs, ctrs := u.ctrs, out := u.out, pcie := u.pcie, integ := u.integ, drv := u.drv }

/-- Port `p` left UP for state `st` with a cause: the event bits are set, no request waits for an answer to an attempt on that port, no
request was lost, and every other port is as before. -/
def leftUp (p cause st : Nat) (s u : State) : Prop :=
  fabricOnly s u ∧ u.get (DRV_PORT_STATUS_STATE p) = st ∧ u.get (DRV_PORT_STATUS_CAUSE p) = cause
  ∧ u.flag (DRV_PORT_STATUS_DOWN_EVT p) = true ∧ u.flag DRV_EVENT_PORT_DOWN = true
  ∧ (∀ y ∈ u.drv.pend, y.port ≠ some p)
  ∧ u.drv.pend.map (fun x => (x.pkt.dst, x.pkt.flow, x.pkt.seq)) = s.drv.pend.map (fun x => (x.pkt.dst, x.pkt.flow, x.pkt.seq))
  ∧ ∀ q, q < 12 → q ≠ p → u.get (DRV_PORT_STATUS_STATE q) = s.get (DRV_PORT_STATUS_STATE q)

/-- A packet arrives whole on an UP port that no injection strikes. -/
def comesIn (port : Option (Fin 12)) (ok : Bool) (s : State) : Prop :=
  ok = true ∧ ∃ n, port = some n ∧ s.portUp n = true ∧ s.drvInj 2 n = false ∧ s.drvInj 3 n = false

/-- A request or commit message for this part, of a device that is not fenced, passes the epoch check, comes on its flow, lies in its window, and is neither applied
nor waiting (R387, R400). -/
def isNew (port : Option (Fin 12)) (ok : Bool) (q : Packet) (s : State) : Prop :=
  let e := (s.get DRV_EPOCH_EPOCH + 2 ^ 16 - q.epoch) % 2 ^ 16
  comesIn port ok s ∧ q.dst = s.self ∧ s.admitted = true ∧ (e = 0 ∨ e = 1) ∧ s.member q.src ≠ memFenced
  ∧ ((q.typ = pktReq ∧ q.flow = flowOf s.self) ∨ (q.typ = pktCtrl ∧ q.flow = 255))
  ∧ (q.seq + 2 ^ 32 - (s.win q).f) % 2 ^ 32 < 4096 ∧ q.seq ∉ (s.win q).applied ∧ s.waits q = false

/-- The outcome of a request that has been performed in state `w`: its number is entered in its window as applied, with the outcome
that a duplicate is answered from, and the answer is sent. -/
def answeredOk (q : Packet) (typ : Nat) (body : List (Byte × Bool)) (w : State) : State := (w.enterWin q (.ok body)).answer q typ 0 body

/-- A tier region's tier is open (R202). -/
def tierThere (h : Held) (s : State) : Prop := h.kind ≠ kindTile → s.tierOpen (decide (h.kind = 1)) = true

/-- What a request that passed its checks and need not wait does: the state after it, and the body of its answer (R371 to R377). -/
def performed (h : Held) (s : State) : List (Byte × Bool) × State :=
  let q := h.pkt
  let o := fabOffset q.addr
  let chunks := (List.range 8).filter (fun i => q.mask.testBit i)
  if q.op = 0 then
    (List.range 8).foldl (fun (acc : List MByte × State) i =>
      if q.mask.testBit i then
        let r := acc.2.fabRead h (o + 16 * i) 16
        (acc.1 ++ r.1.getD (List.replicate 16 (0, true)), r.2)
      else (acc.1 ++ List.replicate 16 (0, false), acc.2)) ([], s)
  else if q.op = 3 then
    let r := s.fabRead h o 8
    let old := r.1.getD (List.replicate 8 (0, true))
    let x := bytesToNat (bytesM old)
    let y := bytesToNat (bytesM (q.body.take 8))
    let z := bytesToNat (bytesM ((q.body.drop 8).take 8))
    let new := if q.fop % 16 = 8 then (x + y) % 2 ^ 64 else if q.fop % 16 = 9 then y else if x = z then y else x
    (old ++ List.replicate 8 (0, false),
      (if markedM old then r.2 else r.2.fabWrite h o (cleanM (natToBytes 8 new))).refreshSlice h.slice)
  else
    let w := if q.op = 2 then
        chunks.foldl (fun a i =>
          let r := a.fabRead h (o + 16 * i) 16
          r.2.fabWrite h (o + 16 * i) (redChunk q.fop (r.1.getD (List.replicate 16 (0, true))) (redPart q.fop q.body i))) s
      else chunks.foldl (fun a i => a.fabWrite h (o + 16 * i) ((q.body.drop (16 * i)).take 16)) s
    ([], (w.arrive h).refreshSlice h.slice)

/-- A request of this part is answered for the first time: its record and the mark SUSPECT of its destination are gone, and its unit of
a mover operation, where it was the last copy, gets the reply. -/
def answerComes (cmd : Instr) (port : Option (Fin 12)) (ok : Bool) (q : Packet) (data : Pend → List MByte) (cause : Nat) (s : State) : Prop :=
  ∀ x, comesIn port ok s → q.dst = s.self → s.pendOf q.src q.flow q.seq = some x → x.void = false → s.drv.defq = [] → s.drv.waitq = [] →
    completes cmd s (fun u =>
      u.pendOf q.src q.flow q.seq = none ∧ u.flag (DRV_DEST_STATUS_SUSPECT q.src) = false
      ∧ u = { s with drv := u.drv, regs := u.regs, tiles := u.tiles }
      ∧ (x.origin = .ctrl → u.tiles = s.tiles) ∧ (∀ sl, x.origin = .deferred sl → u.tiles = s.tiles)
      ∧ ∀ t c pos idx sl o, x.origin = .unit t c pos idx sl → (s.tile t).ctx c = some o → o.pos = pos → o.slice = sl →
          (∀ y ∈ s.drv.pend, y.origin = x.origin → y.same x = true ∨ y.void = true) →
          ∃ o', (u.tile t).ctx c = some o' ∧ o'.cause = (if o.cause = causeNone then cause else o.cause)
            ∧ o'.out = o.out.map (fun r => if r.idx = idx then { r with reply := some (data x, cause) } else r))

end Sys2Proof.Spec

/-- Of a powered port: DRV_PORT_ENABLE writes EN; EN 0 leaves it DISABLED, EN 1 takes a DISABLED port to TRAIN. RETRAIN of an enabled UP port takes it
down and to TRAIN. DRV_PORT_TRAINED of a training enabled port shows the peer's identity and leaves it UP with its events, or, where EXPECT is 1 and
the identity differs, in FAULT with cause 4; forwarded packets leave once they have an UP port. DRV_TRAIN_TIMEOUT: FAULT, cause 5.
DRV_AUTO_RETRY of an enabled AUTO port in DOWN or FAULT: TRAIN. An UP port goes to DOWN with cause 1 (lanes), 2 (retry exhausted)
or 3 (silence); requests whose last attempt used it are sent again. LINK_RETRY counts, and the flit sent
last goes again. IDLE_FLIT of an UP port is sent under the next link number and enters the replay buffer of 128; struck by an armed CRC error, it counts
as a retry and goes again. SELF_WRITE
stores the device number while all ports are DISABLED or DOWN, else notes LOCK_WR alone, with RSVD_WR for 1s in reserved bits. DRV_INJECT_ARM arms an injection. -/
def Obligations.DravselPortsTrainAndFall : Prop :=
  (∀ (p : Fin 12) (v : Word) (s : State), s.drpOn p = true →
    completes (.drvPortEnable p v) s (fun u =>
      fabricOnly s u ∧ u.flag (DRV_PORT_CTRL_EN p) = v.getLsbD 0
      ∧ u.get (DRV_PORT_STATUS_STATE p) = (if v.getLsbD 0 = false then 0
          else if s.get (DRV_PORT_STATUS_STATE p) = 0 then 2 else s.get (DRV_PORT_STATUS_STATE p))
      ∧ (v.getLsbD 0 = false → s.portUp p = true → leftUp p 0 0 s u)))
  ∧ (∀ (p : Fin 12) (s : State),
    (s.drpOn p = true → s.flag (DRV_PORT_CTRL_EN p) = true → s.portUp p = true → completes (.retrain p) s (leftUp p 0 2 s))
    ∧ (s.get (DRV_PORT_STATUS_STATE p) = 2 → completes (.drvTrainTimeout p) s (fun u =>
        onlyRegs [0xB01004 + 64 * p.val] s u ∧ u.get (DRV_PORT_STATUS_STATE p) = 5 ∧ u.get (DRV_PORT_STATUS_CAUSE p) = 5))
    ∧ (s.flag (DRV_PORT_CTRL_EN p) = true → s.flag (DRV_PORT_CTRL_AUTO p) = true → s.get (DRV_PORT_STATUS_STATE p) ∈ [1, 5] →
        completes (.drvAutoRetry p) s (fun u => onlyRegs [0xB01004 + 64 * p.val] s u ∧ u.get (DRV_PORT_STATUS_STATE p) = 2))
    ∧ (s.portUp p = true →
        completes (.drvPortDown p) s (leftUp p 1 1 s) ∧ completes (.drvSilenceTimeout p) s (leftUp p 3 1 s)
        ∧ completes (.linkRetryExhausted p) s (leftUp p 2 1 s)
        ∧ (s.drvInj 1 p = false → completes (.idleFlit p) s (fun u => u = { s with out := .idleFlit p :: s.out, drv := u.drv }
            ∧ u.drv = { s.drv with links := u.drv.links } ∧ (u.link p).next = (s.link p).next + 1
            ∧ (u.link p).replay = (⟨(s.link p).next, none⟩ :: (s.link p).replay).take 128 ∧ ∀ q, q ≠ p.val → u.link q = s.link q))
        ∧ (s.drvInj 1 p = true → completes (.idleFlit p) s (fun u => u.flag DRV_INJECT_ARM = false
            ∧ u.ctr (DRV_PORT_RETRY p) = (s.count (DRV_PORT_RETRY p) 1).ctr (DRV_PORT_RETRY p) ∧ u.out.head? = some (.flitAgain p (s.link p).next))))
    ∧ ∀ fec : Bool, s.portUp p = true → completes (.linkRetry p fec) s (fun u => signals s u
        ∧ u.ctr (DRV_PORT_RETRY p) = (s.count (DRV_PORT_RETRY p) 1).ctr (DRV_PORT_RETRY p)
        ∧ u.ctr (DRV_PORT_FECUE p) = (if fec then s.count (DRV_PORT_FECUE p) 1 else s).ctr (DRV_PORT_FECUE p)
        ∧ u.get (DRV_PORT_STATUS_STATE p) = 4
        ∧ ∀ f t, (s.link p).replay = f :: t → u.out.head? = some (.flitAgain p f.seq)))
  ∧ (∀ (p : Fin 12) (dev : Fin 4096) (port : Fin 16) (s : State),
    s.get (DRV_PORT_STATUS_STATE p) = 2 → s.flag (DRV_PORT_CTRL_EN p) = true →
    let wrong := s.flag (DRV_PORT_PEER_EXPECT p) = true ∧ (s.get (DRV_PORT_PEER_DEV p) ≠ dev ∨ s.get (DRV_PORT_PEER_PORT p) ≠ port)
    completes (.drvPortTrained p dev port) s (fun u =>
      fabricOnly s u ∧ u.get (DRV_PORT_STATUS_SEEN_DEV p) = dev ∧ u.get (DRV_PORT_STATUS_SEEN_PORT p) = port
      ∧ (wrong → u.get (DRV_PORT_STATUS_STATE p) = 5 ∧ u.get (DRV_PORT_STATUS_CAUSE p) = 4 ∧ u.flag DRV_EVENT_PEER_MISMATCH = true ∧ u.drv = s.drv)
      ∧ (¬ wrong → u.get (DRV_PORT_STATUS_STATE p) = 4 ∧ u.flag (DRV_PORT_STATUS_UP_EVT p) = true ∧ u.flag DRV_EVENT_PORT_UP = true
          ∧ (s.admitted = true → u.drv.fwd = s.drv.fwd.filter (fun q => decide (u.upPorts q.dst = []))))))
  ∧ ∀ (v : Word) (s : State),
      ((∀ p, p < 12 → s.get (DRV_PORT_STATUS_STATE p) ≤ 1) → completes (.selfWrite v) s (fun u =>
        onlyRegs [0xB00010, 0xB00004] s u ∧ u.self = v.toNat % 4096))
      ∧ ((∃ p, p < 12 ∧ 2 ≤ s.get (DRV_PORT_STATUS_STATE p)) → completes (.selfWrite v) s (fun u =>
        onlyRegs [0xB00004] s u ∧ u.reg 0xB00004 = s.reg 0xB00004 ||| (if v.toNat < 4096 then 2 else 3)))
      ∧ completes (.drvInjectArm v) s (fun u => onlyRegs [0xB00040, 0xB00004] s u ∧ u.get DRV_INJECT_POINT = v.toNat % 16
        ∧ u.get DRV_INJECT_PORT = v.toNat / 16 % 16 ∧ u.flag DRV_INJECT_ARM = (v.getLsbD 31 || s.flag DRV_INJECT_ARM))

/-- A request for this part that is new is performed if it passes every check and need not wait: read lines give their covered chunks, writes and multicast writes store them, reductions
combine them (a floating ADD out of its turn is kept), an atomic gives the old word and stores the new; its number is entered and the answer sent. One that a check refuses is
answered by NACK with the code, and no memory changes but its outcome slot. A write, multicast write or reduction already applied changes nothing: it is counted and acknowledged; of a
fenced device it is refused and noted, and nothing else. A held request is
performed once its step is released, a gated read once its count has come. At the source the first ACK, RESP or refusing NACK ends the
request's record and gives its mover unit its reply; a NACK BUSY makes it wait and BUSY_RESEND sends it on the same choice. RTO_EXPIRY
sends attempt a + 1, and after the fourth marks the destination SUSPECT. XPORT_PROBE sends every pending request to it once more. -/
def Obligations.DravselRequests : Prop :=
  (∀ i ∈ [(Instr.reqRd, 0), (.reqWr, 1), (.reqRed, 2), (.reqAtom, 3), (.reqMcw, 4)], ∀ (port : Option (Fin 12)) (ok : Bool) (p : Packet) (s : State), let q := packetFit p
    isNew port ok q s → q.typ = pktReq → q.op = i.2 →
      (∀ h, s.fabCheck q = .inr h → h.pkt = q → (h.kind = kindTile → s.released h.slice h.step = true) → tierThere h s →
        (q.op = 0 → s.gateShut h = false) → s.fabNoRoom h = false → floatAdd q = false → s.drv.reorder = [] →
        exec (i.1 port ok p) s = .next (answeredOk q (if q.op = 0 ∨ q.op = 3 then pktResp else pktAck) (performed h s).1 (performed h s).2))
      ∧ (∀ h, s.fabCheck q = .inr h → h.pkt = q → (h.kind = kindTile → s.released h.slice h.step = true) → tierThere h s → s.fabNoRoom h = false →
        floatAdd q = true → s.drv.reorder = [] → let k := s.rankOf h.slice q.src
        (k = s.nextRank h.slice h.step q → exec (i.1 port ok p) s = .next (answeredOk q pktAck [] ((performed h s).2.onStepRec h.slice h.step
          (fun x => { x with ranks := mapSet (fun _ => 0) x.ranks (rankKey q) (k + 1) }))))
        ∧ (k ≠ s.nextRank h.slice h.step q → s.drv.hold.length < 8192 → exec (i.1 port ok p) s = .next { s with drv := { s.drv with reorder := [h] } }))
      ∧ (∀ code, s.fabCheck q = .inl code → s.drv.reorder = [] → completes (i.1 port ok p) s (fun u =>
          u.ctr DRV_REFUSE = (s.count DRV_REFUSE 1).ctr DRV_REFUSE ∧ u.flag DRV_EVENT_REFUSED = true
          ∧ fabricOnly { s with mem := u.mem } u ∧ u.mem = (s.setSlot q (cleanM (natToBytes 8 code))).mem
          ∧ ∃ w : State, u = w.answer q pktNack code []))) 
  ∧ (∀ i ∈ [(Instr.reqWr, 1), (.reqRed, 2), (.reqMcw, 4)], ∀ (port : Option (Fin 12)) (p : Packet) (s : State), let q := packetFit p
      let e := (s.get DRV_EPOCH_EPOCH + 2 ^ 16 - q.epoch) % 2 ^ 16
      (comesIn port true s → q.dst = s.self → s.admitted = true → (e = 0 ∨ e = 1) → q.typ = pktReq → q.op = i.2 → s.member q.src = memFenced →
        exec (i.1 port true p) s = .next (s.noteRefusal q (match s.fabCheck q with | .inl c => c | .inr _ => 10)))
      ∧ (comesIn port true s → q.dst = s.self → s.admitted = true → (e = 0 ∨ e = 1) → q.typ = pktReq → q.op = i.2 → s.member q.src ≠ memFenced → q.flow = flowOf s.self →
      (q.seq + 2 ^ 32 - (s.win q).f) % 2 ^ 32 < 4096 → q.seq ∈ (s.win q).applied → q.seq ∉ (s.win q).refused →
      exec (i.1 port true p) s = .next ((s.tally DRV_DUP).answer q pktAck 0 [])))
  ∧ (∀ (k : Fin 8192) (s : State) (h : Held), s.drv.hold[k.val]? = some h → s.released h.slice h.step = true →
      h.kind = kindTile → h.pkt.op < 5 → floatAdd h.pkt = false → (h.pkt.op = 0 → s.gateShut h = false) → h.pkt.typ = pktReq → s.drv.reorder = [] →
      let w := s.onDrv (fun r => { r with hold := r.hold.eraseIdx k })
      exec (.heldRequestRelease k) s
        = .next (answeredOk h.pkt (if h.pkt.op = 0 ∨ h.pkt.op = 3 then pktResp else pktAck) (performed h w).1 (performed h w).2))
  ∧ (∀ (k : BitVec 32) (s : State) (h : Held), s.drv.gated[k.toNat]? = some h → h.pkt.op = 0 → h.pkt.typ = pktReq → s.gateShut h = false →
      let w := s.onDrv (fun r => { r with gated := r.gated.eraseIdx k.toNat })
      exec (.gatedReadAnswer k) s = .next (answeredOk h.pkt pktResp (performed h w).1 (performed h w).2))
  ∧ (∀ (port : Option (Fin 12)) (ok : Bool) (p : Packet) (s : State), let q := packetFit p
      (q.typ = pktAck → answerComes (.ack port ok p) port ok q (fun _ => []) causeNone s)
      ∧ (q.typ = pktResp → answerComes (.resp port ok p) port ok q (fun x => if x.pkt.op = 3 then q.body.take 8
          else ((List.range 8).filter (fun i => x.pkt.mask.testBit i)).flatMap (fun i => (q.body.drop (16 * i)).take 16)) causeNone s)
      ∧ (q.typ = pktNack → q.code ≠ 15 → answerComes (.nackRefusal port ok p) port ok q (fun _ => []) causeRefused s)
      ∧ ∀ x, comesIn port ok s → q.dst = s.self → q.typ = pktNack → q.code = 15 → s.pendOf q.src q.flow q.seq = some x →
          exec (.nackBusy port ok p) s = .next (s.setPend { x with busy := true }))
  ∧ (∀ (d : Fin 4096) (ctrl : Bool) (seq : Word) (s : State) (x : Pend) (n : Nat), let f := if ctrl then 255 else d.val % 240
      let now := { x.pkt with epoch := s.get DRV_EPOCH_EPOCH }
      s.pendOf d f seq.toNat = some x → s.admitted = true → d.val ≠ s.self → s.member d ≠ memFenced → x.pkt.typ ≠ pktAck →
      (x.busy = true → s.choosePort now x.attempt = some n → exec (.busyResend d ctrl seq) s
          = .next ((s.transmit n now).setPend { x with pkt := now, port := some n, busy := false }))
      ∧ (x.busy = false → x.spent = false → x.attempt < 3 → s.choosePort now (x.attempt + 1) = some n → exec (.rtoExpiry d ctrl seq) s
          = .next (((s.transmit n now).tally DRV_RETX).setPend { x with pkt := now, attempt := x.attempt + 1, port := some n, busy := false }))
      ∧ (x.busy = false → x.spent = false → 3 ≤ x.attempt → completes (.rtoExpiry d ctrl seq) s (fun u =>
          fabricOnly s u ∧ u.drv = (s.setPend { x with spent := true }).drv ∧ u.flag (DRV_DEST_STATUS_SUSPECT d) = true
          ∧ u.flag DRV_XPORT_EVENT_SUSPECT = true)))
  ∧ ∀ (v : Word) (s : State), ∃ w : State, onlyRegs [0xB00218, 0xB00004] s w
      ∧ exec (.xportProbe v) s = .next ((s.pendTo (v.toNat % 4096)).foldl (fun a x => a.resend x (x.attempt + 1)) w)

/-- PACKET_FORWARD of a packet for another device that is not fenced goes on with HOPS one less, on the port of R366 or into the
forwarding queue while none is UP; with HOPS 0 it is counted and dropped. FORWARD_QUEUE_TIMEOUT drops the packet and counts it. A new
CTRL_READY of a LIVE member of the slice's commit group, for one of its four open steps, notes the member as ready, and is acknowledged;
CTRL_RERUN reruns the step; either for no such slice sets CTRL_DROP. APPLY with the
next number, or with FIRST as the first one, and no state 3 in the inactive bank makes that bank active, EPOCH the number, VALID 1,
ADMITTED 1 unless this part is FENCED in it, puts the redirect entries into force and drops the requests to devices that it
fences (stated where no slice has an uncommitted step or one to run again, or operations of a discarded one under way, which R175 would abort); any other sets EPOCH_ERR alone. -/
def Obligations.DravselForwardingAndEpochs : Prop :=
  (∀ (port : Fin 12) (p : Packet) (s : State), let q := packetFit p
    comesIn (some port) true s → q.dst ≠ s.self → s.admitted = true →
    (q.hops ≠ 0 → s.member q.dst ≠ memFenced →
      let f := { q with hops := q.hops - 1 }
      (∀ n, s.choosePort f 0 = some n → exec (.packetForward port true p) s = .next (s.transmit n f))
      ∧ (s.upPorts q.dst = [] → exec (.packetForward port true p) s = .next (s.onDrv (fun r => { r with fwd := r.fwd ++ [f] }))))
    ∧ (q.hops = 0 → completes (.packetForward port true p) s (fun u => signals s u ∧ u.flag DRV_EVENT_TTL_DROP = true
        ∧ u.ctr DRV_TTL = (s.count DRV_TTL 1).ctr DRV_TTL)))
  ∧ (∀ (k : Fin 8192) (s : State), k.val < s.drv.fwd.length → completes (.forwardQueueTimeout k) s (fun u =>
      fabricOnly s u ∧ u.drv = { s.drv with fwd := s.drv.fwd.eraseIdx k } ∧ u.flag DRV_XPORT_EVENT_STALE_DROP = true
      ∧ u.ctr DRV_STALE = (s.count DRV_STALE 1).ctr DRV_STALE))
  ∧ (∀ (port : Option (Fin 12)) (ok : Bool) (p : Packet) (s : State), let q := packetFit p
      isNew port ok q s → q.typ = pktCtrl → s.member q.src = memLive →
      (∀ sl n, s.ctrlSlice q = some sl → s.tagStep sl q.step = some n →
        (q.code = ctrlReady → ∃ w : State, exec (.ctrlReady port ok p) s = .next (answeredOk q pktAck [] w)
          ∧ q.src ∈ (w.stepRec sl n).ready ∧ w = { s with slices := w.slices } ∧ ∀ j, j ≠ sl → w.slice j = s.slice j)
        ∧ (q.code = ctrlRerun → exec (.ctrlRerun port ok p) s = .next (answeredOk q pktAck [] (s.rerunSteps sl n false))))
      ∧ (s.ctrlSlice q = none →
        (q.code = ctrlReady → completes (.ctrlReady port ok p) s (fun u => signals s u ∧ u.flag DRV_EVENT_CTRL_DROP = true))
        ∧ (q.code = ctrlRerun → completes (.ctrlRerun port ok p) s (fun u => signals s u ∧ u.flag DRV_EVENT_CTRL_DROP = true))))
  ∧ ∀ (v : Word) (s : State),
      let e := v.toNat % 65536
      let b := 1 - s.get DRV_EPOCH_BANK
      let good := (e = (s.get DRV_EPOCH_EPOCH + 1) % 65536 ∨ (s.flag DRV_EPOCH_VALID = false ∧ v.getLsbD 16 = true))
        ∧ ∀ d, d < 4096 → s.memberIn b d ≠ 3
      v.getLsbD 17 = true →
      (good → (∀ sl, sl < 64 → (s.slice sl).steps = [] ∧ (s.slice sl).rerun = 0 ∧ s.stranded sl = false) → completes (.apply v) s (fun u =>
        u.get DRV_EPOCH_BANK = b ∧ u.get DRV_EPOCH_EPOCH = e ∧ u.flag DRV_EPOCH_VALID = true
        ∧ u.flag DRV_EPOCH_ADMITTED = decide (s.memberIn b s.self ≠ memFenced) ∧ u.flag DRV_XPORT_EVENT_EPOCH_APPLIED = true
        ∧ (∀ d, d < 4096 → u.member d = s.memberIn b d) ∧ u.drv.redir = s.redirTable
        ∧ (∀ d, d < 4096 → s.flag DRV_EPOCH_VALID = true → s.member d ≠ memFenced → s.memberIn b d = memFenced →
            ∀ x ∈ u.drv.pend, x.pkt.dst ≠ d)
        ∧ u.tiles = s.tiles ∧ u.mem = s.mem ∧ u.slices = s.slices))
      ∧ (¬ good → completes (.apply v) s (fun u => signalsIn [0xB00204, 0xB00004, 0xB00214, 0x1000014] s u
          ∧ u.flag DRV_XPORT_EVENT_EPOCH_ERR = true))

/-- RATE_WRITE at raw counter C, with old rate R and new rate R': the offset grows by the floor of R × (C − A) / 2^40, the anchor becomes C and
the rate R'. T at C is as before. T at k ticks' units after C is C + k + O + floor(R' × k / 2^40). Two writes in one tick apply in
the order in which they arrive, and T read in that tick is that before it. Nothing else of the part changes. -/
def Obligations.RateChangeIsContinuous : Prop :=
  ∀ (v : Word) (s : State),
    let a := s.time.anchor
    let c := s.time.raw
    let r := signed 32 (s.get TIM_RATE_RATE)
    let o : Int := (s.time.off : Int) + (r * (((c + 2 ^ 96 - a) % 2 ^ 96 : Nat) : Int)) / 2 ^ 40
    completes (.rateWrite v) s (fun u =>
      u.time = { s.time with off := (o % 2 ^ 96).toNat, anchor := c } ∧ u.get TIM_RATE_RATE = v.toNat
      ∧ u = { s with regs := u.regs, time := u.time } ∧ sameRegs [0xA00040] s u
      ∧ u.now = s.now
      ∧ (c < 2 ^ 96 → ∀ k, k < 2 ^ 96 →
          u.timeAt ((c + k) % 2 ^ 96) = (((c + k : Nat) : Int) + o + (v.toInt * (k : Int)) / 2 ^ 40) % 2 ^ 96)
      ∧ ∀ w : Word, completes (.rateWrite w) u (fun x => x.get TIM_RATE_RATE = w.toNat ∧ x.time = u.time ∧ x.now = s.now))

namespace Sys2Proof.Spec

/-- Only the timing block, registers and what signals changed, the registers among `keys`. -/
def timeOnly (keys : List Nat) (s u : State) : Prop :=
  u = { s with regs := u.regs, time := u.time, out := u.out, pcie := u.pcie } ∧ sameRegs (0xA00014 :: 0x1000014 :: keys) s u

/-- `t` is the smallest time of the grid from `st` by `p` that is not earlier than the time `n` in units of 2^-32 ns (R435). -/
def firstOnGrid (st p n t : Nat) : Prop :=
  (∃ k, t = st + k * p) ∧ n ≤ t * 2 ^ 32 ∧ ∀ k, n ≤ (st + k * p) * 2 ^ 32 → t ≤ st + k * p

end Sys2Proof.Spec

/-- STEP_GO: a step within LIMIT_NS, or before LOCKED, or with OVR_NEXT, sets LOCKED and STEP_DONE, clears OVR_NEXT, counts, and is due: T
in this tick is as before. At the end of the tick the offset moves by the steps due, a backward one lets a window start again, an enabled periodic pulse
output goes to the first grid time not earlier than T at the next tick, a one-shot carried past its START is marked late; the raw counter is never stepped. Any other step sets STEP_REF alone. OVR_NEXT. TIME_READ answers the low word of T (0 before the time PLL
locks) or of C and latches the upper words for the requester. TIME_PLL_LOCK starts the counter. REF_LOST of a present input clears its OK;
of the selected one it switches to the other or sets HOLDOVER; REF_RETURN sets OK and ends the holdover of the
selected one. SYNCE_ENABLE with EN 1 for a port in use stores the port and squelches while it has no lock; EN 0 ends the squelch;
EN 1 for a port not in use notes LOCK_WR alone, with RSVD_WR for 1s in reserved bits. SYNCE_RESUME ends the squelch of an enabled output whose port is UP with lock. -/
def Obligations.StepsAndReferences : Prop :=
  (∀ s : State, let v := s.stepValue
    let ok := v.natAbs ≤ s.get TIM_STEP_LIMIT_LIMIT_NS * 2 ^ 32 ∨ s.flag TIM_CTRL_LOCKED = false ∨ s.flag TIM_CTRL_OVR_NEXT = true
    (ok → completes .stepGo s (fun u =>
      timeOnly [0xA00010, 0xA00048] s u ∧ u.time = { s.time with due := s.time.due + v } ∧ u.now = s.now
      ∧ u.flag TIM_CTRL_LOCKED = true ∧ u.flag TIM_CTRL_OVR_NEXT = false ∧ u.flag TIM_EVENT_STEP_DONE = true
      ∧ u.get TIM_STEP_CNT_COUNT = (s.get TIM_STEP_CNT_COUNT + 1) % 2 ^ 16
      ∧ (s.pending = [] → step u = .next u.idle)))
    ∧ (¬ ok → completes .stepGo s (fun u => timeOnly [] s u ∧ u.time = s.time ∧ u.flag TIM_EVENT_STEP_REF = true))
    ∧ (s.time.due ≠ 0 → let u := s.idle
      u = { s with raw := u.raw, time := u.time, cyc := { s.cyc with again := s.cyc.again || decide (s.time.due < 0) } }
      ∧ u.time.off = (((s.time.off : Int) + s.time.due) % 2 ^ 96).toNat ∧ u.time.due = 0 ∧ u.time.anchor = s.time.anchor
      ∧ (s.time.counts = true → u.time.raw = (s.time.raw + 0x140000000) % 2 ^ 96)
      ∧ ∀ i, i < 8 → let n := u.timeAt (s.time.raw + 0x140000000)
          (s.flag (TIM_PULSE_CTRL_EN i) = false → u.pulse i = s.pulse i)
          ∧ (s.flag (TIM_PULSE_CTRL_EN i) = true → s.flag (TIM_PULSE_CTRL_MODE i) = true → 0 < s.get (TIM_PULSE_PERIOD_PERIOD i) →
              ∃ t, u.pulse i = { s.pulse i with next := some t }
                ∧ firstOnGrid (s.pulseStart i) (s.get (TIM_PULSE_PERIOD_PERIOD i)) n t)
          ∧ (s.flag (TIM_PULSE_CTRL_EN i) = true → s.flag (TIM_PULSE_CTRL_MODE i) = false →
              u.pulse i = { s.pulse i with late := (s.pulse i).late || decide (s.pulseStart i * 2 ^ 32 < n) }))
    ∧ completes .ovrNext s (fun u => onlyRegs [0xA00010] s u ∧ u.flag TIM_CTRL_OVR_NEXT = true ∧ u.flag TIM_CTRL_LOCKED = s.flag TIM_CTRL_LOCKED)
    ∧ completes .timePllLock s (fun u => onlyRegs [0xA00060] { s with time := u.time } u ∧ u.time = { s.time with counts := true }
        ∧ u.flag TIM_PLL_PLL_LOCK = true ∧ u.flag TIM_PLL_HOLDOVER = false))
  ∧ (∀ (who : Requester) (raw : Bool) (s : State),
      let x := if raw then s.time.raw else if s.time.counts then s.timeAt s.time.raw else 0
      completes (.timeRead who raw) s (fun u =>
        u = { s with shadows := u.shadows, out := .cpl who .ok (natToBytes 4 x) :: s.out }
        ∧ u.shadowOf who (if raw then 0xA00030 else 0xA00020) = some (x / 2 ^ 32)
        ∧ ∀ (w : Requester) (k : Nat), w ≠ who ∨ k ≠ (if raw then 0xA00030 else 0xA00020) → u.shadowOf w k = s.shadowOf w k))
  ∧ (∀ (i : Fin 2) (s : State),
      (s.flag (refInOk i) = true → completes (.refLost i) s (fun u => timeOnly [0xA00060] s u ∧ u.time = s.time
        ∧ u.flag (refInOk i) = false ∧ u.flag TIM_EVENT_REF_LOST = true
        ∧ (s.get TIM_PLL_REF_SEL ≠ i → u.get TIM_PLL_REF_SEL = s.get TIM_PLL_REF_SEL ∧ u.flag TIM_PLL_HOLDOVER = s.flag TIM_PLL_HOLDOVER)
        ∧ (s.get TIM_PLL_REF_SEL = i →
            (s.flag TIM_PLL_AUTO_SW = true ∧ s.flag (refInOk (1 - i.val)) = true →
              u.get TIM_PLL_REF_SEL = 1 - i.val ∧ u.flag TIM_EVENT_REF_SWITCH = true ∧ u.flag TIM_PLL_HOLDOVER = s.flag TIM_PLL_HOLDOVER)
            ∧ (¬ (s.flag TIM_PLL_AUTO_SW = true ∧ s.flag (refInOk (1 - i.val)) = true) →
              u.get TIM_PLL_REF_SEL = i ∧ u.flag TIM_PLL_HOLDOVER = true ∧ u.flag TIM_EVENT_HOLDOVER = true))))
      ∧ completes (.refReturn i) s (fun u => onlyRegs [0xA00060] s u ∧ u.flag (refInOk i) = true
        ∧ (s.get TIM_PLL_REF_SEL = i → u.flag TIM_PLL_HOLDOVER = false)
        ∧ (s.get TIM_PLL_REF_SEL ≠ i → u.flag TIM_PLL_HOLDOVER = s.flag TIM_PLL_HOLDOVER)
        ∧ u.get TIM_PLL_REF_SEL = s.get TIM_PLL_REF_SEL)
      ∧ (s.flag (TIM_SYNCE_EN i) = true → s.ethUp (s.get (TIM_SYNCE_PORT i)) = true → completes (.synceResume i) s (fun u =>
          onlyRegs [(TIM_SYNCE_EN i).key] s u ∧ u.flag (TIM_SYNCE_SQ i) = false ∧ u.flag (TIM_SYNCE_EN i) = true)))
  ∧ ∀ (i : Fin 2) (v : Word) (s : State), let p := v.toNat / 2 % 32
      (v.getLsbD 0 = false → completes (.synceEnable i v) s (fun u => timeOnly [(TIM_SYNCE_EN i).key, 0xA00004] s u ∧ u.time = s.time
        ∧ u.flag (TIM_SYNCE_EN i) = false ∧ u.flag (TIM_SYNCE_SQ i) = false))
      ∧ (v.getLsbD 0 = true → s.flag (TIM_SYNCE_EN i) = false → s.ethInUse p = true → completes (.synceEnable i v) s (fun u =>
        timeOnly [(TIM_SYNCE_EN i).key, 0xA00004] s u ∧ u.time = s.time ∧ u.flag (TIM_SYNCE_EN i) = true ∧ u.get (TIM_SYNCE_PORT i) = p
        ∧ (s.ethUp p = false → u.flag (TIM_SYNCE_SQ i) = true) ∧ (s.ethUp p = true → u.flag (TIM_SYNCE_SQ i) = s.flag (TIM_SYNCE_SQ i))))
      ∧ (v.getLsbD 0 = true → s.flag (TIM_SYNCE_EN i) = false → s.ethInUse p = false → completes (.synceEnable i v) s (fun u =>
        onlyRegs [0xA00004] s u ∧ u.reg 0xA00004 = s.reg 0xA00004 ||| (if v.toNat < 256 then 2 else 3)))

/-- PULSE_ENABLE of a disabled output: a width below 2, or a period below 10 or not above the width, is refused with CFG_ERR. Else a
periodic output waits for the first grid time not earlier than T, a one-shot for START, or, if that is past, it fires at once and says
LATE, its EN 0 again. EN 0 makes an output inactive. PULSE_FIRE of an output that is due makes it active, unless its driver is off, for
ceil(WIDTH / 1.25) ticks: a periodic one waits for the next time, a one-shot is done, its EN 0. PULSE_END makes it inactive when the
ticks have passed. A driver fault sets FAULT and DRV_OFF, a successful retry clears DRV_OFF. CAPTURE_EDGE of a selected edge that is not closer than a tick to the last recorded one puts
the stamp, T plus the sub-tick, with the step tag behind the FIFO's entries; on 16 entries it sets OVF and CAP_OVF and keeps the FIFO. CAPTURE_POP answers the
oldest entry's flags word, latches its stamp for the requester and removes it; from an empty FIFO all reads 0. -/
def Obligations.PulsesAndCaptures : Prop :=
  (∀ (i : Fin 8) (v : Word) (s : State),
    let k := (TIM_PULSE_CTRL_EN i).key
    let w := s.get (TIM_PULSE_WIDTH_WIDTH i)
    let p := s.get (TIM_PULSE_PERIOD_PERIOD i)
    let bad := w < 2 ∨ (v.getLsbD 1 = true ∧ (p < 10 ∨ p ≤ w))
    (v.getLsbD 0 = false → completes (.pulseEnable i v) s (fun u => timeOnly [k, 0xA00004] s u
      ∧ u.flag (TIM_PULSE_CTRL_EN i) = false ∧ u.flag (TIM_PULSE_CTRL_ACTIVE i) = false ∧ u.pulse i = Pulse.idle))
    ∧ (v.getLsbD 0 = true → s.flag (TIM_PULSE_CTRL_EN i) = false →
        (bad → completes (.pulseEnable i v) s (fun u => onlyRegs [k, 0xA00004] s u
          ∧ u.flag (TIM_PULSE_CTRL_EN i) = false ∧ u.flag (TIM_PULSE_CTRL_CFG_ERR i) = true))
        ∧ (¬ bad → v.getLsbD 1 = true → completes (.pulseEnable i v) s (fun u => timeOnly [k, 0xA00004] s u
          ∧ u.flag (TIM_PULSE_CTRL_EN i) = true ∧ (∃ t, (u.pulse i).next = some t ∧ firstOnGrid (s.pulseStart i) p s.now t)
          ∧ ∀ j, j ≠ i.val → u.pulse j = s.pulse j))
        ∧ (¬ bad → v.getLsbD 1 = false → s.now ≤ s.pulseStart i * 2 ^ 32 ∨ s.time.counts = false → completes (.pulseEnable i v) s (fun u =>
          timeOnly [k, 0xA00004] s u ∧ u.flag (TIM_PULSE_CTRL_EN i) = true ∧ (u.pulse i).next = some (s.pulseStart i)))
        ∧ (¬ bad → v.getLsbD 1 = false → s.time.counts = true → s.pulseStart i * 2 ^ 32 < s.now → completes (.pulseEnable i v) s (fun u =>
          timeOnly [k, 0xA00004] s u ∧ u.flag (TIM_PULSE_CTRL_EN i) = false ∧ u.flag (TIM_PULSE_CTRL_LATE i) = true
          ∧ u.flag TIM_EVENT_PULSE_LATE = true ∧ (u.pulse i).next = none
          ∧ (s.flag (TIM_PULSE_CTRL_DRV_OFF i) = false → u.flag (TIM_PULSE_CTRL_ACTIVE i) = true)))))
  ∧ (∀ (i : Fin 8) (s : State), let k := (TIM_PULSE_CTRL_EN i).key
    (∀ t, (s.pulse i).next = some t → s.time.counts = true → s.flag (TIM_PULSE_CTRL_EN i) = true → t * 2 ^ 32 ≤ s.now →
      completes (.pulseFire i) s (fun u =>
        timeOnly [k] s u ∧ (u.pulse i).endAt = s.raw + 0x140000000 * ((4 * s.get (TIM_PULSE_WIDTH_WIDTH i) + 4) / 5)
        ∧ (s.flag (TIM_PULSE_CTRL_DRV_OFF i) = false → u.flag (TIM_PULSE_CTRL_ACTIVE i) = true)
        ∧ (s.flag (TIM_PULSE_CTRL_DRV_OFF i) = true → u.flag (TIM_PULSE_CTRL_ACTIVE i) = s.flag (TIM_PULSE_CTRL_ACTIVE i))
        ∧ (s.flag (TIM_PULSE_CTRL_MODE i) = true → u.flag (TIM_PULSE_CTRL_EN i) = true
            ∧ (u.pulse i).next = some (t + s.get (TIM_PULSE_PERIOD_PERIOD i)))
        ∧ (s.flag (TIM_PULSE_CTRL_MODE i) = false → u.flag (TIM_PULSE_CTRL_EN i) = false ∧ (u.pulse i).next = none
            ∧ ((s.pulse i).late = true → u.flag (TIM_PULSE_CTRL_LATE i) = true ∧ u.flag TIM_EVENT_PULSE_LATE = true))))
    ∧ ((s.pulse i).endAt ≤ s.raw → completes (.pulseEnd i) s (fun u => onlyRegs [k] s u ∧ u.flag (TIM_PULSE_CTRL_ACTIVE i) = false))
    ∧ completes (.pulseDriverFault i) s (fun u => timeOnly [k] s u ∧ u.time = s.time ∧ u.flag (TIM_PULSE_CTRL_ACTIVE i) = false
        ∧ u.flag (TIM_PULSE_CTRL_DRV_OFF i) = true ∧ u.flag (TIM_PULSE_CTRL_FAULT i) = true ∧ u.flag TIM_EVENT_PULSE_FAULT = true)
    ∧ completes (.pulseDriverRetry i true) s (fun u => onlyRegs [k] s u ∧ u.flag (TIM_PULSE_CTRL_DRV_OFF i) = false)
    ∧ exec (.pulseDriverRetry i false) s = .next s)
  ∧ (∀ (j : Fin 8) (rise : Bool) (sub : Fin 8) (s : State), let e := s.get (TIM_CAP_CFG_EDGE j)
    let t := s.raw + sub.val * 0x28000000
    s.time.counts = true → s.flag (TIM_CAP_CFG_EN j) = true → (e = 3 ∨ (e = 1 ∧ rise = true) ∨ (e = 2 ∧ rise = false)) →
    (s.edgeClose j t = true → exec (.captureEdge j rise sub) s = .next s)
    ∧ (s.edgeClose j t = false → ((s.capture j).length < 16 → completes (.captureEdge j rise sub) s (fun u => timeOnly [(TIM_CAP_CFG_EN j).key] s u
      ∧ u.capture j = s.capture j ++ [⟨rise, s.get TIM_STEP_CNT_COUNT % 256, (s.now + sub.val * 0x28000000) % 2 ^ 96⟩]
      ∧ u.get (TIM_CAP_CFG_COUNT j) = (s.capture j).length + 1 ∧ (∀ i, i ≠ j.val → u.capture i = s.capture i)
      ∧ ∀ x, u.edgeClose j x = decide (x < t + 0x140000000)))
    ∧ (16 ≤ (s.capture j).length → completes (.captureEdge j rise sub) s (fun u => timeOnly [(TIM_CAP_CFG_EN j).key] s u
      ∧ u.time = s.time ∧ u.flag (TIM_CAP_CFG_OVF j) = true ∧ u.flag TIM_EVENT_CAP_OVF = true))))
  ∧ ∀ (j : Fin 8) (who : Requester) (s : State), let k := 0xA02004 + 64 * j.val
      ((s.capture j) = [] → completes (.capturePop j who) s (fun u =>
        u = { s with shadows := u.shadows, out := .cpl who .ok [0, 0, 0, 0] :: s.out } ∧ u.shadowOf who k = some 0))
      ∧ ∀ x rest, s.capture j = x :: rest → x.step < 256 → completes (.capturePop j who) s (fun u =>
        u = { s with regs := u.regs, time := u.time, shadows := u.shadows,
                     out := .cpl who .ok [(if x.rise then 3 else 1), BitVec.ofNat 8 x.step, 0, 0] :: s.out }
        ∧ u.capture j = rest ∧ (∀ i, i ≠ j.val → u.capture i = s.capture i) ∧ sameRegs [(TIM_CAP_CFG_EN j).key] s u
        ∧ u.shadowOf who k = some x.stamp)

namespace Sys2Proof.Spec

/-- A write that is refused notes bits of its block's status and changes nothing else. -/
def notedOnly (key bit : Nat) (s u : State) : Prop := onlyRegs [key] s u ∧ u.reg key = s.reg key ||| BitVec.ofNat 32 bit

/-- Tokens after one refill of 100 ns at `rate`, limited by `burst` (R421). -/
def refilled (t : Int) (rate burst : Nat) : Int := if rate = 0 then t else min (t + 128 * (rate : Int)) (1024 * (burst : Int))

/-- The words of a descriptor of 32 bytes. -/
def wordsOf (d : List Byte) : List Word := (chunksOf 4 8 d).map (fun b => BitVec.ofNat 32 (bytesToNat b))

end Sys2Proof.Spec

/-- QUAD_MODE_WRITE of a powered quad stores MODE; 3 notes RSVD_WR, a change under an enabled port LOCK_WR, with RSVD_WR for 1s in reserved bits, as other refused writes do. ETH_PORT_ENABLE: EN, and the port DOWN, or DISABLED. ETH_LINK_UP of a DOWN port and
ETH_LINK_DOWN of an UP one with their events; a frame on the wire is cut. TX_QUEUE_ENABLE and RX_QUEUE_ENABLE: EN 1 starts an idle queue of a
LIVE slice empty with BURST tokens; of no LIVE slice it notes LOCK_WR; EN 0 drops frames not started. A descriptor fetched from host memory is
taken in with its frame; one that its fields refuse is not sent; a failed fetch stops the queue. ETH_TX_FRAME_START of an idle UP port puts on the wire a one-way delay response that the guard allows, else the head of the
queue whose turn it is in the lowest level that has an eligible queue, with its transmit stamp. ETH_TX_COMPLETE sends the bytes and counts. ETH_TX_LATE of a late head counts it and takes it from its queue.
SHAPER_REFILL adds RATE x 128 units to every shaper and policer up to BURST. A received frame with a bad FCS, a bad length or a foreign address only counts; another goes to the queue of its VLAN
entry: with a posted buffer it is delivered and the index advances. EYE_MEASUREMENT shows a Dravsel port's eye, and one below the bound fires 138. -/
def Obligations.EthernetCommands : Prop :=
  (∀ (k : Fin 8) (v : Word) (s : State), let m := v.toNat % 4
    let held := m ≠ s.get (ETH_QUAD_CFG_MODE k) ∧ ∃ i, i < 4 ∧ s.flag (ETH_PORT_CTRL_EN (4 * k.val + i)) = true
    s.quadOn k = true →
    (m ≠ 3 → ¬ held → completes (.quadModeWrite k v) s (fun u => onlyRegs [(ETH_QUAD_CFG_MODE k).key, 0x800004] s u ∧ u.get (ETH_QUAD_CFG_MODE k) = m))
    ∧ (m = 3 → completes (.quadModeWrite k v) s (notedOnly 0x800004 1 s))
    ∧ (m ≠ 3 → held → completes (.quadModeWrite k v) s (notedOnly 0x800004 (if v.toNat < 4 then 2 else 3) s)))
  ∧ (∀ (p : Fin 32) (s : State), s.quadOn (p.val / 4) = true →
    (∀ v : Word, s.ethInUse p = true →
      (s.flag (ETH_PORT_CTRL_EN p) = false → v.getLsbD 0 = true → completes (.ethPortEnable p v) s (fun u =>
        onlyRegs [(ETH_PORT_CTRL_EN p).key, (ETH_PORT_STATUS_STATE p).key, 0x800004] s u
        ∧ u.flag (ETH_PORT_CTRL_EN p) = true ∧ u.get (ETH_PORT_STATUS_STATE p) = 1))
      ∧ (s.flag (ETH_PORT_CTRL_EN p) = true → v.getLsbD 0 = false → completes (.ethPortEnable p v) s (fun u =>
        u.flag (ETH_PORT_CTRL_EN p) = false ∧ u.get (ETH_PORT_STATUS_STATE p) = 0
        ∧ (s.ethLink p = true → u.flag ETH_EVENT_LINK_DOWN = true ∧ (u.ethPort p).wire = none))))
    ∧ (s.get (ETH_PORT_STATUS_STATE p) = 1 → completes (.ethLinkUp p) s (fun u =>
        signalsIn [(ETH_PORT_STATUS_STATE p).key, 0x800010, 0x1000014] s u ∧ u.ethUp p = true ∧ u.flag ETH_EVENT_LINK_UP = true))
    ∧ (s.ethLink p = true → completes (.ethLinkDown p) s (fun u => u.get (ETH_PORT_STATUS_STATE p) = 1
        ∧ u.flag (ETH_PORT_STATUS_FEC_LOCK p) = false ∧ u.flag ETH_EVENT_LINK_DOWN = true ∧ (u.ethPort p).wire = none)))
  ∧ (∀ (q : Fin 1024) (v : Word) (s : State),
    (v.getLsbD 0 = true → s.flag (TSH_TXQ_CFG_EN q) = false →
      (s.txSlice q ≠ none → v.toNat / 2 % 4 ≠ 3 → s.ethInUse (v.toNat / 128 % 32) = true → completes (.txQueueEnable q v) s (fun u =>
        u = { s with regs := u.regs, eth := u.eth }
        ∧ sameRegs [(TSH_TXQ_CFG_EN q).key, (TSH_TXQ_STATUS_CONS q).key, (TSH_TXQ_TOKENS_TOKENS q).key, 0x900004] s u
        ∧ u.flag (TSH_TXQ_CFG_EN q) = true ∧ u.flag (TSH_TXQ_CFG_QSTOP q) = false ∧ u.get (TSH_TXQ_STATUS_CONS q) = 0
        ∧ u.get (TSH_TXQ_CFG_PORT q) = v.toNat / 128 % 32
        ∧ u.get (TSH_TXQ_CFG_LEVEL q) = (if q.val < 128 then 0 else max 1 (v.toNat / 4096 % 8))
        ∧ u.txq q = ⟨0, 0, [], (s.txq q).msgs, 0, 1024 * (s.get (TSH_TXQ_BURST_BURST q) : Int)⟩ ∧ ∀ i, i ≠ q.val → u.txq i = s.txq i))
      ∧ (s.txSlice q = none → completes (.txQueueEnable q v) s (notedOnly 0x900004 (if v.toNat < 65536 then 2 else 3) s)))
    ∧ (v.getLsbD 0 = false → s.flag (TSH_TXQ_CFG_EN q) = true → completes (.txQueueEnable q v) s (fun u =>
        u = { s with regs := u.regs, eth := u.eth } ∧ u.flag (TSH_TXQ_CFG_EN q) = false
        ∧ u.txq q = { s.txq q with frames := (s.txq q).frames.filter (fun f => f.air) }))
    ∧ (v.getLsbD 0 = true → s.flag (TSH_RXQ_CFG_EN q) = false →
      (s.rxSlice q ≠ none → v.toNat / 2 % 4 ≠ 3 → completes (.rxQueueEnable q v) s (fun u =>
        u = { s with regs := u.regs, eth := u.eth } ∧ u.flag (TSH_RXQ_CFG_EN q) = true ∧ u.flag (TSH_RXQ_CFG_QSTOP q) = false
        ∧ u.get (TSH_RXQ_STATUS_CONS q) = 0 ∧ u.rxq q = ⟨0, 1024 * (s.get (TSH_RXQ_PBURST_BURST q) : Int)⟩))
      ∧ (s.rxSlice q = none → completes (.rxQueueEnable q v) s (notedOnly 0x900004 (if v.toNat < 32768 then 2 else 3) s))))
  ∧ (∀ (q : Fin 1024) (d : List Byte) (x : List Byte) (sl : Nat) (s : State), s.txSlice q = some sl → s.flag (TSH_TXQ_CFG_EN q) = true →
      s.flag (TSH_TXQ_CFG_QSTOP q) = false → (s.txq q).fetched ≠ (s.txq q).prod → s.get (TSH_TXQ_CFG_SPACE q) = 0 → s.dmaOpen = true →
      d.length = 32 → x.length = df (wordsOf d) 0 0 14 → (∀ f ∈ (s.txq q).frames, f.fin = none) →
      let a := s.get64 (TSH_TXQ_RING_LO_ADDR q) (TSH_TXQ_RING_HI_ADDR q) + 32 * ((s.txq q).fetched % 2 ^ s.get (TSH_TXQ_CFG_LOG2 q))
      (s.txBad (s.get (TSH_TXQ_CFG_PORT q)) (wordsOf d) = false →
        completes (.ethTxDescriptorFetch q (some d) (some (some x))) s (fun u => u = { s with regs := u.regs, eth := u.eth, out := u.out }
          ∧ sameRegs [(TSH_TXQ_TOKENS_TOKENS q).key] s u ∧ (∀ i, i ≠ q.val → u.txq i = s.txq i)
          ∧ u.txq q = { s.txq q with fetched := ((s.txq q).fetched + 1) % 2 ^ 32, frames := (s.txq q).frames ++ [⟨wordsOf d, 0, sl, a, none, false, x⟩] }))
      ∧ (s.txBad (s.get (TSH_TXQ_CFG_PORT q)) (wordsOf d) = true → (s.txq q).frames ≠ [] →
        completes (.ethTxDescriptorFetch q (some d) (some (some x))) s (fun u =>
          u.txq q = { s.txq q with fetched := ((s.txq q).fetched + 1) % 2 ^ 32, frames := (s.txq q).frames ++ [⟨wordsOf d, 0, sl, a, some (3, 0), false, []⟩] }))
      ∧ completes (.ethTxDescriptorFetch q none none) s (fun u =>
          signals s u ∧ u.flag (TSH_TXQ_CFG_QSTOP q) = true ∧ u.flag ETH_EVENT_QSTOP = true
          ∧ u.ctr (INT_DET_CNT 81) = (s.count (INT_DET_CNT 81) 1).ctr (INT_DET_CNT 81)))
  ∧ (∀ (p : Fin 32) (ph : Fin 8) (s : State), s.ethInUse p = true → s.ethLink p = true → (s.ethPort p).wire = none →
      (∀ d t, (s.ethPort p).owd = d :: t → s.guardOk p ph (s.txCost p (.owd d)) = true → completes (.ethTxFrameStart p ph) s (fun u =>
        u = { s with eth := u.eth } ∧ u.ethPort p = { s.ethPort p with owd := t, wire := some (.owd d, s.txStamp p ph) }))
      ∧ (∀ l q rest w, (s.ethPort p).owd = [] → l < 8 → q < 1024 → (∀ j, j < l → ∀ i ∈ s.txList p j, s.txEligible p ph j i = false) →
          s.txList p l = q :: rest → s.txEligible p ph l q = true → s.txHead q = some w →
          s.txCost p w ≤ (s.txq q).deficit + (if s.txTurn p l then 0 else s.get (TSH_TXQ_DRR_QUANTUM q)) →
          completes (.ethTxFrameStart p ph) s (fun u => u = { s with regs := u.regs, eth := u.eth }
            ∧ (u.ethPort p).wire = some (w, s.txStamp p ph)
            ∧ (u.txq q).tokens = (s.txq q).tokens - (if s.get (TSH_TXQ_SHAPE_RATE q) = 0 then 0 else 1024 * (s.txCost p w : Int)))))
  ∧ (∀ (p : Fin 32) (w : OnWire) (stamp : Nat) (s : State), (s.ethPort p).wire = some (w, stamp) → completes (.ethTxComplete p) s (fun u =>
      (u.ethPort p).wire = none ∧ .eth p w.bytes ∈ u.out ∧ u.ctr (ETH_TX_FRAMES p) = (s.count (ETH_TX_FRAMES p) 1).ctr (ETH_TX_FRAMES p)
      ∧ u.ctr (ETH_TX_OCTETS p) = (s.count (ETH_TX_OCTETS p) (w.bytes.length + 4)).ctr (ETH_TX_OCTETS p)
      ∧ ∀ q f, w = .frame q f → q < 1024 → ((s.txq q).frames.head?.map (fun g => g.air)) = some true → (u.txq q).frames.length < (s.txq q).frames.length))
  ∧ (∀ (q : Fin 1024) (s : State) (f : TxFrame), s.txHead q = some (.frame q f) → s.flag (TSH_TXQ_CFG_EN q) = true →
      s.txIsLate (s.get (TSH_TXQ_CFG_PORT q)) (.frame q f) = true → completes (.ethTxLate q) s (fun u =>
        u.ctr (TSH_TXQ_LATE q) = (s.count (TSH_TXQ_LATE q) 1).ctr (TSH_TXQ_LATE q) ∧ u.flag ETH_EVENT_TX_LATE = true
        ∧ ((u.txq q).frames.filter (fun g => g.fin.isNone && !g.air)).length + 1 = ((s.txq q).frames.filter (fun g => g.fin.isNone && !g.air)).length))
  ∧ (∀ s : State, completes .shaperRefill s (fun u => u = { s with regs := u.regs, eth := u.eth } ∧ u.eth.port = s.eth.port
      ∧ ∀ q, q < 1024 →
          u.txq q = { s.txq q with tokens := refilled (s.txq q).tokens (s.get (TSH_TXQ_SHAPE_RATE q)) (s.get (TSH_TXQ_BURST_BURST q)) }
          ∧ u.rxq q = { s.rxq q with tokens := refilled (s.rxq q).tokens (s.get (TSH_RXQ_POLICE_RATE q)) (s.get (TSH_RXQ_PBURST_BURST q)) }))
  ∧ (∀ (p : Fin 32) (ph : Fin 8) (ce ue : Nat) (fcs ok : Bool) (f : List Byte) (desc : Option (List Byte)) (s : State), s.ethLink p = true →
      let counts (k : Nat) := completes (.ethFrameReceive p ph ce ue fcs f desc ok) s (fun u => signals s u
        ∧ (ue = 0 → u = { s with regs := u.regs, ctrs := u.ctrs })
        ∧ u.ctr (INT_DET_CNT 80) = (s.count (INT_DET_CNT 80) ue).ctr (INT_DET_CNT 80)
        ∧ u.ctr k = (s.count k 1).ctr k ∧ u.ctr (ETH_FEC_CE p) = (s.count (ETH_FEC_CE p) ce).ctr (ETH_FEC_CE p)
        ∧ u.ctr (ETH_FEC_UE p) = (s.count (ETH_FEC_UE p) ue).ctr (ETH_FEC_UE p))
      let bad := f.length + 4 < 64 ∨ s.get (ETH_PORT_CTRL_MAX_FRAME p) < f.length + 4
      (fcs = false → counts (ETH_RX_FCS p)) ∧ (fcs = true → bad → counts (ETH_RX_LEN p))
      ∧ (fcs = true → ¬ bad → s.macOk p (f.take 6) = false → counts (ETH_RX_FILTER p))
      ∧ ∀ d sl, let vid := if beAt f 12 2 = 0x8100 then beAt f 14 2 % 4096 else 0
          let q := if vid % 2 = 1 then s.get (ETH_VLAN_MAP_QUEUE_O p (vid / 2)) else s.get (ETH_VLAN_MAP_QUEUE_E p (vid / 2))
          fcs = true → ¬ bad → s.macOk p (f.take 6) = true → s.flag (ETH_PORT_CTRL_FH_EN p) = false →
          s.flag (if vid % 2 = 1 then ETH_VLAN_MAP_VALID_O p (vid / 2) else ETH_VLAN_MAP_VALID_E p (vid / 2)) = true →
          s.rxSlice q = some sl → s.flag (TSH_RXQ_CFG_EN q) = true → s.get (TSH_RXQ_POLICE_RATE q) = 0 → s.flag (TSH_RXQ_CFG_QSTOP q) = false →
          s.get (TSH_RXQ_STATUS_CONS q) ≠ (s.rxq q).prod → f.length ≤ 256 * s.get (TSH_RXQ_CFG_BUFSZ q) → s.get (TSH_RXQ_CFG_SPACE q) = 0 →
          s.dmaOpen = true → desc = some d → ok = true → completes (.ethFrameReceive p ph ce ue fcs f desc ok) s (fun u =>
            u.get (TSH_RXQ_STATUS_CONS q) = (s.get (TSH_RXQ_STATUS_CONS q) + 1) % 2 ^ 32 ∧ u.eth = s.eth ∧ u.tiles = s.tiles ∧ (s.logSlots sl = [] → u.mem = s.mem)
            ∧ u.ctr (ETH_RX_FRAMES p) = (s.count (ETH_RX_FRAMES p) 1).ctr (ETH_RX_FRAMES p)
            ∧ u.ctr (ETH_RX_OCTETS p) = (s.count (ETH_RX_OCTETS p) (f.length + 4)).ctr (ETH_RX_OCTETS p)))
  ∧ ∀ (site : EyeSite) (h w : BitVec 8) (lane : Fin 8) (s : State), completes (.eyeMeasurement site h w lane) s (fun u =>
      signals s u ∧ (h.toNat < s.get INT_LINK_CFG_EYE_MV → u.ctr (INT_DET_CNT 138) = (s.count (INT_DET_CNT 138) 1).ctr (INT_DET_CNT 138))
      ∧ (s.get INT_LINK_CFG_EYE_MV ≤ h.toNat → u = { s with regs := u.regs })
      ∧ ∀ p, site = .drv p → u.get (DRV_PORT_EYE_HEIGHT_MV p) = h.toNat ∧ u.get (DRV_PORT_EYE_WIDTH p) = w.toNat
          ∧ u.get (DRV_PORT_EYE_LANE p) = lane ∧ u.flag (DRV_PORT_EYE_VALID p) = true)

namespace Sys2Proof.Spec

/-- A request to a tier that is open: reads give committed data, writes go to the home location, device addresses without a slice,
translated ones for a LIVE slice, its pages logged; a refused translation counts. To a tier that is not open it waits. -/
def tierServed (cmd : Instr) (who : Requester) (sl : Option Nat) (tierB : Bool) (off : Nat) (acc : Access) (s : State) : Prop :=
  let n := accLen acc
  0 < n →
  (s.tierOpen tierB = false → exec cmd s = .next (s.onPcie (fun p => { p with tierQ := p.tierQ ++ [⟨who, sl, tierB, off, acc⟩] })))
  ∧ (s.tierOpen tierB = true →
    (sl = none → inTier tierB (off + n - 1) = true →
      (∀ d, acc = .read n → (s.devView tierB off n).1 = some d → markedM d = false →
        exec cmd s = .next ((s.devView tierB off n).2.complete who .ok (bytesM d)))
      ∧ (∀ d, acc = .write d → (s.devWrite tierB off (cleanM d)).1 = false →
        exec cmd s = .next (((s.devWrite tierB off (cleanM d)).2.logDevice tierB off n).complete who .ok [])))
    ∧ ∀ k, sl = some k → s.live k = true →
      (s.rangeOk k tierB off n = true →
        (∀ d, acc = .read n → (s.viewRead k (s.viewLines k false) tierB off n).1 = some d → markedM d = false →
          exec cmd s = .next ((s.viewRead k (s.viewLines k false) tierB off n).2.complete who .ok (bytesM d)))
        ∧ (∀ d, acc = .write d → (s.homeWrite k tierB off (cleanM d)).1 = false →
          exec cmd s = .next ((s.homeWrite k tierB off (cleanM d)).2.complete who .ok [])))
      ∧ (s.rangeOk k tierB off n = false → exec cmd s = .next ((s.tally (SLC_REFUSE k)).complete who (refusedAs who) [])))

end Sys2Proof.Spec

/-- CORE_CFG_WRITE: of a core in reset it stores ROLE and SLICE, and RUN 1 starts it at the accepted boot entry; RUN 0 holds a running core in
reset and drops its requests; a changed role of a running core is ignored with LOCK_WR. CORE_TIER_ACCESS of a running core is served as the
manager's or its slice's request, or is an access fault where the slice is not LIVE. CORE_HOST_ACCESS with DMA open and ATS off sends a write (stated of a slice whose
pages are not logged) or a read under the slice's PASID; with DMA blocked it ends as an error completion. BOOT_START and GO begin the fetch once tier A is open. BOOT_FETCH_DONE of an
image that passes every check starts core 0 and ends in RUNNING; a flash error ends in FAILED with code 1. BAR2_REQUEST is served as a
manager's or a slice's; a PASID bound to no slice gets Unsupported Request and counts; a poisoned write changes no memory and fires DET_098. -/
def Obligations.CoresAndBar2 : Prop :=
  (∀ (c : Fin 32) (v : Word) (s : State), let role : Fld := ⟨0x1000200 + 4 * c.val, 1, 7⟩
    let r := v.toNat / 2 % 128
    (s.coreRuns c = false →
      completes (.coreCfgWrite c v) s (fun u => sameRegs [role.key, 0x1000004] s u ∧ u.get role = r
        ∧ u.coreRuns c = (v.getLsbD 0 && s.pcie.boot.isSome) ∧ u = { s with regs := u.regs, out := u.out }
        ∧ (v.getLsbD 0 = false → u.out = s.out)
        ∧ ∀ pc img, v.getLsbD 0 = true → s.pcie.boot = some (pc, img) → u.out = .coreStart c pc c img :: s.out))
    ∧ (s.coreRuns c = true →
      (v.getLsbD 0 = false → completes (.coreCfgWrite c v) s (fun u => u.coreRuns c = false ∧ u.get role = s.get role
        ∧ u.out = .coreStop c :: s.out ∧ (∀ x ∈ u.pcie.reads, x.hart ≠ c) ∧ (∀ x ∈ u.pcie.tierQ, x.who ≠ .core c)
        ∧ sameRegs [role.key, 0x1000004] s u))
      ∧ (v.getLsbD 0 = true → s.get role ≠ r → completes (.coreCfgWrite c v) s (fun u => onlyRegs [0x1000004] s u
        ∧ u.flag (fLockWr 0x1000004) = true))))
  ∧ (∀ (c : Fin 32) (tierB : Bool) (off : BitVec 40) (acc : Access) (s : State), s.coreRuns c = true →
      (s.coreOk c = true → tierServed (.coreTierAccess c tierB off acc) (.core c) (s.coreSlice c) tierB off.toNat acc s)
      ∧ (s.coreOk c = false → exec (.coreTierAccess c tierB off acc) s = .next (s.complete (.core c) .fault [])))
  ∧ (∀ (c : Fin 32) (addr : BitVec 47) (ans : HostAns) (s : State), s.coreRuns c = true → s.coreOk c = true →
      let pasid := (s.coreSlice c).map (fun (sl : Nat) => s.get (SLC_PASID_PASID sl))
      (s.dmaOpen = true → s.flag fAtsEn = false →
        (∀ d, d ≠ [] → (∀ sl, s.coreSlice c = some sl → s.logSlots sl = []) → completes (.coreHostAccess c addr (.write d) ans) s (fun u =>
            u.out = .cpl (.core c) .ok [] :: .dma pasid addr.toNat d :: s.out ∧ u.pcie = s.pcie ∧ u.tiles = s.tiles))
        ∧ (∀ n d, ans = .data d → exec (.coreHostAccess c addr (.read n) ans) s = .next { s with
            out := .cpl (.core c) .ok ((d ++ List.replicate n 0).take n) :: .dmaRead pasid addr.toNat n false :: s.out }))
      ∧ (s.dmaOpen = false → ∀ acc, completes (.coreHostAccess c addr acc ans) s (fun u =>
          signalsIn [0x1000014] s u ∧ u.flag PCI_EVENT_DMA_BLOCKED = true ∧ ∃ rest, u.out = .cpl (.core c) .err [] :: rest)))
  ∧ (∀ s : State, s.flag MEM_INIT_A_DONE = true →
      (s.get PCI_CPX_BOOT_STAGE = 0 → s.flag PCI_CPX_BOOT_SRC = false → completes .bootStart s (fun u =>
        onlyRegs [0x1000100] s u ∧ u.get PCI_CPX_BOOT_STAGE = 1 ∧ u.get PCI_CPX_BOOT_ERR = 0))
      ∧ (s.get PCI_CPX_BOOT_STAGE = 0 → s.flag PCI_CPX_BOOT_SRC = true → exec .bootStart s = .next s)
      ∧ (s.get PCI_CPX_BOOT_STAGE ∉ [1, 2] → completes .go s (fun u =>
        onlyRegs [0x1000100] s u ∧ u.get PCI_CPX_BOOT_STAGE = 1 ∧ u.get PCI_CPX_BOOT_ERR = 0))
      ∧ (s.get PCI_CPX_BOOT_STAGE ∈ [1, 2] → exec .go s = .next s))
  ∧ (∀ (sig : Bool) (s : State), s.get PCI_CPX_BOOT_STAGE = 1 →
      (s.flag PCI_CPX_BOOT_SRC = false → completes (.bootFetchDone none sig) s (fun u => signalsIn [0x1000100, 0x1000014] s u
        ∧ u.get PCI_CPX_BOOT_STAGE = 4 ∧ u.get PCI_CPX_BOOT_ERR = 1 ∧ u.flag PCI_EVENT_BOOT_EVT = true))
      ∧ ∀ hd img, s.flag PCI_CPX_BOOT_SRC = true →
          let w := (s.bootRead 256).2.put PCI_CPX_BOOT_STAGE 2
          let len := leAt hd 0xC 4
          let fin := img.length - (if leAt hd 9 1 % 2 = 1 then 256 else 0)
          (s.bootRead 256).1 = some hd → bootHeaderErr hd = none → (w.bootRead (256 * len)).1 = some img →
          leAt hd 0x18 4 = crc32c ((img.take fin).drop 256) → w.bootPolicy img sig = true →
          completes (.bootFetchDone none sig) s (fun u => u.get PCI_CPX_BOOT_STAGE = 3 ∧ u.flag PCI_EVENT_BOOT_EVT = true ∧ u.coreRuns 0 = true
            ∧ u.pcie.boot = some (2 ^ 40 + s.bootAddr + leAt hd 0x10 8, 2 ^ 40 + s.bootAddr)))
  ∧ ∀ (rid : BitVec 16) (off : BitVec 41) (acc : Access) (s : State), s.flag fLinkUp = true →
      let tierB := decide (2 ^ 40 ≤ off.toNat)
      tierServed (.bar2Request rid none off acc false) (.pcie rid none) none tierB (off.toNat % 2 ^ 40) acc s
      ∧ (∀ (p : BitVec 20), let who : Requester := .pcie rid (some p)
          (s.pasidSlice p.toNat = none → ∀ poisoned : Bool, exec (.bar2Request rid (some p) off acc poisoned) s
            = .next ((s.tally SLC_UNBOUND).complete who .ur []))
          ∧ ∀ k, s.pasidSlice p.toNat = some k → tierServed (.bar2Request rid (some p) off acc false) who (some k) tierB (off.toNat % 2 ^ 40) acc s)
      ∧ (∀ d, acc = .write d → completes (.bar2Request rid none off acc true) s (fun u => signals s u
          ∧ u.ctr (INT_DET_CNT 98) = (s.count (INT_DET_CNT 98) 1).ctr (INT_DET_CNT 98)))

/-- ATS_TRANSLATION_COMPLETE with ATS on puts an answer that grants a permission into the cache, and the write that waited for it
leaves translated. ATS_INVALIDATE removes the entries that meet the range; ATS_INVALIDATE_DONE sends the completion when no read
is under way. COMPLETION_TIMEOUT ends a core's oldest read that is under way as an error completion and fires DET_099. FUNCTION_LEVEL_RESET clears the switches, the MSI-X table, the
pending bits and the translation cache, drops held writes and touches no register else, tile, tier or slice. PCIE_LINK_DOWN of an UP link clears its
status and sets LINK_DOWN; PCIE_RESET does both. MSIX_UNMASK stores the entry, and a pending message that nothing masks any more is sent. PCIE_LINK_UP with
the hub running, at 4, 8 or 16 lanes and 2.5 to 64 GT/s, the last in FLIT mode, shows speed, width and mode, and the function presents its identity:
Vendor 0x1FD3, Device 0x8840, Revision 0xB1, class 0x12_0000 and the card's subsystem; any other link does not train. CONFIGURATION_SPACE_WRITE while the link is up sets the switches. -/
def Obligations.PcieFunction : Prop :=
  (∀ (pasid : Option (BitVec 20)) (base dst : BitVec 64) (log2 : Fin 19) (rd wr : Bool) (s : State),
    let q := pasid.map (fun (p : BitVec 20) => p.toNat)
    let e : AtsEntry := ⟨q, base.toNat, 12 + log2.val, dst.toNat, rd, wr⟩
    s.flag fAtsEn = true → s.pcie.reads = [] →
    (s.pcie.held = [] → exec (.atsTranslationComplete pasid base dst log2 rd wr) s = .next { s with
      pcie := { s.pcie with cache := if rd ∨ wr then (e :: s.pcie.cache).take 8192 else s.pcie.cache } })
    ∧ (∀ k a d, s.pcie.held = [.write k q a d] → wr = true → base.toNat ≤ a → a < base.toNat + 2 ^ (12 + log2.val) →
        exec (.atsTranslationComplete pasid base dst log2 rd wr) s = .next { s with
          out := .dmaTr q (dst.toNat + (a - base.toNat)) d :: s.out
          pcie := { s.pcie with held := [], cache := (e :: s.pcie.cache).take 8192 } }))
  ∧ (∀ (tag : Fin 32) (pasid : Option (BitVec 20)) (base : BitVec 64) (log2 : Fin 53) (s : State),
      let i : AtsInval := ⟨tag.val, pasid.map (fun (p : BitVec 20) => p.toNat), base.toNat, 12 + log2.val⟩
      completes (.atsInvalidate tag pasid base log2) s (fun u => u = { s with pcie := u.pcie }
        ∧ u.pcie = { s.pcie with cache := u.pcie.cache, invals := s.pcie.invals ++ [i] }
        ∧ ∀ x, x ∈ u.pcie.cache ↔ x ∈ s.pcie.cache ∧ ¬ (x.pasid = i.pasid ∧ x.base < i.base + 2 ^ i.log2 ∧ i.base < x.base + 2 ^ x.log2)))
  ∧ (∀ (tag : Fin 32) (i : AtsInval) (s : State), i ∈ s.pcie.invals → i.tag = tag → s.pcie.reads = [] →
      completes (.atsInvalidateDone tag) s (fun u => u = { s with pcie := u.pcie, out := .atsDone tag :: s.out }
        ∧ u.pcie = { s.pcie with invals := s.pcie.invals.filter (fun j => decide (j.tag ≠ tag)) }))
  ∧ (∀ (hart : Fin 32) (r : HostRead) (s : State), s.pcie.reads.find? (fun x => decide (x.hart = hart ∧ x.held = false)) = some r →
      completes (.completionTimeout hart) s (fun u => u.out.head? = some (.cpl (.core hart) .err []) ∧ signals s u
        ∧ u.pcie.reads = s.pcie.reads.erase r ∧ u.ctr (INT_DET_CNT 99) = (s.count (INT_DET_CNT 99) 1).ctr (INT_DET_CNT 99)))
  ∧ (∀ s : State,
      completes .functionLevelReset s (fun u => u = { s with regs := u.regs, pcie := u.pcie, out := u.out }
        ∧ sameRegs [0x30000000, 0x1000010, 0x1000014] s u ∧ u.flag fLinkUp = s.flag fLinkUp
        ∧ (∀ f ∈ [fBme, fD3hot, fMsixEn, fMsixMask, fAtsEn, PCI_LINK_STATUS_BME], u.flag f = false)
        ∧ u.pcie.table = [] ∧ u.pcie.pba = [] ∧ u.pcie.cache = [] ∧ u.pcie.invals = [] ∧ u.pcie.held = [] ∧ u.pcie.boot = s.pcie.boot)
      ∧ (s.flag fLinkUp = true →
        completes .pcieLinkDown s (fun u => u = { s with regs := u.regs, pcie := u.pcie, out := u.out }
          ∧ sameRegs [0x1000010, 0x1000014] s u ∧ u.flag fLinkUp = false ∧ u.flag PCI_EVENT_LINK_DOWN = true ∧ u.dmaOpen = false
          ∧ u.pcie.table = s.pcie.table)
        ∧ completes .pcieReset s (fun u => u = { s with regs := u.regs, pcie := u.pcie, out := u.out }
          ∧ u.flag fLinkUp = false ∧ u.flag PCI_EVENT_LINK_DOWN = true ∧ u.flag fBme = false ∧ u.flag fMsixEn = false
          ∧ u.pcie.table = [] ∧ u.pcie.pba = [] ∧ u.pcie.cache = [])))
  ∧ (∀ (vec : Fin 2048) (e : MsixEntry) (s : State), s.flag fLinkUp = true → completes (.msixUnmask vec e) s (fun u =>
      u = { s with pcie := u.pcie, out := u.out } ∧ u.msixEntry vec = e ∧ (∀ i, i ≠ vec.val → u.msixEntry i = s.msixEntry i)
      ∧ (vec.val ∈ s.pcie.pba → s.flag fMsixEn = true → s.flag fMsixMask = false → e.masked = false → s.dmaOpen = true →
          vec.val ∉ u.pcie.pba ∧ (s.pcie.held = [] → .msix vec e.addr e.data ∈ u.out))
      ∧ (e.masked = true → (vec.val ∈ u.pcie.pba ↔ vec.val ∈ s.pcie.pba))))
  ∧ (∀ (speed : Fin 8) (width : Fin 32) (flit : Bool) (s : State),
      let trains := (width.val = 4 ∨ width.val = 8 ∨ width.val = 16) ∧ 1 ≤ speed.val ∧ speed.val ≤ 6 ∧ (speed.val = 6 → flit = true)
      (s.flag PWR_STATE_HUB_RUN = false ∨ ¬ trains → exec (.pcieLinkUp speed width flit) s = .next s)
      ∧ (s.flag PWR_STATE_HUB_RUN = true → trains → completes (.pcieLinkUp speed width flit) s (fun u =>
          onlyRegs [0x1000010] { s with out := .function ⟨0x1FD3, 0x8840, 0xB1, 0x120000, s.hol.card.subVendor, s.hol.card.subId⟩ :: s.out } u
          ∧ u.flag fLinkUp = true
          ∧ u.get PCI_LINK_STATUS_SPEED = speed ∧ u.get PCI_LINK_STATUS_WIDTH = width ∧ u.flag PCI_LINK_STATUS_FLIT = flit)))
  ∧ ∀ (c : FnConfig) (s : State), s.flag fLinkUp = true → completes (.configurationSpaceWrite c) s (fun u =>
      u = { s with regs := u.regs, pcie := u.pcie, out := u.out } ∧ sameRegs [0x30000000, 0x1000010, 0x1000014] s u
      ∧ u.flag fBme = c.bme ∧ u.flag fD3hot = c.d3hot ∧ u.flag fMsixEn = c.msixEn ∧ u.flag fMsixMask = c.msixMask ∧ u.flag fAtsEn = c.atsEn
      ∧ u.flag PCI_LINK_STATUS_BME = c.bme ∧ u.pcie.timeout = c.timeout ∧ u.pcie.table = s.pcie.table
      ∧ (c.bme = false → u.pcie.held = []))

namespace Sys2Proof.Spec

/-- With one command `c` of the mailbox with code `opc` waiting, the warden takes it, makes the state `w` of the state without it, and
answers with the status and words. -/
def wardenRuns (cmd : Instr) (s : State) (c : HolCmd) (w : State) (status : Nat) (ws : List Word) : Prop :=
  exec cmd s = .next (w.holAnswer c status ws)

/-- The newest record of the event log has this body. -/
def newest (r : Rec) (u : State) : Prop := u.hol.log.getLast?.map (fun l => l.body) = some r

/-- The commands of the warden and their codes (R473). -/
def refusedWhenScrapped (s : State) (c : HolCmd) (w : State) : Prop :=
  (∀ i ∈ [(Instr.keyEnroll, 4), (.keyRevoke, 5), (.attest, 7), (.sensorRead, 8)], holOpc c = i.2 → wardenRuns i.1 s c w 1 [])
  ∧ (∀ good, holOpc c = 6 → wardenRuns (.lcAdvance good) s c w 1 [])
  ∧ ∀ ans, (holOpc c = 9 → wardenRuns (.pmbusXfer ans) s c w 1 []) ∧ (holOpc c = 10 → wardenRuns (.cmisXfer ans) s c w 1 [])

end Sys2Proof.Spec

/-- WARDEN_WAKE of a started warden with work; WCLK_STOP with none. WATCHDOG_EXPIRY counts, logs kind 8 and sets WDOG. Each mailbox command, alone at the front,
is taken and answered: INFO, LOG_READ of a held record, LOG_EXPORT, KEY_ENROLL before DEPLOYED, KEY_REVOKE that leaves a usable key,
LC_ADVANCE along R463 (else REFUSED), ATTEST with a device key, SENSOR_READ, PMBUS_XFER, CMIS_XFER; in SCRAPPED codes above 3 are refused
with no effect. The answer of the manager's mailbox fills the response words, clears BUSY and sets CMD_DONE. SEAL_GROUPS_WRITE sets exactly the bits of groups granted to a
LIVE tenant while no wipe runs. With the hub running, WATCHDOG_EXPIRY fires DET_114 and a tamper event DET_115. TAMPER_EVENT of an enabled source and TAMPER_TEST before DEPLOYED or in RETURNED set TAMPER, log kind 5, wake the warden,
and with the hub running start a wipe. WIPE_COMPLETE leaves every sealed bank empty and no SEAL, sets WIPED and logs kind 7. SENSOR_SCAN stores the readings; one of 110 °C
on the main dies powers down. REGULATOR_POLL, SMBALERT, MODULE_INSERT, MODULE_MONITOR_READ of a site that is served. WARDEN_RECORD logs the oldest record. -/
def Obligations.HollowCommands : Prop :=
  (∀ s : State,
    (s.hol.started = true → s.wardenBusy = true → exec .wardenWake s = .next { s with hol := { s.hol with awake := true, wake := false } })
    ∧ (s.wardenBusy = false → exec .wclkStop s = .next { s with hol := { s.hol with awake := false } })
    ∧ (s.hol.awake = true → s.hol.queue = [] → s.get PWR_STATE_MAIN ≠ mainRamp → s.hubHeld = false → completes .watchdogExpiry s (fun u =>
        u = { s with regs := u.regs, ctrs := u.ctrs, out := u.out, pcie := u.pcie, hol := u.hol, integ := u.integ } ∧ newest ⟨8, 0, 0, s.holTemp, 0, 0, 0⟩ u
        ∧ (s.flag PWR_STATE_HUB_RUN = true → u.ctr (INT_DET_CNT 114) = (s.count (INT_DET_CNT 114) 1).ctr (INT_DET_CNT 114))
        ∧ u.ctr HOL_WDOG = (s.count HOL_WDOG 1).ctr HOL_WDOG ∧ u.flag HOL_EVENT_WDOG = true))
    ∧ ∀ (c : HolCmd) (st : Nat) (ws : List Word), c.node = none → let u := s.holAnswer c st ws
        (∀ i, i < 16 → u.get (HOL_RSP_WORD i) = (nth 0 (rspWords (nth 0 c.words 1) st ws) i).toNat)
        ∧ u.flag HOL_CMD_CTRL_BUSY = false ∧ u.flag HOL_EVENT_CMD_DONE = true)
  ∧ (∀ (s : State) (c : HolCmd), s.hol.queue = [c] →
      let w : State := { s with hol := { s.hol with queue := [] } }
      let lc := s.get HOL_LC_STATE
      (holOpc c = 1 → wardenRuns .info s c w 0 [BitVec.ofNat 32 lc, Config.deviceId.extractLsb' 0 32, Config.deviceId.extractLsb' 32 32,
        Config.romVersion, BitVec.ofNat 32 (s.hol.enrolled % 256 + 256 * (s.hol.revoked % 256))])
      ∧ (∀ l, holOpc c = 2 → s.hol.log.find? (fun x => decide (x.seq = holArg c 2)) = some l → wardenRuns .logRead s c w 0 (bytesWords 8 (logBytes l)))
      ∧ (let ls := s.hol.log.filter (fun l => decide ((l.seq + 2 ^ 32 - holArg c 4) % 2 ^ 32 < holArg c 5))
         let wr := w.devWrite false (holAddr c 2) (cleanM (ls.flatMap logBytes))
         holOpc c = 3 → holArg c 5 ≤ 2048 → ls ≠ [] → s.holAddrOk (holAddr c 2) (32 * ls.length) = true →
           (wr.1 = false → wardenRuns .logExport s c wr.2 0 [BitVec.ofNat 32 ls.length]) ∧ (wr.1 = true → wardenRuns .logExport s c wr.2 4 []))
      ∧ (lc = lcScrapped → refusedWhenScrapped s c w)
      ∧ (lc ≠ lcScrapped →
        (∀ d, let r := w.devView false (holAddr c 3) 96
          holOpc c = 4 → holArg c 2 < 8 → s.holAddrOk (holAddr c 3) 96 = true → lc ≤ lcProvisioned → s.hol.enrolled.testBit (holArg c 2) = false →
          r.1 = some d → markedM d = false →
          wardenRuns .keyEnroll s c ((r.2.onHol (fun h => { h with
            keys := mapSet (fun _ => []) h.keys (holArg c 2) (bytesM d), enrolled := h.enrolled ||| 2 ^ holArg c 2 })).refreshKeys) 0 [])
        ∧ (holOpc c = 5 → holArg c 2 < 8 → s.hol.enrolled.testBit (holArg c 2) = true →
          (lc ≠ lcDeployed ∨ s.hol.enrolled &&& (255 - (s.hol.revoked ||| 2 ^ holArg c 2)) ≠ 0) →
          wardenRuns .keyRevoke s c ((w.onHol (fun h => { h with revoked := h.revoked ||| 2 ^ holArg c 2 })).refreshKeys) 0 [])
        ∧ (∀ good, holOpc c = 6 → holArg c 2 ≤ 4 →
          (lcMove lc (holArg c 2) = none → wardenRuns (.lcAdvance good) s c w 1 [])
          ∧ (lcMove lc (holArg c 2) = some false → (holArg c 2 = lcScrapped ∨ s.usableKeys ≠ 0) →
              wardenRuns (.lcAdvance good) s c (w.lcEnter (holArg c 2)) 0 [])
          ∧ (lcMove lc (holArg c 2) = some true → s.holAddrOk (holAddr c 4) 96 = true → holArg c 3 < 8 → s.usableKeys.testBit (holArg c 3) = true →
              wardenRuns (.lcAdvance true) s c (w.lcEnter (holArg c 2)) 0 [] ∧ wardenRuns (.lcAdvance false) s c w 3 [])
          ∧ (s.flag PWR_STATE_HUB_RUN = false → (w.lcEnter (holArg c 2)).get HOL_LC_STATE = holArg c 2))
        ∧ (∀ key n, let r := w.devView false (holAddr c 2) 48
          let head := natToBytes 8 Config.deviceId.toNat ++ natToBytes 8 lc
          holOpc c = 7 → s.holAddrOk (holAddr c 2) 48 = true → s.holAddrOk (holAddr c 4) 112 = true → s.hol.devKey = some key → r.1 = some n →
          let wr := r.2.devWrite false (holAddr c 4) (cleanM (head ++ deviceSign key (head ++ bytesM n)))
          markedM n = false → wardenRuns .attest s c wr.2 (if wr.1 then 4 else 0) [])
        ∧ (holOpc c = 8 → wardenRuns .sensorRead s c w 0 ((List.range 13).map (fun i => BitVec.ofNat 32 (s.get (HOL_SENS_TEMP (2 * i))
            + 65536 * (if i < 12 then s.get (HOL_SENS_TEMP (2 * i + 1)) else 0)))))
        ∧ (∀ d, holOpc c = 9 → holArg c 2 < s.hol.card.regs.val → holArg c 3 / 256 % 256 ≤ 16 → (lc ≠ lcDeployed ∨ pmbusReserved (holArg c 3 % 256) = false) →
            wardenRuns (.pmbusXfer (some d)) s c (w.emit (.pmbus (holArg c 2) (holArg c 3 % 256) (holData c (holArg c 3 / 256 % 256)))) 0 (bytesWords 4 d))
        ∧ (∀ d, holOpc c = 10 → holArg c 2 % 256 < 44 → holArg c 3 ≤ 16 → s.optModule (holArg c 2 % 256) ≠ none →
            wardenRuns (.cmisXfer (some d)) s c (w.emit (.cmis (holArg c 2 % 256) (holArg c 2 / 256 % 256) (holArg c 2 / 65536 % 256) (holArg c 3)
              (holData c (holArg c 3)))) 0 (bytesWords 4 (d.take (holArg c 3))))))
  ∧ (∀ (hi : Bool) (v : Word) (s : State), completes (.sealGroupsWrite hi v) s (fun u =>
      onlyRegs [0xE00200, 0xE00204, 0xE00004] s u
      ∧ ∀ i, i < 32 → let g := if hi then 32 + i else i
          let ok := s.flag HOL_TAMPER_WIPING = false ∧ ∃ sl, 0 < sl ∧ sl < 64 ∧ s.live sl = true ∧ s.granted sl g = true
          (u.pairBit HOL_SEAL_GROUPS_LO_SEAL HOL_SEAL_GROUPS_HI_SEAL g = true
            ↔ s.pairBit HOL_SEAL_GROUPS_LO_SEAL HOL_SEAL_GROUPS_HI_SEAL g = true ∨ (v.getLsbD i = true ∧ ok))
          ∧ (v.getLsbD i = true → ¬ ok → u.flag (fLockWr 0xE00004) = true)))
  ∧ (∀ (src : Fin 5) (s : State), (src.val = 0 → s.flag HOL_TAMPER_EN_IN0 = true) → (src.val = 1 → s.flag HOL_TAMPER_EN_IN1 = true) →
      (s.flag PWR_STATE_HUB_RUN = false ∨ (s.sealedBanks = [] ∧ s.sealedGroups = [])) →
      let noted (n : Nat) (u : State) : Prop := u = { s with regs := u.regs, ctrs := u.ctrs, out := u.out, pcie := u.pcie, hol := u.hol, integ := u.integ }
        ∧ (s.flag PWR_STATE_HUB_RUN = true → u.ctr (INT_DET_CNT 115) = (s.count (INT_DET_CNT 115) 1).ctr (INT_DET_CNT 115))
        ∧ u.flag HOL_EVENT_TAMPER = true ∧ newest ⟨5, n, 0, s.holTemp, 0, 0, 0⟩ u ∧ u.hol.wake = true
        ∧ u.flag HOL_TAMPER_WIPING = (s.flag HOL_TAMPER_WIPING || s.flag PWR_STATE_HUB_RUN)
      completes (.tamperEvent src) s (fun u => noted src u ∧ u.flag ⟨0xE00210, 4 + src.val, 1⟩ = true)
      ∧ (s.get HOL_LC_STATE ∉ [lcDeployed, lcScrapped] → completes .tamperTest s (noted 5))
      ∧ (s.get HOL_LC_STATE ∈ [lcDeployed, lcScrapped] → completes .tamperTest s (notedOnly 0xE00004 2 s)))
  ∧ (∀ s : State, s.flag HOL_TAMPER_WIPING = true → s.hol.lcLog = [] → completes .wipeComplete s (fun u =>
      u.flag HOL_TAMPER_WIPING = false ∧ u.flag HOL_EVENT_WIPED = true ∧ newest ⟨7, 0, 0, s.holTemp, 0, 0, 0⟩ u
      ∧ (∀ c l, c < 128 → l < 64 → u.bankSealed c l = false ∧ (s.bankSealed c l = true → (u.cluster c).bank l = memEmpty))
      ∧ ∀ g, g < 64 → u.pairBit HOL_SEAL_GROUPS_LO_SEAL HOL_SEAL_GROUPS_HI_SEAL g = false))
  ∧ (∀ (ts : List (BitVec 16)) (s : State), let t (i : Nat) : BitVec 16 := nth 0 ts i
      ((∀ i, i < 24 → (t i).toInt < 440) → completes (.sensorScan ts) s (fun u =>
        u = { s with regs := u.regs, out := u.out, pcie := u.pcie, hol := u.hol }
        ∧ ∀ i, i < 25 → u.get (HOL_SENS_TEMP i) = (t i).toNat
            ∧ (signed 12 (s.get (HOL_SENS_WARN i)) ≤ (t i).toInt → u.flag (HOL_SENS_OVER i) = true ∧ u.flag HOL_EVENT_THERM_WARN = true)))
      ∧ ((∃ i, i < 24 ∧ 440 ≤ (t i).toInt) → s.get PWR_STATE_MAIN = mainOn → completes (.sensorScan ts) s (fun u =>
        u.get PWR_STATE_MAIN = mainOff ∧ u.get PWR_STATE_OFF_CAUSE = 2)))
  ∧ (∀ (i : Fin 16) (mv : BitVec 16) (a : BitVec 15) (status : BitVec 16) (s : State),
      (i.val < s.hol.card.regs.val → completes (.regulatorPoll i (some (mv, a))) s (fun u => onlyRegs [(PWR_RAIL_MV i).key] s u
        ∧ u.get (PWR_RAIL_MV i) = mv.toNat ∧ u.get (PWR_RAIL_IOUT i) = a.toNat ∧ u.flag (PWR_RAIL_VALID i) = true)
        ∧ completes (.regulatorPoll i none) s (newest ⟨10, 0, i, s.holTemp, 0, 0, 0⟩))
      ∧ completes (.smbalert i status false) s (fun u => u.hol.wake = true ∧ newest ⟨10, 0, i, s.holTemp, 0, 0, status.toNat⟩ u
          ∧ u = { s with hol := u.hol, sal := u.sal })
      ∧ (s.get PWR_STATE_MAIN = mainOn → completes (.smbalert i status true) s (fun u => u.get PWR_STATE_MAIN = mainOff ∧ u.get PWR_STATE_OFF_CAUSE = 3)))
  ∧ (∀ (site : Fin 44) (s : State), (site.val < 32 ∧ s.ethInUse site = false → ∀ d, exec (.moduleInsert site d) s = .next s)
      ∧ ((32 ≤ site.val ∨ s.ethInUse site = true) → (∀ d, completes (.moduleInsert site (some d)) s (fun u => u = { s with hol := u.hol } ∧ u.optModule site = some ⟨d, [], 0⟩))
      ∧ ∀ m, s.optModule site = some m →
          (∀ (d : List Byte) (rx : BitVec 16) (lane : Fin 8), completes (.moduleMonitorRead site (some (d, rx, lane))) s (fun u =>
            u.optModule site = some { m with mon := d, fails := 0 }
            ∧ (32 ≤ site.val → u.get (DRV_PORT_OPT_RXPWR (site.val - 32)) = rx.toNat ∧ u.get (DRV_PORT_OPT_LANE (site.val - 32)) = lane
                ∧ u.flag (DRV_PORT_OPT_VALID (site.val - 32)) = true)))
          ∧ completes (.moduleMonitorRead site none) s (fun u => u = { s with hol := u.hol }
            ∧ u.optModule site = (if 3 ≤ m.fails + 1 then none else some { m with fails := m.fails + 1 }))))
  ∧ ∀ (s : State) (r : Rec) (t : List Rec), s.integ.queue = r :: t → s.integ.lost = false → (r.kind ≠ 1 ∨ (detCorner r.det = false ∧ r.det ≠ 41)) →
      completes .wardenRecord s (fun u => newest r u ∧ u.integ = { s.integ with queue := t }
        ∧ u = { s with integ := u.integ, hol := u.hol, sal := u.sal, regs := u.regs, out := u.out, pcie := u.pcie })

/-- INT_INJECT_ARM: a detector of the table fires on its instance and counts; 20 waits for the group's next digest; a reserved one
fires nothing; one of a link makes every step with data in flight on it suspect; a class-U one has its unit's outcome (a stopped queue, a port down). REPLAY_START places the oldest step's logical group that needs a replay on the first target, powered on.
REPLAY_SETUP_DONE, the target not lent, starts it: the target holds the sections and stands at a BOUNDARY. REPLAY_VERDICT of equal digests, the journal complete, counts the replay,
ends it and gives MATCH; where a tie-break agrees with the original the other target is quarantined and the group matches.
QUAR_CLEAR clears exactly the written bits of groups that no slice holds. MARGIN_SAMPLE and SUPPLY_DROOP keep the extremes, and one beyond its
bound fires the die's detector. DERATE_CLR clears the die's corner counts and cancels the deratings so far. -/
def Obligations.IntegrityCommands : Prop :=
  (∀ (v : Word) (s : State), let d := v.toNat % 256
    let i := v.toNat / 256 % 65536
    (v.getLsbD 31 = false ∨ detClass d = none → completes (.intInjectArm v) s (onlyRegs [0xD00018, 0xD00004] s))
    ∧ (v.getLsbD 31 = true → d = 20 → completes (.intInjectArm v) s (fun u => u.flag INT_INJECT_ARM = true
        ∧ u = { s with regs := u.regs, integ := u.integ }
        ∧ u.integ = { s.integ with flipDigest := s.integ.flipDigest ||| BitVec.ofNat 64 (2 ^ (i % 64)) }))
    ∧ (v.getLsbD 31 = true → d = 73 → i < 64 → completes (.intInjectArm v) s (fun u => u.flag (BBH_Q_CFG_QERR i) = true
        ∧ u.flag BBH_EVENT_QERR = true ∧ u.ctr (INT_DET_CNT d) = (s.count (INT_DET_CNT d) 1).ctr (INT_DET_CNT d)))
    ∧ (v.getLsbD 31 = true → d = 89 → i < 12 → s.portUp i = true → completes (.intInjectArm v) s (fun u => u.portUp i = false
        ∧ u.ctr (INT_DET_CNT d) = (s.count (INT_DET_CNT d) 1).ctr (INT_DET_CNT d)))
    ∧ (v.getLsbD 31 = true → detClass d = some .s → instGroup d i = none → completes (.intInjectArm v) s (fun u =>
        u.ctr (INT_DET_CNT d) = (s.count (INT_DET_CNT d) 1).ctr (INT_DET_CNT d)
        ∧ ∀ g, g < 64 → s.onLink d i g = true → ∀ sl lg n, sl ≠ 0 → s.get (DSP_GRP_STATE_SLICE g) = sl → s.lgroupOn sl g = some lg → n = (s.group g).step →
            s.get (DSP_GRP_STATE_STATE g) ≠ grpLent → (s.group g).stage = none → (s.group g).replay = false →
            (s.slice sl).steps.any (fun r => decide (r.num = n)) = true → lg ∈ (u.stepRec sl n).suspect))
    ∧ (v.getLsbD 31 = true → d ≠ 20 → detClass d ∈ [some .c, some .i, some .m] →
        completes (.intInjectArm v) s (fun u => signals s u ∧ u.ctr (INT_DET_CNT d) = (s.count (INT_DET_CNT d) 1).ctr (INT_DET_CNT d))))
  ∧ (∀ (sl lg : Fin 64) (s : State) (r : StepRt) (rest : List StepRt) (g : Nat), let orig := (s.placeOf sl lg).getD 0
      s.integ.replays = [] → (s.slice sl).steps = r :: rest → lg.val ∈ r.sampled ++ r.suspect → lg.val ∉ r.matched →
      (∀ j ∈ s.integ.journals, j.slice = sl → j.step = r.num → j.lgroup = lg → j.full = true) →
      s.pickTarget sl lg orig [] (fun _ => false) = some (g, none) → mapGet (fun _ => none) s.integ.holds g ≠ some (sl.val, lg.val, s.imageGen sl) →
      completes (.replayStart sl lg) s (fun u =>
        u.integ.replays = [⟨sl, r.num, lg, orig, g, false, false, none, none, none, false, []⟩] ∧ (g < 64 → u.groupOn g = true)))
  ∧ (∀ (g : Fin 64) (s : State) (r : Replay) (im : Image) (gs : GroupSec),
      s.integ.replays.find? (fun x => decide (x.target = g.val) && !x.setup) = some r → r.borrow = none → (s.slice r.slice).image = some im →
      im.groups.find? (fun x => decide (x.lgroup = r.lgroup)) = some gs → s.get (DSP_GRP_STATE_STATE g) ≠ grpLent →
      completes (.replaySetupDone g) s (fun u => (u.group g).replay = true ∧ (u.group g).step = r.step ∧ u.get (DSP_GRP_STATE_STATE g) = grpBoundary
        ∧ (∀ x ∈ u.integ.replays, x.target = g.val → x.setup = true)
        ∧ mapGet (fun _ => none) u.integ.holds g = some (r.slice, r.lgroup, s.imageGen r.slice)))
  ∧ (∀ (sl lg : Fin 64) (s : State) (r : Replay), let d := r.digest.getD (0, 0)
      let o := mapGet (fun _ => (0, 0)) (s.slice sl).digests (64 * r.step + r.lgroup)
      s.integ.replays.find? (fun x => decide (x.slice = sl.val ∧ x.lgroup = lg.val) && x.setup && !x.voided && s.journalFull sl x.step lg) = some r →
      stepFrom (stepNext r.step) (s.group r.target).step = true → (∀ t ∈ groupTiles r.target, (s.tile t).opsLeft sl r.step 4096 = false) → s.groupDone sl r.step r.orig = true →
      s.integ.flipDigest.getLsbD r.orig = false →
      let w := (s.dropReplay r).tally INT_REPLAYS
      (∀ x ∈ w.integ.replays, x.target ≠ r.target)
      ∧ (r.first = none → o = d → exec (.replayVerdict sl lg) s = .next (w.replayMatch sl r.step lg))
      ∧ ∀ t d1, r.first = some (t, d1) → d ≠ d1 → d = o → exec (.replayVerdict sl lg) s = .next ((w.quarantine t).replayMatch sl r.step lg))
  ∧ (∀ (hi : Bool) (v : Word) (s : State), completes (.quarClear hi v) s (fun u => onlyRegs [0xD00028, 0xD0002C, 0xD00004] s u
      ∧ ∀ i, i < 32 → let g := if hi then 32 + i else i
          (u.quarantined g = true ↔ s.quarantined g = true ∧ ¬ (v.getLsbD i = true ∧ s.holder g = none))
          ∧ (v.getLsbD i = true → s.holder g ≠ none → u.flag (fLockWr 0xD00004) = true)))
  ∧ (∀ (d : Fin 5) (m : Fin 96) (v : BitVec 10) (s : State), let k := 128 + d.val
      let due := ∀ t, mapFind d.val s.integ.marginAt = some t → t + 100 ≤ s.ms
      completes (.marginSample d m v) s (fun u => signals s u ∧ u.get (INT_DIE_MARGIN d) = min v.toNat (s.get (INT_DIE_MARGIN d))
        ∧ (v.toNat < s.get INT_MARGIN_CFG_MIN_MARGIN → due → u.ctr (INT_DET_CNT k) = (s.count (INT_DET_CNT k) 1).ctr (INT_DET_CNT k))
        ∧ (¬ (v.toNat < s.get INT_MARGIN_CFG_MIN_MARGIN ∧ due) → u = { s with regs := u.regs })))
  ∧ (∀ (d : Fin 5) (m : Fin 16) (v : BitVec 8) (s : State), let k := 133 + d.val
      completes (.supplyDroop d m v) s (fun u => signals s u ∧ u.get (INT_DIE_DROOP d) = max v.toNat (s.get (INT_DIE_DROOP d))
        ∧ (s.get INT_MARGIN_CFG_DROOP_MV < v.toNat → u.ctr (INT_DET_CNT k) = (s.count (INT_DET_CNT k) 1).ctr (INT_DET_CNT k))
        ∧ (v.toNat ≤ s.get INT_MARGIN_CFG_DROOP_MV → u = { s with regs := u.regs })))
  ∧ ∀ (d : Fin 5) (s : State), completes (.derateClr d) s (fun u => u = { s with regs := u.regs, integ := u.integ }
      ∧ u.integ = { s.integ with corners := s.integ.corners.filter (fun c => decide (c.die ≠ d)), derateOld := u.integ.derateOld }
      ∧ (d.val < 4 → mapGet (fun _ => 0) u.integ.derateOld d = s.get (PWR_TCLK_DERATE d)
          ∧ u.tclkTarget d = min 7 (s.get (PWR_TCLK_CAP d)) ∧ sameRegs [(PWR_TCLK_CAP d).key] s u))

namespace Sys2Proof.Spec

/-- Every register but those of `PLN_GROUP_PRESENT_`, `PWR_STATE`, `PWR_TCLK_`, `INT_DIE_`, `HOL_SEAL_GROUPS_` and `HOL_TAMPER` is at its reset value, or, in the hollow and the
Salet modem, as it was; counters likewise (R539). -/
def keptRegs (s u : State) : Prop :=
  (∀ k, k ∉ [0x110, 0x114, 0x1100010, 0x1100030, 0x1100034, 0x1100038, 0x110003C, 0xD00040, 0xD00044, 0xD00048, 0xD0004C, 0xE00200, 0xE00204, 0xE00210] →
    u.reg k = if 0xE00000 ≤ k ∧ k < 0x1000000 then s.reg k else resetOf k)
  ∧ ∀ k, u.ctr k = if 0xE00000 ≤ k ∧ k < 0x1000000 then s.ctr k else 0

/-- Everything outside the hollow, the modem and the sequencer is as at reset, with `CAP`, `DERATE` and the warden's corner counts kept, no
group is sealed, and the groups that are absent in the fuses are reported absent (R3, R539). -/
def clearedPart (s u : State) : Prop :=
  u = { State.reset with
    pending := s.pending, free := s.free, out := u.out, raw := s.raw, hol := u.hol, sal := u.sal, pwr := u.pwr, regs := u.regs, ctrs := u.ctrs
    integ := { Integ.reset with corners := s.integ.corners, derateOld := s.integ.derateOld } }
  ∧ keptRegs s u ∧ u.flag PWR_STATE_HUB_RUN = false
  ∧ (∀ d, d < 4 → u.get (PWR_TCLK_CAP d) = s.get (PWR_TCLK_CAP d) ∧ u.get (PWR_TCLK_DERATE d) = s.get (PWR_TCLK_DERATE d))
  ∧ ∀ g, g < 64 → u.pairBit HOL_SEAL_GROUPS_LO_SEAL HOL_SEAL_GROUPS_HI_SEAL g = false ∧ (u.present g = true ↔ s.hol.absent.getLsbD g = false)

/-- The part is cleared, its rails are switched off from the last group enabled down to the first, and `MAIN` and `OFF_CAUSE` say so (R542). -/
def poweredDown (main cause : Nat) (s u : State) : Prop :=
  clearedPart s u ∧ u.get PWR_STATE_MAIN = main ∧ u.get PWR_STATE_OFF_CAUSE = cause ∧ u.pwr = { s.pwr with groups := 0 }
  ∧ u.out = (List.range s.pwr.groups).map (fun i => Out.rail (i + 1) false) ++ s.out

/-- A main power-up has begun with rail group 1 (R530). -/
def poweringUp (s u : State) : Prop :=
  clearedPart s u ∧ u.get PWR_STATE_MAIN = mainRamp ∧ u.get PWR_STATE_RESET_CAUSE = 0 ∧ u.pwr = { s.pwr with groups := 1 }
  ∧ u.out = .rail 1 true :: s.out ∧ u.hol = s.hol ∧ u.sal = s.sal

end Sys2Proof.Spec

/-- AO_POWER_UP and ALWAYS_ON_POWER_LOSS leave the state of reset but for fuses, keys, life cycle and retained records, and the
group-presence register reports the fuses of absent groups. HOLLOW_RESET_RELEASE starts the
warden with the card's configuration; with AUTO_ON, or at PWR_REQ from OFF or FAULT, a main power-up clears the part and enables rail
group 1; POWER_GOOD enables the next, and after group 5 sets MAIN to ON. POWER_GOOD_TIMEOUT in a ramp and PLL_LOCK_TIMEOUT before the hub runs power down to FAULT with
cause regulator and a PMBUS_FAULT record. HUB_RESET_RELEASE sets HUB_RUN, each die's STEP, and what the warden takes from configuration and fuses. RST_N and PART_RESET
with the rails on clear the part and keep the rails. OFF (cause request) powers down to OFF, SUPPLY_LOSS to FAULT, from ON or a ramp. In every other state
of the sequencer these commands leave the state as it is. No wipe is being logged (HOL lcLog empty). -/
def Obligations.PowerSequences : Prop :=
  (∀ (c : Instr) (s : State), c = .aoPowerUp ∨ c = .alwaysOnPowerLoss → completes c s (fun u =>
      u = { State.reset with pending := s.pending, free := s.free, out := s.out, hol := u.hol, regs := u.regs }
      ∧ sameRegs [0xE00010, 0x220, 0x110, 0x114] State.reset u ∧ (∀ g, g < 64 → (u.present g = true ↔ s.hol.absent.getLsbD g = false)) ∧ u.get HOL_LC_STATE = s.get HOL_LC_STATE ∧ u.get PLN_IMG_POLICY_KEY_EN = s.usableKeys
      ∧ u.hol = { HolRt.reset with kept := s.hol.kept, keys := s.hol.keys, enrolled := s.hol.enrolled, revoked := s.hol.revoked, devKey := s.hol.devKey, absent := s.hol.absent }))
  ∧ (∀ (c : CardConfig) (s : State),
      (s.hol.started = true → exec (.hollowResetRelease c) s = .next s)
      ∧ (s.hol.started = false → c.autoOn = false → completes (.hollowResetRelease c) s (fun u =>
          onlyRegs [0xF00010, 0xF00020, 0xF00024, 0x1100014] { s with hol := { s.hol with started := true, awake := true, card := c } } u
          ∧ u.get SAL_CFG_NODE = c.node.toNat ∧ u.flag SAL_CFG_EN = c.salEn ∧ u.flag SAL_CFG_BEACON_EN = c.beaconEn
          ∧ u.flag SAL_CFG_WARDEN_EPOCH = c.wardenEpoch ∧ u.get SAL_CFG_MGMT_NODE = c.mgmtNode.toNat ∧ u.flag PWR_CTRL_AUTO_ON = false
          ∧ ∀ i, i < 64 → u.pairBit SAL_CMD_NODES_LO_NODES SAL_CMD_NODES_HI_NODES i = c.cmdNodes.getLsbD i))
      ∧ (s.hol.started = false → c.autoOn = true → completes (.hollowResetRelease c) s (fun u =>
          u.get PWR_STATE_MAIN = mainRamp ∧ u.pwr.groups = 1 ∧ u.out.head? = some (.rail 1 true) ∧ u.hol.card = c ∧ u.tiles = [])))
  ∧ (∀ s : State, s.hol.lcLog = [] → let m := s.get PWR_STATE_MAIN
      let up := m = mainOn ∨ m = mainRamp
      (s.hol.started = true → m = mainOff ∨ m = mainFault → completes .pwrReq s (poweringUp s))
      ∧ (¬ (s.hol.started = true ∧ (m = mainOff ∨ m = mainFault)) → exec .pwrReq s = .next s)
      ∧ (m = mainRamp → s.pwr.groups < 5 → exec .powerGood s = .next
          { s with pwr := { s.pwr with groups := s.pwr.groups + 1 }, out := .rail (s.pwr.groups + 1) true :: s.out })
      ∧ (m = mainRamp → 5 ≤ s.pwr.groups → completes .powerGood s (fun u => onlyRegs [0x1100010] s u ∧ u.get PWR_STATE_MAIN = mainOn))
      ∧ (m ≠ mainRamp → exec .powerGood s = .next s ∧ exec .powerGoodTimeout s = .next s)
      ∧ (m = mainRamp → completes .powerGoodTimeout s (fun u => poweredDown mainFault 3 s u ∧ newest ⟨10, 0, 0, s.holTemp, 0, 0, 0⟩ u))
      ∧ (s.hubHeld = true → completes .pllLockTimeout s (fun u => poweredDown mainFault 3 s u ∧ newest ⟨10, 0, 0, s.holTemp, 0, 0, 0⟩ u))
      ∧ (s.hubHeld = false → exec .pllLockTimeout s = .next s ∧ exec .hubResetRelease s = .next s)
      ∧ (s.hubHeld = true → completes .hubResetRelease s (fun u =>
          u = { s with regs := u.regs, integ := u.integ, out := u.out, mem := { s.mem with repaired := ueRows s.hol.kept } } ∧ u.flag PWR_STATE_HUB_RUN = true
          ∧ (∀ d, d < 4 → u.get (PWR_TCLK_STEP d) = s.tclkTarget d ∧ u.get (PWR_TCLK_CAP d) = s.get (PWR_TCLK_CAP d))
          ∧ u.get TIM_PLL_REF_FREQ = s.hol.card.refFreq.toNat ∧ u.flag PCI_CPX_BOOT_SRC = s.hol.card.bootHost
          ∧ u.flag PWR_CTRL_AUTO_ON = s.hol.card.autoOn ∧ u.get PLN_IMG_POLICY_KEY_EN = s.usableKeys
          ∧ ∀ l, s.hol.kept = [l] → l.body.kind = 2 → let t := l.body.inst % 1024
              s.flag (TIL_REPAIR_MAP_VALID t 0) = false →
              u.get (TIL_REPAIR_MAP_ROW t 0) = l.body.w7 % 4096 ∧ u.flag (TIL_REPAIR_MAP_VALID t 0) = true))
      ∧ (∀ p ∈ [(Instr.rstN, 1), (.partReset, 2)],
          (m = mainOn → completes p.1 s (fun u => clearedPart s u ∧ u.get PWR_STATE_MAIN = mainOn ∧ u.get PWR_STATE_RESET_CAUSE = p.2
            ∧ u.pwr = s.pwr ∧ u.out = s.out ∧ u.hol = s.hol ∧ u.sal = s.sal))
          ∧ (m ≠ mainOn → exec p.1 s = .next s))
      ∧ (up → completes .powerOff s (fun u => poweredDown mainOff 1 s u ∧ u.hol = s.hol ∧ u.sal = s.sal)
          ∧ completes .supplyLoss s (fun u => poweredDown mainFault 4 s u ∧ u.hol = s.hol ∧ u.sal = s.sal))
      ∧ (¬ up → exec .powerOff s = .next s ∧ exec .supplyLoss s = .next s))

namespace Sys2Proof.Spec

/-- What the change of a clock from `old` to `new` MHz adds to what leaves the part, newest first: the voltage falls after the clock and rises
before it (R535). -/
def clockOuts (die old new mv : Nat) : List Out :=
  if new = old then [] else if new < old then [.supply die mv, .clock die new] else [.clock die new, .supply die mv]

end Sys2Proof.Spec

/-- CAP_WRITE stores CAP, and PEND says whether STEP differs from the target min(7, CAP + DERATE). TCLK_STEP_CHANGE of a die with no group in the active
cyclic bank takes the target: STEP, PEND 0, STEP_DONE, and DERATE falls by the cancelled deratings; at the target nothing changes; with such a group it waits while a
group is lent, returning or runs within 100 µs. CCLK_STEP_WRITE takes the step, 6 and 7 as 5. Downwards a clock switches before its supply falls, upwards after it rises. DOM_SWITCH_WRITE takes each bit, but a quad or Dravsel port with a
port enabled stays on and notes LOCK_WR; a quad switched off loses its registers. GROUP_POWER_OFF switches an unused idle group off after
TG_OFF_US. PLL_LOSS of HCLK, BCLK or CCLK is a part reset with cause PLL; of a TCLK it counts DET_140 and makes the steps of the die's
groups suspect; of the PCIe PLL the link goes down. Before the hub runs it has no effect. IEEE_1149_1_INSTRUCTION is in the TAP once VIO is
on, and captures the IDCODE 0x1884_094F, the bypass bit, or the boundary cells. -/
def Obligations.ClocksAndDomains : Prop :=
  (∀ (d : Fin 4) (v : Word) (s : State), completes (.capWrite d v) s (fun u =>
      onlyRegs [(PWR_TCLK_CAP d).key, 0x1100004] s u ∧ u.get (PWR_TCLK_CAP d) = v.toNat % 8 ∧ u.get (PWR_TCLK_STEP d) = s.get (PWR_TCLK_STEP d)
      ∧ u.get (PWR_TCLK_DERATE d) = s.get (PWR_TCLK_DERATE d) ∧ (u.flag (PWR_TCLK_PEND d) = true ↔ u.get (PWR_TCLK_STEP d) ≠ u.tclkTarget d)))
  ∧ (∀ (d : Fin 4) (s : State),
      (s.dieNamed d = false → s.get (PWR_TCLK_STEP d) ≠ s.tclkTarget d → completes (.tclkStepChange d) s (fun u =>
        u = { s with regs := u.regs, integ := u.integ, out := u.out } ∧ u.get (PWR_TCLK_STEP d) = s.tclkTarget d ∧ u.flag (PWR_TCLK_PEND d) = false
        ∧ u.out = clockOuts d (tclkMHz (s.get (PWR_TCLK_STEP d))) (tclkMHz (s.tclkTarget d)) (vpdMV (s.tclkTarget d)) ++ s.out
        ∧ u.flag PWR_EVENT_STEP_DONE = true ∧ u.tclkTarget d = s.tclkTarget d
        ∧ u.get (PWR_TCLK_DERATE d) = s.get (PWR_TCLK_DERATE d) - mapGet (fun _ => 0) s.integ.derateOld d
        ∧ ∀ e, e < 4 → e ≠ d.val → u.get (PWR_TCLK_STEP e) = s.get (PWR_TCLK_STEP e)))
      ∧ (s.dieNamed d = false → s.get (PWR_TCLK_STEP d) = s.tclkTarget d → exec (.tclkStepChange d) s = .next s)
      ∧ (s.dieNamed d = true → s.stepWaits d = true → exec (.tclkStepChange d) s = .next s)
      ∧ (s.dieNamed d = true → s.stepWaits d = false → let k := s.floorStep (s.tclkTarget d)
          s.get (PWR_TCLK_STEP d) ≠ k → completes (.tclkStepChange d) s (fun u => u.get (PWR_TCLK_STEP d) = k
            ∧ (0 < k → s.get DSP_CYC_GUARD_FLOOR_MHZ ≤ tclkMHz k) ∧ k ≤ s.tclkTarget d)))
  ∧ (∀ (v : Word) (s : State), let k := min 5 (v.toNat % 8)
      completes (.cclkStepWrite v) s (fun u => u = { s with regs := u.regs, out := u.out } ∧ sameRegs [0x1100020, 0x1100018, 0x1100004] s u
        ∧ u.out = clockOuts 4 (cclkMHz (s.get PWR_CPX_CUR)) (cclkMHz k) (vcpxMV k) ++ s.out
        ∧ u.get PWR_CPX_STEP = k ∧ u.get PWR_CPX_CUR = k ∧ u.flag PWR_CPX_PEND = false ∧ u.flag PWR_EVENT_STEP_DONE = true))
  ∧ (∀ (v : Word) (s : State),
      completes (.domSwitchWrite true v) s (fun u => onlyRegs [0x1100044, 0x1100004] s u
        ∧ ∀ p, p < 12 → let was := s.get PWR_DOM_DRP_ON / 2 ^ p % 2
            let kept := was = 1 ∧ v.getLsbD p = false ∧ s.flag (DRV_PORT_CTRL_EN p) = true
            (u.get PWR_DOM_DRP_ON / 2 ^ p % 2 = 1 ↔ v.getLsbD p = true ∨ kept) ∧ (kept → u.flag (fLockWr 0x1100004) = true))
      ∧ completes (.domSwitchWrite false v) s (fun u => u = { s with regs := u.regs, ctrs := u.ctrs, eth := u.eth }
        ∧ ∀ q, q < 8 → let was := s.get PWR_DOM_ETQ_ON / 2 ^ q % 2
            let kept := was = 1 ∧ v.getLsbD q = false ∧ ∃ j, j < 4 ∧ s.flag (ETH_PORT_CTRL_EN (4 * q + j)) = true
            (u.get PWR_DOM_ETQ_ON / 2 ^ q % 2 = 1 ↔ v.getLsbD q = true ∨ kept) ∧ (kept → u.flag (fLockWr 0x1100004) = true)
            ∧ ∀ k, 0x801000 + 1024 * q ≤ k → k < 0x801000 + 1024 * (q + 1) →
                (was = 1 → v.getLsbD q = false → ¬ kept → u.reg k = resetOf k) ∧ (was = 0 ∨ v.getLsbD q = true ∨ kept → u.reg k = s.reg k)))
  ∧ (∀ (g : Fin 64) (s : State),
      let long := s.get (DSP_GRP_STATE_STATE g) = grpIdle ∧ (s.group g).idleAt + s.get PWR_TG_CFG_TG_OFF_US * 0x3E800000000 ≤ s.raw
      let unused := s.placedOn g = false ∧ mapGet (fun _ => none) s.integ.holds g = none ∧ (∀ r ∈ s.integ.replays, r.target ≠ g.val)
        ∧ s.beforeRun g 40000 = true
      (long ∧ unused → completes (.groupPowerOff g) s (fun u => u.groupOn g = false ∧ (∀ h, h < 64 → h ≠ g.val → u.groupOn h = s.groupOn h)
        ∧ ∀ t, t ∉ groupTiles g → u.tile t = s.tile t))
      ∧ (¬ (long ∧ unused) → exec (.groupPowerOff g) s = .next s))
  ∧ (∀ s : State,
      (∀ p, s.flag PWR_STATE_HUB_RUN = false → exec (.pllLoss p) s = .next s)
      ∧ (∀ p, p = .hclk ∨ p = .bclk ∨ p = .cclk → s.flag PWR_STATE_HUB_RUN = true → s.get PWR_STATE_MAIN = mainOn → completes (.pllLoss p) s (fun u =>
          u.flag PWR_STATE_HUB_RUN = false ∧ u.get PWR_STATE_MAIN = mainOn ∧ u.get PWR_STATE_RESET_CAUSE = 3 ∧ u.tiles = [] ∧ u.slices = [] ∧ u.clusters = []))
      ∧ (s.flag PWR_STATE_HUB_RUN = true →
          completes (.pllLoss .pcie) s (fun u => u.flag fLinkUp = false ∧ u.flag PWR_EVENT_PLL_LOSS = true)
          ∧ ∀ d : Fin 4, completes (.pllLoss (.tclk d)) s (fun u => u.flag PWR_EVENT_PLL_LOSS = true
              ∧ u.ctr (INT_DET_CNT 140) = (s.count (INT_DET_CNT 140) 1).ctr (INT_DET_CNT 140)
              ∧ ∀ g, 16 * d.val ≤ g → g < 16 * d.val + 16 →
                  (s.get (DSP_GRP_STATE_STATE g) = 4 ∨ (s.group g).stage ≠ none → (u.group g).det = true)
                  ∧ (s.get (DSP_GRP_STATE_STATE g) ≠ 4 → (s.group g).stage = none → (s.group g).replay = false → s.get (DSP_GRP_STATE_SLICE g) ≠ 0 →
                      ∀ lg, s.lgroupOn (s.get (DSP_GRP_STATE_SLICE g)) g = some lg →
                        ∀ r ∈ (u.slice (s.get (DSP_GRP_STATE_SLICE g))).steps, r.num = (s.group g).step → lg ∈ r.suspect))))
  ∧ ∀ (i : TapInstr) (s : State),
      (s.pwr.groups = 0 → exec (.ieee11491Instruction i) s = .next s)
      ∧ (0 < s.pwr.groups → completes (.ieee11491Instruction i) s (fun u => ∃ d,
          u = { s with pwr := { s.pwr with tap := i }, free := u.free, out := .scan i d :: s.out }
          ∧ (i = .idcode → d = .idcode 0x1884094F) ∧ (i = .bypass ∨ i = .clamp ∨ i = .highz → d = .bypass false)
          ∧ (i = .sample ∨ i = .extest → ∃ v, d = .boundary v)))

namespace Sys2Proof.Spec

/-- The counter at `k` has advanced by one. -/
def counted (k : Nat) (s u : State) : Prop := u.ctr k = (s.count k 1).ctr k

/-- Only registers, counters, what signals, the modem, the hollow and the free-value counter changed. -/
def modemOnly (s u : State) : Prop :=
  u = { s with regs := u.regs, ctrs := u.ctrs, free := u.free, out := u.out, pcie := u.pcie, hol := u.hol, sal := u.sal }

/-- An energy `e` is at least `db` dB above `noise`: (e / noise)^10 reaches 10^db. -/
def reaches (db e noise : Nat) : Prop := 0 < e ∧ 10 ^ db * noise ^ 10 ≤ e ^ 10

/-- `b` is the loading of a subcarrier by R492: the largest from 1 to 8 and to MAXB whose limit the ratio of probe energy to error energy
reaches, or 0. -/
def loaded (maxb margin : Nat) (e : Nat × Nat) (b : Nat) : Prop :=
  let meets (k : Nat) : Prop := reaches (11 + 3 * (k - 1) + margin) e.1 e.2
  b ≤ 8 ∧ b ≤ maxb ∧ (0 < b → meets b) ∧ ∀ k, 0 < k → k ≤ 8 → k ≤ maxb → meets k → k ≤ b

/-- Subcarrier `k` of a heartbeat symbol is ON (R487): 12 dB above the mean energy of subcarriers 212 to 235. -/
def beats (es : List Nat) (k : Nat) : Prop := reaches 12 (24 * nth 0 es (k - 20)) (es.drop 192).sum

/-- A DATA frame is delivered: the modem is enabled, the frame is for this node or for all, its table is held, its FCS is correct (R482, R493). -/
def salTakes (f : SalFrame) (s : State) : Prop :=
  s.flag SAL_CFG_EN = true ∧ (f.bcast = true ∨ f.dst.toNat = s.salNode)
  ∧ (f.lver = 0 ∨ ∃ t ∈ (s.salPeer f.busB f.src.toNat).rx, t.ver = f.lver.toNat) ∧ f.fcsOk = true

/-- A message queued by this part. -/
def plainTx (dst mtype mseq aseq : Nat) (body : List Byte) (bus : Option Bool) : SalTx := ⟨dst, false, mtype, mseq, aseq, body, 0, false, bus, [], false⟩

/-- The send queue has grown by the acknowledgement of `f`, if it is unicast, and by `more` (R494). -/
def acked (f : SalFrame) (more : List SalTx) (s u : State) : Prop :=
  ∃ x, u.sal.txq = s.sal.txq ++ (if f.bcast then more else plainTx f.src.toNat 6 x f.mseq.toNat [] (some f.busB) :: more)

/-- The device state that two views give (R488). -/
def stateOfViews (a b : Nat) (seen : Bool) : Nat :=
  if a = 2 ∨ b = 2 then 2 else if a = 1 ∨ b = 1 then 1 else if (a = 3 ∨ b = 3) ∧ seen = true then 3 else 0

end Sys2Proof.Spec

/-- An axis level of R480 is that of the index whose Gray code is the axis's bits, the first the most significant; a symbol has one
carrier for each subcarrier of its loading. With the modem disabled none of these events has an effect. SALET_PREAMBLE starts a reception, or captures one that is 6 dB weaker; FALSE_RECEPTION ends it and
counts. BEACON makes the sender the beacon node, ends this node's beaconing and starts the cycle, unless this node beacons with a lower
number. BEACON_TIMEOUT starts beaconing from the number that follows the last one heard plus the cycles elapsed; BEACON_SEND sends the next number; an armed
injection spoils its check once. HEARTBEAT after a beacon sends ALIVE, RUNNING and ATTN and reads each peer's: RUNNING or RESET when ALIVE, MISSING at
the third cycle without, as before otherwise; the device state follows from both views. BEACON_LOST sets every view of the bus to NONE. PROBE_SEND
sends a due probe. PROBE for this node measures the loading of R492, keeps two tables, and queues a LOAD of the next version. LINE_TEST in the
node's test cycle classes the reading and turns the transmitter off from class 4. POLARITY_READING twice of one sign sets INVERT. -/
def Obligations.SaletBus : Prop :=
  (∀ bits : List Bool, let m := bits.length
    let j := grayIndex bits
    j < 2 ^ m ∧ axisLevel bits = 2 * (j : Int) - (2 ^ m - 1) ∧ ∀ k, k < m → (Nat.xor j (j / 2)).testBit (m - 1 - k) = nth false bits k)
  ∧ (∀ (l : List Nat) (bits : List Bool), (symbolOf l bits).length = l.length)
  ∧ (∀ (b : Bool) (s : State), s.flag SAL_CFG_EN = false →
    (∀ l a c, exec (.saletPreamble b l a c) s = .next s) ∧ (∀ n c, exec (.beacon b n c) s = .next s) ∧ (∀ xs, exec (.heartbeat b xs) s = .next s)
    ∧ (∀ n d x, exec (.probe b n d x) s = .next s) ∧ (∀ n, exec (.probeSend b n) s = .next s) ∧ (∀ r p n, exec (.lineTest b r p n) s = .next s)
    ∧ (∀ v, exec (.polarityReading b v) s = .next s) ∧ (∀ k, exec (.saletFrameSend b k) s = .next s)
    ∧ exec (.falseReception b) s = .next s ∧ exec (.beaconTimeout b) s = .next s ∧ exec (.beaconSend b) s = .next s ∧ exec (.beaconLost b) s = .next s)
  ∧ (∀ (b : Bool) (s : State), s.flag SAL_CFG_EN = true →
    let i := busNo b
    let x := s.salBus b
    let own := s.flag (SAL_BUS_STATUS_BEACONING i)
    let onBus (y : SalBus) (u : State) : Prop := u.salBus b = y ∧ u.salBus (!b) = s.salBus (!b)
    let sent (hdr : List Byte) (symbols : List (List Carrier)) : Out := .salet b hdr (salWave (s.flag (SAL_BUS_STATUS_INVERT i)) hdr symbols)
    (∀ (l : BitVec 8) (a : BitVec 16),
      (x.rx = none → completes (.saletPreamble b l a false) s (fun u => u = { s with sal := u.sal } ∧ onBus { x with rx := some (l.toNat, a.toNat) } u))
      ∧ ∀ p, x.rx = some p →
          (l.toNat + 12 ≤ p.1 → completes (.saletPreamble b l a false) s (fun u => modemOnly s u
            ∧ onBus { x with rx := some (l.toNat, a.toNat) } u ∧ counted (SAL_RX_CAPTURE i) s u))
          ∧ (p.1 < l.toNat + 12 → exec (.saletPreamble b l a false) s = .next s ∧
              completes (.saletPreamble b l a true) s (fun u => onlyRegs [(SAL_BUS_STATUS_CLIP i).key] s u ∧ u.flag (SAL_BUS_STATUS_CLIP i) = true)))
    ∧ completes (.falseReception b) s (fun u => modemOnly s u ∧ onBus { x with rx := none } u ∧ counted (SAL_RX_FALSE i) s u)
    ∧ (∀ (n : BitVec 6) (c : BitVec 16), completes (.beacon b n c) s (fun u => modemOnly s u ∧ u.get (SAL_BUS_STATUS_BEACON_NODE i) = n.toNat
        ∧ counted (SAL_RX_OK i) s u
        ∧ (own = true → s.salNode < n.toNat → u.flag (SAL_BUS_STATUS_BEACONING i) = true ∧ (u.salBus b).cycle = x.cycle)
        ∧ (own = false ∨ n.toNat ≤ s.salNode → u.flag (SAL_BUS_STATUS_BEACONING i) = false ∧ u.flag (SAL_BUS_STATUS_BEACON_OK i) = true
            ∧ (u.salBus b).cycle = c.toNat ∧ (u.salBus b).heard = some s.raw ∧ (u.salBus b).fresh = true)))
    ∧ (s.flag SAL_CFG_BEACON_EN = true → own = false → completes (.beaconTimeout b) s (fun u => modemOnly s u
        ∧ u.flag (SAL_BUS_STATUS_BEACONING i) = true ∧ u.flag (SAL_BUS_STATUS_BEACON_OK i) = true
        ∧ (x.heard = none → (u.salBus b).cycle = 65535)
        ∧ ∀ t, x.heard = some t → ((u.salBus b).cycle + 1) % 65536 = (x.cycle + (s.raw - t) / 0xF424000000000) % 65536))
    ∧ (own = true → s.busUsable b = true → let c := (x.cycle + 1) % 65536
        let h := salHeader 1 0 true s.salNode 0 0 0 c
        (s.flag SAL_INJECT_ARM = false → completes (.beaconSend b) s (fun u => modemOnly s u ∧ u.out = sent (h ++ natToBytes 4 (crc32c h)) [] :: s.out
          ∧ onBus { x with cycle := c, heard := some s.raw, fresh := true, shift := 0 } u ∧ counted (SAL_TX_FRAMES i) s u))
        ∧ (s.flag SAL_INJECT_ARM = true → s.get SAL_INJECT_POINT = 1 → s.get SAL_INJECT_BUS = i → completes (.beaconSend b) s (fun u =>
            u.flag SAL_INJECT_ARM = false ∧ ∃ w, w ≠ crc32c h ∧ w < 2 ^ 32 ∧ u.out = sent (h ++ natToBytes 4 w) [] :: s.out)))
    ∧ (∀ (es : List Nat), es.length = 216 → let alive (n : Nat) : Prop := beats es (20 + 3 * n)
        (x.fresh = false → exec (.heartbeat b es) s = .next s)
        ∧ (x.fresh = true → completes (.heartbeat b es) s (fun u => modemOnly s u ∧ (u.salBus b).fresh = false
          ∧ (s.flag SAL_INJECT_ARM = false → s.flag (SAL_BUS_CTRL_TX_EN i) = true → s.flag (SAL_BUS_STATUS_TX_OFF i) = false →
              .heartbeat b (beatCarriers s.salNode (s.flag PWR_STATE_HUB_RUN) (s.flag SAL_HB_CTRL_ATTN)) (-(BitVec.ofNat 16 x.shift).toInt)
                (s.flag (SAL_BUS_STATUS_INVERT i)) ∈ u.out)
          ∧ ((∃ n, n < 64 ∧ n ≠ s.salNode ∧ (s.salPeer b n).seen = true ∧ ¬ alive n) → counted (SAL_HB_MISS i) s u)
          ∧ ∀ n, n < 64 → n ≠ s.salNode → let p := s.salPeer b n
              (alive n → (beats es (21 + 3 * n) → u.get (fView b n) = 2) ∧ (¬ beats es (21 + 3 * n) → u.get (fView b n) = 1)
                ∧ (u.flag (fAttn b n) = true ↔ beats es (22 + 3 * n)) ∧ (u.salPeer b n).seen = true ∧ (u.salPeer b n).miss = 0)
              ∧ (¬ alive n → p.seen = true → (u.salPeer b n).miss = p.miss + 1
                ∧ u.get (fView b n) = (if 3 ≤ p.miss + 1 then 3 else s.get (fView b n)))
              ∧ (¬ alive n → p.seen = false → u.get (fView b n) = s.get (fView b n))
              ∧ u.get (fView (!b) n) = s.get (fView (!b) n)
              ∧ (s.flag (SAL_BUS_STATUS_BEACON_OK 0) = true ∨ s.flag (SAL_BUS_STATUS_BEACON_OK 1) = true →
                  u.get (SAL_PEER_STATE n) = stateOfViews (u.get (SAL_PEER_VIEW_A n)) (u.get (SAL_PEER_VIEW_B n))
                    ((u.salPeer false n).seen || (u.salPeer true n).seen)))))
    ∧ (own = false → s.flag (SAL_BUS_STATUS_BEACON_OK i) = true → completes (.beaconLost b) s (fun u => modemOnly s u
        ∧ u.flag (SAL_BUS_STATUS_BEACON_OK i) = false ∧ u.flag SAL_EVENT_BEACON_LOST = true
        ∧ ∀ n, n < 64 → u.get (fView b n) = 0 ∧ u.get (fView (!b) n) = s.get (fView (!b) n)))
    ∧ (∀ n : BitVec 6, s.busUsable b = true → x.rx = none → n.toNat ≠ s.salNode → s.probeDue b n.toNat = true → s.flag SAL_INJECT_ARM = false →
        let h := salHeader 2 n.toNat false s.salNode 0 0 8 0
        completes (.probeSend b n) s (fun u => modemOnly s u ∧ u.out = sent (h ++ natToBytes 4 (crc32c h)) probeSymbols :: s.out
          ∧ u.sal.probes = s.sal.probes.filter (fun p => decide (p ≠ (n.toNat, b)))))
    ∧ (∀ (n d : BitVec 6) (es : List (Nat × Nat)), d.toNat = s.salNode → n.toNat ≠ s.salNode → let p := s.salPeer b n.toNat
        completes (.probe b n d es) s (fun u => modemOnly s u ∧ counted (SAL_RX_OK i) s u ∧ ∃ t raw, (u.salPeer b n.toNat).rx = (t :: p.rx).take 2
          ∧ t.ver = ((p.rx.head?.map (fun y => y.ver)).getD 0) % 255 + 1 ∧ t.bits.length = 216 ∧ raw.length = 216
          ∧ (∀ k, k < 216 → loaded (s.get SAL_LOADING_MAXB) (s.get SAL_LOADING_MARGIN_DB) (nth (0, 0) es k) (nth 0 raw k))
          ∧ t.bits = (if raw.foldl (· + ·) 0 < 432 then List.replicate 216 2 else raw)
          ∧ ∃ m body, u.sal.txq = s.sal.txq ++ [plainTx n.toNat 8 m 0 (BitVec.ofNat 8 t.ver :: body) (some b)] ∧ body.length = 108
            ∧ ∀ k, k < 108 → nth 0 body k = BitVec.ofNat 8 (nth 0 t.bits (2 * k) + 16 * nth 0 t.bits (2 * k + 1))))
    ∧ (∀ (r vp vn : BitVec 20), x.cycle % 64 = s.salNode → let c := lineClass r.toNat vp.toNat vn.toNat
        completes (.lineTest b r vp vn) s (fun u => modemOnly s u ∧ u.get (SAL_BUS_STATUS_LINE i) = c ∧ u.flag (SAL_BUS_STATUS_TX_OFF i) = decide (4 ≤ c)
          ∧ u.get (SAL_BUS_LINE_RES i) = min (r.toNat / 10) 65535 ∧ u.get (SAL_BUS_LINE_VP i) = min (vp.toNat / 10) 255
          ∧ (c ≠ s.get (SAL_BUS_STATUS_LINE i) → s.get (SAL_BUS_STATUS_LINE i) ≠ 7 → u.flag SAL_EVENT_LINE_FAULT = true)))
    ∧ ∀ mv : Int, own = false → x.cycle % 64 = s.get (SAL_BUS_STATUS_BEACON_NODE i) →
        let sign : Option Bool := if 20 ≤ mv then some false else if mv ≤ -20 then some true else none
        completes (.polarityReading b mv) s (fun u => u = { s with regs := u.regs, sal := u.sal } ∧ onBus { x with pol := sign } u
          ∧ u.flag (SAL_BUS_STATUS_INVERT i) = (match sign with
              | some v => if x.pol = some v then v else s.flag (SAL_BUS_STATUS_INVERT i)
              | none => s.flag (SAL_BUS_STATUS_INVERT i))))

/-- With the modem enabled every event of the bus completes: a preamble leaves a reception under way, a false reception none; a beacon
names its node, its timeout starts beaconing, the next beacon counts the cycle on, the heartbeat after it is taken once, a lost beacon
clears BEACON_OK; a due probe is sent and counted, a probe for this node gives it a table; a line test in the node's test cycle stores its class, a polarity reading
its sign. SALET_FRAME_SEND of a message on the bus of its attempt sends header, message header and body, on the symbols of its loading, and waits for the ACK; an ACK is sent once, and an armed injection
4 drops it. SALET_RETRY_TIMEOUT makes the next attempt, or after the last ends the message as failed. A new message that is delivered is acknowledged: RSP,
RECORD, EPOCH_ACK, USER (and EPOCH while WARDEN_EPOCH is 0) enter the receive queue; a full one sets OVF and nothing is acknowledged; a duplicate is only
acknowledged, and a finished command answered, again. CMD of a permitted node joins the warden's queue; another is refused by RSP. EPOCH with WARDEN_EPOCH is applied,
or its refusal logged. LOAD installs a table, version 0 drops it. SALET_ACK ends the message it names. An unknown table is answered by LOAD of version 0,
a wrong FCS counted. SALET_TX_GO queues the buffer, notes a bad length or address, or LOCK_WR while BUSY. RX_POP takes the oldest
message away. SAL_INJECT_ARM arms. -/
def Obligations.SaletMessages : Prop :=
  (∀ (b : Bool) (s : State), s.flag SAL_CFG_EN = true →
    (∀ (l : BitVec 8) (a : BitVec 16) (c : Bool), ∃ t, exec (.saletPreamble b l a c) s = .next t ∧ (t.salBus b).rx.isSome = true)
    ∧ (∃ t, exec (.falseReception b) s = .next t ∧ (t.salBus b).rx = none)
    ∧ (∀ (n : BitVec 6) (c : BitVec 16), ∃ t, exec (.beacon b n c) s = .next t ∧ t.get (SAL_BUS_STATUS_BEACON_NODE (busNo b)) = n.toNat)
    ∧ (s.flag SAL_CFG_BEACON_EN = true → s.flag (SAL_BUS_STATUS_BEACONING (busNo b)) = false →
        ∃ t, exec (.beaconTimeout b) s = .next t ∧ t.flag (SAL_BUS_STATUS_BEACONING (busNo b)) = true)
    ∧ (s.flag (SAL_BUS_STATUS_BEACONING (busNo b)) = true → s.busUsable b = true →
        ∃ t, exec (.beaconSend b) s = .next t ∧ (t.salBus b).cycle = ((s.salBus b).cycle + 1) % 65536 ∧ counted (SAL_TX_FRAMES (busNo b)) s t)
    ∧ (∀ es : List Nat, (s.salBus b).fresh = true → ∃ t, exec (.heartbeat b es) s = .next t ∧ (t.salBus b).fresh = false)
    ∧ (s.flag (SAL_BUS_STATUS_BEACONING (busNo b)) = false → s.flag (SAL_BUS_STATUS_BEACON_OK (busNo b)) = true →
        ∃ t, exec (.beaconLost b) s = .next t ∧ t.flag (SAL_BUS_STATUS_BEACON_OK (busNo b)) = false)
    ∧ (∀ n : BitVec 6, s.busUsable b = true → (s.salBus b).rx = none → n.toNat ≠ s.salNode → s.probeDue b n.toNat = true →
        ∃ t, exec (.probeSend b n) s = .next t ∧ counted (SAL_TX_FRAMES (busNo b)) s t ∧ (n.toNat, b) ∉ t.sal.probes)
    ∧ (∀ (n d : BitVec 6) (es : List (Nat × Nat)), d.toNat = s.salNode →
        ∃ t, exec (.probe b n d es) s = .next t ∧ counted (SAL_RX_OK (busNo b)) s t ∧ (t.salPeer b n.toNat).rx ≠ [])
    ∧ (∀ r vp vn : BitVec 20, (s.salBus b).cycle % 64 = s.salNode →
        ∃ t, exec (.lineTest b r vp vn) s = .next t ∧ t.get (SAL_BUS_STATUS_LINE (busNo b)) = lineClass r.toNat vp.toNat vn.toNat)
    ∧ ∀ mv : Int, s.flag (SAL_BUS_STATUS_BEACONING (busNo b)) = false → (s.salBus b).cycle % 64 = s.get (SAL_BUS_STATUS_BEACON_NODE (busNo b)) →
        ∃ t, exec (.polarityReading b mv) s = .next t
          ∧ (t.salBus b).pol = (if 20 ≤ mv then some false else if mv ≤ -20 then some true else none))
  ∧ (∀ (b : Bool) (k : BitVec 16) (s : State) (m : SalTx), s.sal.txq[k.toNat]? = some m → s.salMayGo m b = true →
      let t := s.txTable m b
      let pay := [BitVec.ofNat 8 m.mtype, (0 : Byte)] ++ natToBytes 2 m.mseq ++ natToBytes 2 m.aseq ++ natToBytes 2 0 ++ m.body
      let h := salHeader 0 m.dst m.bcast s.salNode ((t.map (fun x => x.ver)).getD 0) pay.length (symbolsFor pay.length t) 0
      let head := h ++ natToBytes 4 (crc32c h)
      let tail := pay ++ natToBytes 4 (crc32c pay)
      let frame : Out := .salet b (head ++ tail)
        (salWave (s.flag (SAL_BUS_STATUS_INVERT (busNo b))) head (dataSymbols (tableLoading t) tail))
      (m.mtype ≠ 6 → m.bcast = false → s.flag SAL_INJECT_ARM = false → completes (.saletFrameSend b k) s (fun u => modemOnly s u
        ∧ u.out = frame :: s.out
        ∧ u.sal.txq[k.toNat]? = some { m with sent := true, left := [b] } ∧ u.sal.txq.length = s.sal.txq.length
        ∧ counted (SAL_TX_FRAMES (busNo b)) s u ∧ (m.att ≠ 0 → counted (SAL_TX_RETRY (busNo b)) s u)))
      ∧ (m.mtype ≠ 6 → m.bcast = true → (∃ x ∈ m.left, x ≠ b ∧ s.busUsable x = true) → completes (.saletFrameSend b k) s (fun u => modemOnly s u
        ∧ u.sal.txq[k.toNat]? = some { m with left := m.left.filter (fun x => decide (x ≠ b)) }))
      ∧ (m.mtype ≠ 6 → m.bcast = true → (∀ x ∈ m.left, x ≠ b → s.busUsable x = false) → completes (.saletFrameSend b k) s (fun u => modemOnly s u
        ∧ u.sal.txq = s.sal.txq.take k.toNat ++ s.sal.txq.drop (k.toNat + 1)
        ∧ (m.user = true → u.get SAL_TX_CTRL_RESULT = 1 ∧ u.flag SAL_TX_CTRL_BUSY = false ∧ u.flag SAL_EVENT_TX_DONE = true)))
      ∧ (m.mtype = 6 → m.bcast = false → completes (.saletFrameSend b k) s (fun u => modemOnly s u
        ∧ u.sal.txq = s.sal.txq.take k.toNat ++ s.sal.txq.drop (k.toNat + 1)
        ∧ (s.flag SAL_INJECT_ARM = true → s.get SAL_INJECT_POINT = 4 → s.get SAL_INJECT_BUS = busNo b → u.out = s.out ∧ u.flag SAL_INJECT_ARM = false)
        ∧ (s.flag SAL_INJECT_ARM = false → u.out = frame :: s.out))))
  ∧ (∀ (k : BitVec 16) (s : State) (m : SalTx), s.sal.txq[k.toNat]? = some m →
      (m.sent = false → exec (.saletRetryTimeout k) s = .next s)
      ∧ (m.sent = true → m.att + 1 < s.get SAL_TIMING_RETRIES → completes (.saletRetryTimeout k) s (fun u => u = { s with sal := u.sal }
          ∧ u.sal.txq[k.toNat]? = some { m with att := m.att + 1, sent := false } ∧ ∀ b ∈ m.left, (m.dst, b) ∈ u.sal.probes))
      ∧ (m.sent = true → s.get SAL_TIMING_RETRIES ≤ m.att + 1 → completes (.saletRetryTimeout k) s (fun u => modemOnly s u
          ∧ u.sal.txq = s.sal.txq.take k.toNat ++ s.sal.txq.drop (k.toNat + 1)
          ∧ (m.user = true → u.get SAL_TX_CTRL_RESULT = 2 ∧ u.flag SAL_TX_CTRL_BUSY = false ∧ u.flag SAL_EVENT_TX_DONE = true))))
  ∧ (∀ (f : SalFrame) (s : State), let n := f.src.toNat
      let b := f.busB
      let addressed := f.bcast = true ∨ f.dst.toNat = s.salNode
      (∀ c, c = Instr.cmd f ∨ c = .rsp f ∨ c = .record f ∨ c = .epoch f ∨ c = .epochAck f ∨ c = .user f ∨ c = .load f ∨ c = .saletAck f →
        (s.flag SAL_CFG_EN = false → exec c s = .next s)
        ∧ (s.flag SAL_CFG_EN = true → ¬ addressed → completes c s (fun u => u = { s with regs := u.regs, sal := u.sal } ∧ u.sal.txq = s.sal.txq ∧ u.sal.rxq = s.sal.rxq))
        ∧ (s.flag SAL_CFG_EN = true → addressed →
          (f.lver ≠ 0 → (∀ t ∈ (s.salPeer b n).rx, t.ver ≠ f.lver.toNat) → n ≠ s.salNode → completes c s (fun u => counted (SAL_RX_BADLVER (busNo b)) s u
            ∧ u.sal.rxq = s.sal.rxq ∧ ∃ x, u.sal.txq = s.sal.txq ++ [plainTx n 8 x 0 (List.replicate 109 0) (some b)]))
          ∧ (f.lver = 0 → f.fcsOk = false → completes c s (fun u => counted (SAL_RX_CRC (busNo b)) s u ∧ u.sal.rxq = s.sal.rxq ∧ u.sal.txq = s.sal.txq))))
      ∧ (salTakes f s → (∀ x ∈ s.salHist n, x.mseq ≠ f.mseq.toNat) →
        let kept (u : State) : Prop := modemOnly s u ∧ counted (SAL_RX_OK (busNo b)) s u
        (∀ p ∈ [(Instr.rsp f, 2), (.record f, 3), (.epochAck f, 5), (.user f, 7), (.epoch f, 4)], (p.2 = 4 → s.flag SAL_CFG_WARDEN_EPOCH = false) →
          (s.sal.rxq.length < 8 → completes p.1 s (fun u => kept u ∧ acked f [] s u ∧ u.sal.rxq = s.sal.rxq ++ [⟨n, b, p.2, f.body⟩]
            ∧ u.flag SAL_RX_STATUS_VALID = true ∧ u.flag SAL_EVENT_RX_MSG = true ∧ u.salHist n = (⟨f.mseq.toNat, none⟩ :: s.salHist n).take 32))
          ∧ (8 ≤ s.sal.rxq.length → completes p.1 s (fun u => kept u ∧ u.flag SAL_RX_STATUS_OVF = true ∧ u.sal.rxq = s.sal.rxq ∧ u.sal.txq = s.sal.txq
            ∧ u.salHist n = s.salHist n)))
        ∧ (let ok := s.pairBit SAL_CMD_NODES_LO_NODES SAL_CMD_NODES_HI_NODES n
          let ws := (List.range 16).map (fun i => BitVec.ofNat 32 (bytesToNat ((f.body.drop (4 * i)).take 4)))
          let c : HolCmd := ⟨some (n, f.mseq.toNat), ws⟩
          (ok = true → s.hol.queue = [] → 1 ≤ holOpc c → holOpc c ≤ 10 → completes (.cmd f) s (fun u => kept u ∧ acked f [] s u
            ∧ u.hol = { s.hol with queue := [c], wake := true }))
          ∧ (ok = false → n ≠ s.salNode → completes (.cmd f) s (fun u => kept u ∧ u.flag SAL_EVENT_CMD_REFUSED = true ∧ u.hol.queue = s.hol.queue
            ∧ ∃ x, acked f [plainTx n 2 x 0 ((rspWords (nth 0 ws 1) 1 []).flatMap (fun w => natToBytes 4 w.toNat)) none] s u)))
        ∧ (let e := leAt f.body 0 2
          s.flag SAL_CFG_WARDEN_EPOCH = true →
          (s.flag PWR_STATE_HUB_RUN = false → completes (.epoch f) s (fun u => modemOnly s u ∧ ∃ r, newest r u ∧ r.w7 = e))
          ∧ (s.flag PWR_STATE_HUB_RUN = true → s.flag DRV_EPOCH_VALID = false → leAt f.body 2 1 % 2 = 1 →
              (∀ d, d < 4096 → leAt f.body (4 + d / 4) 1 / 4 ^ (d % 4) % 4 ≠ 3) →
              completes (.epoch f) s (fun u => u.flag DRV_EPOCH_VALID = true ∧ u.get DRV_EPOCH_EPOCH = e)))
        ∧ (let v := leAt f.body 0 1
          completes (.load f) s (fun u => kept u ∧ acked f [] s u ∧ u.get (fLver b n) = v
            ∧ (v = 0 → (u.salPeer b n).tx = none)
            ∧ (v ≠ 0 → ∃ t, (u.salPeer b n).tx = some t ∧ t.ver = v ∧ ∀ i, i < 216 →
                nth 0 t.bits i = leAt f.body (1 + i / 2) 1 / (if i % 2 = 0 then 1 else 16) % 16))))
      ∧ (salTakes f s → ∀ x, (s.salHist n).find? (fun y => decide (y.mseq = f.mseq.toNat)) = some x → n ≠ s.salNode →
          ∀ c, c = Instr.cmd f ∨ c = .rsp f ∨ c = .record f ∨ c = .epoch f ∨ c = .epochAck f ∨ c = .user f ∨ c = .load f → completes c s (fun u => modemOnly s u
            ∧ u.sal.rxq = s.sal.rxq ∧ u.hol = s.hol ∧ u.sal.hist = s.sal.hist
            ∧ (x.rsp = none → acked f [] s u) ∧ ∀ d, x.rsp = some d → ∃ y, acked f [plainTx n 2 y 0 d none] s u))
      ∧ ∀ (p t : List SalTx) (m : SalTx), salTakes f s → s.sal.txq = p ++ m :: t → m.dst = n → m.mseq = f.aseq.toNat → m.mtype ≠ 6 → m.bcast = false →
          (m.sent = true ∨ 0 < m.att) → (∀ y ∈ p, y.dst ≠ n ∨ y.mseq ≠ f.aseq.toNat) →
          completes (.saletAck f) s (fun u => modemOnly s u ∧ u.sal.txq = p ++ t
            ∧ (m.user = true → u.get SAL_TX_CTRL_RESULT = 1 ∧ u.flag SAL_TX_CTRL_BUSY = false ∧ u.flag SAL_EVENT_TX_DONE = true)))
  ∧ (∀ (v : Word) (s : State), let dst := v.toNat % 64
      let bc := v.getLsbD 6
      let len := v.toNat / 256 % 2048
      let bad := len = 0 ∨ 1528 < len ∨ (bc = false ∧ dst = s.salNode)
      (v.getLsbD 19 = false → completes (.saletTxGo v) s (onlyRegs [0xF00800, 0xF00004] s))
      ∧ (v.getLsbD 19 = true → s.flag SAL_TX_CTRL_BUSY = true → completes (.saletTxGo v) s (fun u => onlyRegs [0xF00800, 0xF00004] s u ∧ u.flag (fLockWr 0xF00004) = true))
      ∧ (v.getLsbD 19 = true → s.flag SAL_TX_CTRL_BUSY = false → bad → completes (.saletTxGo v) s (fun u => onlyRegs [0xF00800, 0xF00004] s u
          ∧ u.get SAL_TX_CTRL_RESULT = 3 ∧ u.flag SAL_TX_CTRL_BUSY = false))
      ∧ (v.getLsbD 19 = true → s.flag SAL_TX_CTRL_BUSY = false → ¬ bad → completes (.saletTxGo v) s (fun u =>
          u = { s with regs := u.regs, sal := u.sal } ∧ u.flag SAL_TX_CTRL_BUSY = true ∧ u.get SAL_TX_CTRL_RESULT = 0
          ∧ ∃ m, u.sal.txq = s.sal.txq ++ [m] ∧ m.dst = dst ∧ m.bcast = bc ∧ m.mtype = 7 ∧ m.user = true ∧ m.sent = false ∧ m.att = 0
            ∧ m.body.length = len ∧ ∀ i, i < len → nth 0 m.body i = BitVec.ofNat 8 (s.get (SAL_TXBUF_WORD (i / 4)) / 256 ^ (i % 4)))))
  ∧ (∀ s : State, completes .rxPop s (fun u => u = { s with regs := u.regs, sal := { s.sal with rxq := s.sal.rxq.tail } }
      ∧ (u.flag SAL_RX_STATUS_VALID = true ↔ s.sal.rxq.tail ≠ [])))
  ∧ ∀ (v : Word) (s : State), completes (.salInjectArm v) s (fun u => onlyRegs [0xF00030, 0xF00004] s u ∧ u.get SAL_INJECT_POINT = v.toNat % 16
      ∧ u.flag SAL_INJECT_BUS = v.getLsbD 4 ∧ (u.flag SAL_INJECT_ARM = true ↔ v.getLsbD 31 = true ∨ s.flag SAL_INJECT_ARM = true))

namespace Sys2Proof.Spec

/-- The operands that an L slot's encoding admits (R258): a window of 0 to 4, a size other than 3, word accesses for AADD and ASWP,
and for MOVR and MOVV a kind other than 3 with a window index of 0 to 3. -/
def lsAdmits : LsOp → Prop
  | .nop => True
  | .ld o => o.win.toNat ≤ 4 ∧ o.sz ≠ 3
  | .st o => o.win.toNat ≤ 4 ∧ o.sz ≠ 3
  | .amod o => o.win.toNat ≤ 4 ∧ o.sz ≠ 3
  | .aadd o => o.win.toNat ≤ 4 ∧ o.sz = 0
  | .aswp o => o.win.toNat ≤ 4 ∧ o.sz = 0
  | .seti _ _ _ => True
  | .movr _ k i => k ≠ 3 ∧ (k = 2 → i.toNat ≤ 3)
  | .movv _ k i => k ≠ 3 ∧ (k = 2 → i.toNat ≤ 3)

/-- The operands that a C slot's encoding admits (R263). -/
def ctlAdmits : CtlOp → Prop
  | .loop _ o => o.rsz ≠ 3
  | .nop => True
  | .endl _ => True
  | .halt => True
  | .wait _ => True
  | .post _ => True
  | .clrf => True

end Sys2Proof.Spec

/-- For every operation of each of the four slots of a lane bundle, with every operand at every value that its encoding admits and
every IDLE count, decoding the four encoded words gives exactly that bundle: no bit of an operand is dropped or misplaced. Two
admissible bundles with the same words are the same bundle. An L slot with an operand that the encoding does not admit, and a LOOP
with region size 3, are refused by the decoder. Words that decode to a bundle and set no unused bit are the bundle's encoding. -/
def Obligations.LaneBundleRoundTrip : Prop :=
  (∀ (idle : BitVec 6) (c : CtlOp) (l : LsOp) (aop : AluOp) (a : LaneAlu) (mop : MulOp) (m : LaneMul), ctlAdmits c → lsAdmits l →
    decBundle (encCtl idle c) (encLs l) (encAlu aop a) (encMul mop m) = some ⟨c, idle.toNat, l, aop, a, mop, m⟩)
  ∧ (∀ (i j : BitVec 6) (c d : CtlOp) (l k : LsOp) (aop bop : AluOp) (a b : LaneAlu) (mop mop2 : MulOp) (m n : LaneMul),
      ctlAdmits c → ctlAdmits d → lsAdmits l → lsAdmits k →
      encCtl i c = encCtl j d → encLs l = encLs k → encAlu aop a = encAlu bop b → encMul mop m = encMul mop2 n →
      i = j ∧ c = d ∧ l = k ∧ aop = bop ∧ a = b ∧ mop = mop2 ∧ m = n)
  ∧ (∀ l : LsOp, ¬ lsAdmits l → decLs (encLs l) = none)
  ∧ (∀ (one : Bool) (o : LaneLoopOp) (idle : BitVec 6), o.rsz = 3 → decCtl (encCtl idle (.loop one o)) = none)
  ∧ ∀ (c l a m : Word) (b : LaneBundle), decBundle c l a m = some b → cleanSlots b c l a m = true →
      b.idle < 64 ∧ ctlAdmits b.c ∧ lsAdmits b.l ∧ encCtl (BitVec.ofNat 6 b.idle) b.c = c ∧ encLs b.l = l ∧ encAlu b.aop b.a = a ∧ encMul b.mop b.m = m
end

