-- ==== Sys2Proof/Laws/Maps.lean ====
section
/-! SUPPORT. Sparse maps: a read after a write gives the value written, other keys keep theirs, and every operation keeps
the canonical form. -/

namespace Sys2Proof.Laws

open Sys2Proof.Machine

variable {α : Type}

theorem mapFind_mapErase_same (k : Nat) (m : SMap α) : mapFind k (mapErase k m) = none := by
  induction m with
  | nil => rfl
  | cons p t ih =>
    obtain ⟨k', v⟩ := p
    by_cases h : k = k' <;> simp [mapErase, mapFind, h] <;> simpa [h] using ih

theorem mapFind_mapErase_ne {k j : Nat} (h : j ≠ k) (m : SMap α) : mapFind j (mapErase k m) = mapFind j m := by
  induction m with
  | nil => rfl
  | cons p t ih =>
    obtain ⟨k', v⟩ := p
    by_cases h1 : k = k'
    · subst h1; simp [mapErase, mapFind, h, ih]
    · by_cases h2 : j = k' <;> simp [mapErase, mapFind, h1, h2, ih]

theorem mapFind_mapInsert_same (k : Nat) (v : α) (m : SMap α) (hm : mapFind k m = none) :
    mapFind k (mapInsert k v m) = some v := by
  induction m with
  | nil => simp [mapInsert, mapFind]
  | cons p t ih =>
    obtain ⟨k', v'⟩ := p
    by_cases h : k < k'
    · simp [mapInsert, mapFind, h]
    · have h1 : k ≠ k' := by
        intro e; subst e; simp [mapFind] at hm
      have h2 : mapFind k t = none := by simpa [mapFind, h1] using hm
      simp [mapInsert, mapFind, h, h1, ih h2]

theorem mapFind_mapInsert_ne {k j : Nat} (h : j ≠ k) (v : α) (m : SMap α) : mapFind j (mapInsert k v m) = mapFind j m := by
  induction m with
  | nil => simp [mapInsert, mapFind, h]
  | cons p t ih =>
    obtain ⟨k', v'⟩ := p
    by_cases h1 : k < k'
    · simp [mapInsert, mapFind, h1, h]
    · by_cases h2 : j = k' <;> simp [mapInsert, mapFind, h1, h2, ih]

theorem mapErase_eq_filter (k : Nat) (m : SMap α) : mapErase k m = m.filter (fun p => decide (p.1 ≠ k)) := by
  induction m with
  | nil => rfl
  | cons p t ih =>
    obtain ⟨k', v⟩ := p
    by_cases h : k = k'
    · subst h; simp [mapErase, ih]
    · simp [mapErase, h, ih, Ne.symm h]

variable [DecidableEq α]

/-- A read after a write of the same key gives the value written. -/
@[simp] theorem mapGet_mapSet_same (d : Nat → α) (m : SMap α) (k : Nat) (v : α) : mapGet d (mapSet d m k v) k = v := by
  unfold mapSet mapGet
  split
  · rename_i h; simp [mapFind_mapErase_same, h]
  · simp [mapFind_mapInsert_same k v _ (mapFind_mapErase_same k m)]

/-- A write leaves every other key alone. -/
@[simp] theorem mapGet_mapSet_ne (d : Nat → α) (m : SMap α) {k j : Nat} (h : j ≠ k) (v : α) :
    mapGet d (mapSet d m k v) j = mapGet d m j := by
  unfold mapSet mapGet
  split
  · simp [mapFind_mapErase_ne h]
  · simp [mapFind_mapInsert_ne h, mapFind_mapErase_ne h]

/-! ### The canonical form -/

theorem mapWfFrom_cons (d : Nat → α) (lo : Option Nat) (k : Nat) (v : α) (t : SMap α) :
    mapWfFrom d lo ((k, v) :: t) = true ↔ (∀ l, lo = some l → l < k) ∧ v ≠ d k ∧ mapWfFrom d (some k) t = true := by
  cases lo <;> simp [mapWfFrom, and_assoc]

theorem mapWfFrom_weaken (d : Nat → α) (lo lo' : Option Nat) (m : SMap α) (h : mapWfFrom d lo m = true)
    (hl : ∀ l', lo' = some l' → ∃ l, lo = some l ∧ l' ≤ l) : mapWfFrom d lo' m = true := by
  cases m with
  | nil => simp [mapWfFrom]
  | cons p t =>
    obtain ⟨k, v⟩ := p
    rw [mapWfFrom_cons] at h ⊢
    refine ⟨fun l' e => ?_, h.2⟩
    obtain ⟨l, hl1, hl2⟩ := hl l' e
    exact Nat.lt_of_le_of_lt hl2 (h.1 l hl1)

theorem mapWfFrom_filter (d : Nat → α) (p : Nat × α → Bool) (lo : Option Nat) (m : SMap α) (h : mapWfFrom d lo m = true) :
    mapWfFrom d lo (m.filter p) = true := by
  induction m generalizing lo with
  | nil => simp [mapWfFrom]
  | cons e t ih =>
    obtain ⟨k, v⟩ := e
    rw [mapWfFrom_cons] at h
    by_cases hp : p (k, v)
    · simp only [List.filter_cons, hp, if_true]
      rw [mapWfFrom_cons]
      exact ⟨h.1, h.2.1, ih _ h.2.2⟩
    · simp only [List.filter_cons, hp]
      exact mapWfFrom_weaken d (some k) lo _ (ih _ h.2.2) (fun l' e => ⟨k, rfl, Nat.le_of_lt (h.1 l' e)⟩)

theorem mapWfFrom_insert (d : Nat → α) (k : Nat) (v : α) (hv : v ≠ d k) (lo : Option Nat) (m : SMap α)
    (h : mapWfFrom d lo m = true) (hl : ∀ l, lo = some l → l < k) (hk : mapFind k m = none) :
    mapWfFrom d lo (mapInsert k v m) = true := by
  induction m generalizing lo with
  | nil => rw [mapInsert, mapWfFrom_cons]; exact ⟨hl, hv, rfl⟩
  | cons e t ih =>
    obtain ⟨k', v'⟩ := e
    have hne : k ≠ k' := by intro e; subst e; simp [mapFind] at hk
    have hk' : mapFind k t = none := by simpa [mapFind, hne] using hk
    rw [mapWfFrom_cons] at h
    by_cases hlt : k < k'
    · simp only [mapInsert, hlt, if_true]
      rw [mapWfFrom_cons, mapWfFrom_cons]
      exact ⟨hl, hv, fun l e => by cases e; exact hlt, h.2⟩
    · simp only [mapInsert, hlt, if_false]
      rw [mapWfFrom_cons]
      refine ⟨h.1, h.2.1, ih _ h.2.2 (fun l e => ?_) hk'⟩
      cases e; omega

/-- A write keeps the canonical form. -/
theorem mapWf_mapSet (d : Nat → α) (m : SMap α) (k : Nat) (v : α) (h : mapWf d m = true) : mapWf d (mapSet d m k v) = true := by
  have he : mapWfFrom d none (mapErase k m) = true := by rw [mapErase_eq_filter]; exact mapWfFrom_filter d _ _ _ h
  unfold mapWf mapSet
  split
  · exact he
  · rename_i hv
    exact mapWfFrom_insert d k v hv none _ he (fun l e => by cases e) (mapFind_mapErase_same k m)

/-- Dropping entries keeps the canonical form. -/
theorem mapWf_mapFilter (d : Nat → α) (p : Nat → Bool) (m : SMap α) (h : mapWf d m = true) : mapWf d (mapFilter p m) = true :=
  mapWfFrom_filter d _ _ _ h

/-- Clearing a range keeps the canonical form. -/
theorem mapWf_mapClear (d : Nat → α) (m : SMap α) (k n : Nat) (h : mapWf d m = true) : mapWf d (mapClear m k n) = true :=
  mapWf_mapFilter d _ _ h

/-- Writing a list keeps the canonical form. -/
theorem mapWf_mapWriteList (d : Nat → α) (l : List α) (m : SMap α) (k : Nat) (h : mapWf d m = true) :
    mapWf d (mapWriteList d m k l) = true := by
  induction l generalizing m k with
  | nil => exact h
  | cons v t ih => exact ih _ _ (mapWf_mapSet d m k v h)

/-- What a written list reads as below it. -/
theorem mapGet_mapWriteList_below (d : Nat → α) (l : List α) (m : SMap α) (k j : Nat) (h : j < k) :
    mapGet d (mapWriteList d m k l) j = mapGet d m j := by
  induction l generalizing m k with
  | nil => rfl
  | cons v t ih => rw [mapWriteList, ih _ _ (by omega), mapGet_mapSet_ne d m (by omega)]

/-- What a written list reads as above it. -/
theorem mapGet_mapWriteList_above (d : Nat → α) (l : List α) (m : SMap α) (k j : Nat) (h : k + l.length ≤ j) :
    mapGet d (mapWriteList d m k l) j = mapGet d m j := by
  induction l generalizing m k with
  | nil => rfl
  | cons v t ih =>
    simp only [List.length_cons] at h
    rw [mapWriteList, ih _ _ (by omega), mapGet_mapSet_ne d m (by omega)]

/-- What a written list reads as inside it. -/
theorem mapGet_mapWriteList_inside (d : Nat → α) (l : List α) (m : SMap α) (k i : Nat) (h : i < l.length) :
    mapGet d (mapWriteList d m k l) (k + i) = l[i] := by
  induction l generalizing m k i with
  | nil => simp at h
  | cons v t ih =>
    cases i with
    | zero => rw [mapWriteList, mapGet_mapWriteList_below _ _ _ _ _ (by omega)]; simp
    | succ i =>
      have : k + (i + 1) = k + 1 + i := by omega
      rw [this, mapWriteList, ih]
      · rfl

end Sys2Proof.Laws
end

