-- ==== Sys2Proof/Laws/Memory.lean ====
section
/-! SUPPORT. Memories under the 144/128 code: what each operation reads as afterwards, and that each keeps the canonical
form. -/

namespace Sys2Proof.Laws

open Sys2Proof.Machine

@[simp] theorem memEmpty_wf : memEmpty.wf = true := rfl

theorem setByte_wf (m : Memory) (a : Nat) (v : Byte) (h : m.wf = true) : (m.setByte a v).wf = true := by
  simp only [Memory.wf, Bool.and_eq_true] at h ⊢
  exact ⟨mapWf_mapSet _ _ _ _ h.1, h.2⟩

theorem setSyn_wf (m : Memory) (w : Nat) (v : Syn) (h : m.wf = true) : (m.setSyn w v).wf = true := by
  simp only [Memory.wf, Bool.and_eq_true] at h ⊢
  exact ⟨h.1, mapWf_mapSet _ _ _ _ h.2⟩

theorem setBytes_wf (m : Memory) (a : Nat) (l : List Byte) (h : m.wf = true) : (m.setBytes a l).wf = true := by
  simp only [Memory.wf, Bool.and_eq_true] at h ⊢
  exact ⟨mapWf_mapWriteList _ _ _ _ h.1, h.2⟩

theorem zeroRange_wf (m : Memory) (a n : Nat) (h : m.wf = true) : (m.zeroRange a n).wf = true := by
  simp only [Memory.wf, Memory.zeroRange, Bool.and_eq_true] at h ⊢
  exact ⟨mapWf_mapClear _ _ _ _ h.1, mapWf_mapClear _ _ _ _ h.2⟩

theorem writeWord_wf (m : Memory) (w : Nat) (c : CWord) (h : m.wf = true) : (m.writeWord w c).wf = true :=
  setSyn_wf _ _ _ (setBytes_wf _ _ _ h)

theorem writeWords_wf (l : List CWord) (m : Memory) (w : Nat) (h : m.wf = true) : (m.writeWords w l).wf = true := by
  induction l generalizing m w with
  | nil => exact h
  | cons c t ih => exact ih _ _ (writeWord_wf m w c h)

theorem flipBit_wf (m : Memory) (w bit : Nat) (h : m.wf = true) : (m.flipBit w bit).wf = true := by
  unfold Memory.flipBit
  split
  · exact setSyn_wf _ _ _ (setByte_wf _ _ _ h)
  · exact setSyn_wf _ _ _ h

/-- A fold that keeps the form at every step keeps it as a whole. -/
theorem foldl_fst_wf {β : Type} (f : Memory × Bool → β → Memory × Bool) (l : List β) (x : Memory × Bool)
    (hf : ∀ y b, y.1.wf = true → (f y b).1.wf = true) (h : x.1.wf = true) : (l.foldl f x).1.wf = true := by
  induction l generalizing x with
  | nil => exact h
  | cons b t ih => exact ih _ (hf x b h)

theorem writeM_wf (m : Memory) (a : Nat) (d : List MByte) (h : m.wf = true) : (m.writeM a d).1.wf = true := by
  unfold Memory.writeM
  refine foldl_fst_wf _ _ _ (fun y b hy => ?_) h
  dsimp only
  split
  · exact writeWord_wf _ _ _ hy
  · split
    · exact hy
    · exact writeWord_wf _ _ _ hy

theorem mergeBytes_wf (m : Memory) (a : Nat) (d : List Byte) (h : m.wf = true) : (m.mergeBytes a d).1.wf = true := by
  unfold Memory.mergeBytes
  refine foldl_fst_wf _ _ _ (fun y b hy => ?_) h
  dsimp only
  split
  · exact writeWord_wf _ _ _ hy
  · split
    · exact hy
    · exact writeWord_wf _ _ _ hy

/-! ### Reads after writes -/

@[simp] theorem setByte_byte_same (m : Memory) (a : Nat) (v : Byte) : (m.setByte a v).byte a = v :=
  mapGet_mapSet_same _ _ _ _
theorem setByte_byte_ne (m : Memory) {a b : Nat} (h : b ≠ a) (v : Byte) : (m.setByte a v).byte b = m.byte b :=
  mapGet_mapSet_ne _ _ h _
@[simp] theorem setByte_synAt (m : Memory) (a : Nat) (v : Byte) (w : Nat) : (m.setByte a v).synAt w = m.synAt w := rfl
@[simp] theorem setSyn_synAt_same (m : Memory) (w : Nat) (v : Syn) : (m.setSyn w v).synAt w = v := mapGet_mapSet_same _ _ _ _
theorem setSyn_synAt_ne (m : Memory) {w x : Nat} (h : x ≠ w) (v : Syn) : (m.setSyn w v).synAt x = m.synAt x :=
  mapGet_mapSet_ne _ _ h _
@[simp] theorem setSyn_byte (m : Memory) (w : Nat) (v : Syn) (a : Nat) : (m.setSyn w v).byte a = m.byte a := rfl
@[simp] theorem setBytes_synAt (m : Memory) (a : Nat) (l : List Byte) (w : Nat) : (m.setBytes a l).synAt w = m.synAt w := rfl

/-- Bytes outside the bytes written keep their values. -/
theorem setBytes_byte_outside (m : Memory) (a : Nat) (l : List Byte) (b : Nat) (h : b < a ∨ a + l.length ≤ b) :
    (m.setBytes a l).byte b = m.byte b := by
  rcases h with h | h
  · exact mapGet_mapWriteList_below _ _ _ _ _ h
  · exact mapGet_mapWriteList_above _ _ _ _ _ h

/-- The bytes written read back. -/
theorem setBytes_byte_inside (m : Memory) (a : Nat) (l : List Byte) (i : Nat) (h : i < l.length) :
    (m.setBytes a l).byte (a + i) = l[i] := mapGet_mapWriteList_inside _ _ _ _ _ h

/-- Bytes outside a code word keep their values when the word is written. -/
theorem writeWord_byte_outside (m : Memory) (w : Nat) (c : CWord) (b : Nat) (h : b < 16 * w ∨ 16 * w + 16 ≤ b) :
    (m.writeWord w c).byte b = m.byte b := by
  unfold Memory.writeWord
  rw [setSyn_byte]
  refine setBytes_byte_outside m _ _ b ?_
  rcases h with h | h
  · exact .inl h
  · have := List.length_take_le 16 c.data
    exact .inr (by omega)

end Sys2Proof.Laws
end

