-- ==== Sys2Proof/Laws/Registers.lean ====
section
/-! SUPPORT. What a register that nothing has written reads as. -/

namespace Sys2Proof.Laws
open Sys2Proof.Machine
variable {α : Type}
/-- Keys of a range that lists no entry are unlisted. -/
theorem mapFind_outside {lo hi k : Nat} (m : SMap α) (h : ∀ e ∈ m, e.1 < lo ∨ hi ≤ e.1) (h1 : lo ≤ k) (h2 : k < hi) : mapFind k m = none := by
  induction m with
  | nil => rfl
  | cons p t ih =>
    have hp := h p (by simp)
    have : k ≠ p.1 := by omega
    simp [mapFind, this]
    exact ih (fun e he => h e (by simp [he]))
/-- A register of a range in which nothing is listed reads as its reset value. -/
theorem reg_unwritten {s : State} {lo hi k : Nat} (h : ∀ e ∈ s.regs, e.1 < lo ∨ hi ≤ e.1) (h1 : lo ≤ k) (h2 : k < hi) : s.reg k = resetOf k := by
  rw [State.reg, mapGet, mapFind_outside s.regs h h1 h2]; rfl
theorem get_unwritten {s : State} {lo hi : Nat} {f : Fld} (h : ∀ e ∈ s.regs, e.1 < lo ∨ hi ≤ e.1) (h1 : lo ≤ f.key) (h2 : f.key < hi)
    (hz : resetOf f.key = 0) : s.get f = 0 := by
  rw [State.get, reg_unwritten h h1 h2, hz]; simp [bitField]
theorem resetIn_skip {key b v : Nat} {d : List (Nat × Nat)} {t : List (Nat × List (Nat × Nat) × Nat)}
    (h : ¬ (b ≤ key ∧ inDims d (key - b) = true)) (ht : resetIn key t = 0) : resetIn key ((b, d, v) :: t) = 0 := by
  rw [resetIn, if_neg h, ht]
/-- R269: no bank is owned at reset. -/
theorem bankOwn_reset (c l : Nat) (hc : c < 128) (hl : l < 64) : resetOf (BBA_BANK_OWN_OWNED c l).key = 0 := by
  have h : resetIn (0x20001200 + 16384 * c + 4 * l) resetTable = 0 := by
    unfold resetTable
    repeat' (refine resetIn_skip (by simp only [inDims, Bool.and_eq_true, decide_eq_true_eq]; omega) ?_)
    rfl
  rw [resetOf, if_neg (by simp only [BBA_BANK_OWN_OWNED]; omega)]
  exact congrArg (BitVec.ofNat 32) h
/-- R333: the windows are zero at reset. -/
theorem cycWin_reset (b j w : Nat) (hb : b < 2) (hj : j < 1280) (hw : w < 8) : resetOf (DSP_CYC_WIN_WORD b j w).key = 0 := by
  have h : resetIn (0x280000 + 65536 * b + 32 * j + 4 * w) resetTable = 0 := by
    unfold resetTable
    repeat' (refine resetIn_skip (by simp only [inDims, Bool.and_eq_true, decide_eq_true_eq]; omega) ?_)
    rfl
  rw [resetOf, if_neg (by simp only [DSP_CYC_WIN_WORD]; omega)]
  exact congrArg (BitVec.ofNat 32) h
/-- R400: the member tables are zero at reset. -/
theorem member_reset (b j : Nat) (hb : b < 2) (hj : j < 256) : resetOf (DRV_MEMBER_STATE b j).key = 0 := by
  have h : resetIn (0xb60000 + 1024 * b + 4 * j) resetTable = 0 := by
    unfold resetTable
    repeat' (refine resetIn_skip (by simp only [inDims, Bool.and_eq_true, decide_eq_true_eq]; omega) ?_)
    rfl
  rw [resetOf, if_neg (by simp only [DRV_MEMBER_STATE]; omega)]
  exact congrArg (BitVec.ofNat 32) h

end Sys2Proof.Laws
end

