-- ==== Sys2Proof/Laws/State.lean ====
section
/-! SUPPORT. What the named operations over State change and leave alone, one small lemma per field and operation, and that
reset is canonical. -/

namespace Sys2Proof.Laws

open Sys2Proof.Machine

/-! ### Registers -/

@[simp] theorem setReg_reg_same (s : State) (k : Nat) (v : Word) : (s.setReg k v).reg k = v := mapGet_mapSet_same _ _ _ _
theorem setReg_reg_ne (s : State) {k j : Nat} (h : j ≠ k) (v : Word) : (s.setReg k v).reg j = s.reg j :=
  mapGet_mapSet_ne _ _ h _

/-! ### Fields an operation leaves alone -/

@[simp] theorem setReg_pending (s : State) (k : Nat) (v : Word) : (s.setReg k v).pending = s.pending := rfl
@[simp] theorem setReg_ctrs (s : State) (k : Nat) (v : Word) : (s.setReg k v).ctrs = s.ctrs := rfl
@[simp] theorem setReg_shadows (s : State) (k : Nat) (v : Word) : (s.setReg k v).shadows = s.shadows := rfl
@[simp] theorem setReg_free (s : State) (k : Nat) (v : Word) : (s.setReg k v).free = s.free := rfl
@[simp] theorem setReg_out (s : State) (k : Nat) (v : Word) : (s.setReg k v).out = s.out := rfl
@[simp] theorem setReg_raw (s : State) (k : Nat) (v : Word) : (s.setReg k v).raw = s.raw := rfl
@[simp] theorem setReg_tiles (s : State) (k : Nat) (v : Word) : (s.setReg k v).tiles = s.tiles := rfl
@[simp] theorem setReg_loader (s : State) (k : Nat) (v : Word) : (s.setReg k v).loader = s.loader := rfl
@[simp] theorem setReg_slices (s : State) (k : Nat) (v : Word) : (s.setReg k v).slices = s.slices := rfl
@[simp] theorem setReg_groups (s : State) (k : Nat) (v : Word) : (s.setReg k v).groups = s.groups := rfl
@[simp] theorem setReg_integ (s : State) (k : Nat) (v : Word) : (s.setReg k v).integ = s.integ := rfl
@[simp] theorem setReg_cyc (s : State) (k : Nat) (v : Word) : (s.setReg k v).cyc = s.cyc := rfl
@[simp] theorem setReg_mem (s : State) (k : Nat) (v : Word) : (s.setReg k v).mem = s.mem := rfl
@[simp] theorem setReg_streams (s : State) (k : Nat) (v : Word) : (s.setReg k v).streams = s.streams := rfl
@[simp] theorem setReg_drv (s : State) (k : Nat) (v : Word) : (s.setReg k v).drv = s.drv := rfl
@[simp] theorem setReg_time (s : State) (k : Nat) (v : Word) : (s.setReg k v).time = s.time := rfl
@[simp] theorem setReg_clusters (s : State) (k : Nat) (v : Word) : (s.setReg k v).clusters = s.clusters := rfl
@[simp] theorem setReg_radio (s : State) (k : Nat) (v : Word) : (s.setReg k v).radio = s.radio := rfl
@[simp] theorem setReg_eth (s : State) (k : Nat) (v : Word) : (s.setReg k v).eth = s.eth := rfl
@[simp] theorem setReg_pcie (s : State) (k : Nat) (v : Word) : (s.setReg k v).pcie = s.pcie := rfl
@[simp] theorem setReg_hol (s : State) (k : Nat) (v : Word) : (s.setReg k v).hol = s.hol := rfl
@[simp] theorem setReg_sal (s : State) (k : Nat) (v : Word) : (s.setReg k v).sal = s.sal := rfl
@[simp] theorem setReg_pwr (s : State) (k : Nat) (v : Word) : (s.setReg k v).pwr = s.pwr := rfl

@[simp] theorem put_pending (s : State) (f : Fld) (v : Nat) : (s.put f v).pending = s.pending := rfl
@[simp] theorem put_ctrs (s : State) (f : Fld) (v : Nat) : (s.put f v).ctrs = s.ctrs := rfl
@[simp] theorem put_shadows (s : State) (f : Fld) (v : Nat) : (s.put f v).shadows = s.shadows := rfl
@[simp] theorem put_free (s : State) (f : Fld) (v : Nat) : (s.put f v).free = s.free := rfl
@[simp] theorem put_out (s : State) (f : Fld) (v : Nat) : (s.put f v).out = s.out := rfl
@[simp] theorem put_raw (s : State) (f : Fld) (v : Nat) : (s.put f v).raw = s.raw := rfl
@[simp] theorem put_tiles (s : State) (f : Fld) (v : Nat) : (s.put f v).tiles = s.tiles := rfl
@[simp] theorem put_loader (s : State) (f : Fld) (v : Nat) : (s.put f v).loader = s.loader := rfl
@[simp] theorem put_slices (s : State) (f : Fld) (v : Nat) : (s.put f v).slices = s.slices := rfl
@[simp] theorem put_groups (s : State) (f : Fld) (v : Nat) : (s.put f v).groups = s.groups := rfl
@[simp] theorem put_integ (s : State) (f : Fld) (v : Nat) : (s.put f v).integ = s.integ := rfl
@[simp] theorem put_cyc (s : State) (f : Fld) (v : Nat) : (s.put f v).cyc = s.cyc := rfl
@[simp] theorem put_mem (s : State) (f : Fld) (v : Nat) : (s.put f v).mem = s.mem := rfl
@[simp] theorem put_streams (s : State) (f : Fld) (v : Nat) : (s.put f v).streams = s.streams := rfl
@[simp] theorem put_drv (s : State) (f : Fld) (v : Nat) : (s.put f v).drv = s.drv := rfl
@[simp] theorem put_time (s : State) (f : Fld) (v : Nat) : (s.put f v).time = s.time := rfl
@[simp] theorem put_clusters (s : State) (f : Fld) (v : Nat) : (s.put f v).clusters = s.clusters := rfl
@[simp] theorem put_radio (s : State) (f : Fld) (v : Nat) : (s.put f v).radio = s.radio := rfl
@[simp] theorem put_eth (s : State) (f : Fld) (v : Nat) : (s.put f v).eth = s.eth := rfl
@[simp] theorem put_pcie (s : State) (f : Fld) (v : Nat) : (s.put f v).pcie = s.pcie := rfl
@[simp] theorem put_hol (s : State) (f : Fld) (v : Nat) : (s.put f v).hol = s.hol := rfl
@[simp] theorem put_sal (s : State) (f : Fld) (v : Nat) : (s.put f v).sal = s.sal := rfl
@[simp] theorem put_pwr (s : State) (f : Fld) (v : Nat) : (s.put f v).pwr = s.pwr := rfl

@[simp] theorem putB_pending (s : State) (f : Fld) (b : Bool) : (s.putB f b).pending = s.pending := rfl
@[simp] theorem putB_ctrs (s : State) (f : Fld) (b : Bool) : (s.putB f b).ctrs = s.ctrs := rfl
@[simp] theorem putB_shadows (s : State) (f : Fld) (b : Bool) : (s.putB f b).shadows = s.shadows := rfl
@[simp] theorem putB_free (s : State) (f : Fld) (b : Bool) : (s.putB f b).free = s.free := rfl
@[simp] theorem putB_out (s : State) (f : Fld) (b : Bool) : (s.putB f b).out = s.out := rfl
@[simp] theorem putB_raw (s : State) (f : Fld) (b : Bool) : (s.putB f b).raw = s.raw := rfl
@[simp] theorem putB_tiles (s : State) (f : Fld) (b : Bool) : (s.putB f b).tiles = s.tiles := rfl
@[simp] theorem putB_loader (s : State) (f : Fld) (b : Bool) : (s.putB f b).loader = s.loader := rfl
@[simp] theorem putB_slices (s : State) (f : Fld) (b : Bool) : (s.putB f b).slices = s.slices := rfl
@[simp] theorem putB_groups (s : State) (f : Fld) (b : Bool) : (s.putB f b).groups = s.groups := rfl
@[simp] theorem putB_integ (s : State) (f : Fld) (b : Bool) : (s.putB f b).integ = s.integ := rfl
@[simp] theorem putB_cyc (s : State) (f : Fld) (b : Bool) : (s.putB f b).cyc = s.cyc := rfl
@[simp] theorem putB_mem (s : State) (f : Fld) (b : Bool) : (s.putB f b).mem = s.mem := rfl
@[simp] theorem putB_streams (s : State) (f : Fld) (b : Bool) : (s.putB f b).streams = s.streams := rfl
@[simp] theorem putB_drv (s : State) (f : Fld) (b : Bool) : (s.putB f b).drv = s.drv := rfl
@[simp] theorem putB_time (s : State) (f : Fld) (b : Bool) : (s.putB f b).time = s.time := rfl
@[simp] theorem putB_clusters (s : State) (f : Fld) (b : Bool) : (s.putB f b).clusters = s.clusters := rfl
@[simp] theorem putB_radio (s : State) (f : Fld) (b : Bool) : (s.putB f b).radio = s.radio := rfl
@[simp] theorem putB_eth (s : State) (f : Fld) (b : Bool) : (s.putB f b).eth = s.eth := rfl
@[simp] theorem putB_pcie (s : State) (f : Fld) (b : Bool) : (s.putB f b).pcie = s.pcie := rfl
@[simp] theorem putB_hol (s : State) (f : Fld) (b : Bool) : (s.putB f b).hol = s.hol := rfl
@[simp] theorem putB_sal (s : State) (f : Fld) (b : Bool) : (s.putB f b).sal = s.sal := rfl
@[simp] theorem putB_pwr (s : State) (f : Fld) (b : Bool) : (s.putB f b).pwr = s.pwr := rfl

@[simp] theorem put64_pending (s : State) (lo hi : Fld) (v : Nat) : (s.put64 lo hi v).pending = s.pending := rfl
@[simp] theorem put64_ctrs (s : State) (lo hi : Fld) (v : Nat) : (s.put64 lo hi v).ctrs = s.ctrs := rfl
@[simp] theorem put64_shadows (s : State) (lo hi : Fld) (v : Nat) : (s.put64 lo hi v).shadows = s.shadows := rfl
@[simp] theorem put64_free (s : State) (lo hi : Fld) (v : Nat) : (s.put64 lo hi v).free = s.free := rfl
@[simp] theorem put64_out (s : State) (lo hi : Fld) (v : Nat) : (s.put64 lo hi v).out = s.out := rfl
@[simp] theorem put64_raw (s : State) (lo hi : Fld) (v : Nat) : (s.put64 lo hi v).raw = s.raw := rfl
@[simp] theorem put64_tiles (s : State) (lo hi : Fld) (v : Nat) : (s.put64 lo hi v).tiles = s.tiles := rfl
@[simp] theorem put64_loader (s : State) (lo hi : Fld) (v : Nat) : (s.put64 lo hi v).loader = s.loader := rfl
@[simp] theorem put64_slices (s : State) (lo hi : Fld) (v : Nat) : (s.put64 lo hi v).slices = s.slices := rfl
@[simp] theorem put64_groups (s : State) (lo hi : Fld) (v : Nat) : (s.put64 lo hi v).groups = s.groups := rfl
@[simp] theorem put64_integ (s : State) (lo hi : Fld) (v : Nat) : (s.put64 lo hi v).integ = s.integ := rfl
@[simp] theorem put64_cyc (s : State) (lo hi : Fld) (v : Nat) : (s.put64 lo hi v).cyc = s.cyc := rfl
@[simp] theorem put64_mem (s : State) (lo hi : Fld) (v : Nat) : (s.put64 lo hi v).mem = s.mem := rfl
@[simp] theorem put64_streams (s : State) (lo hi : Fld) (v : Nat) : (s.put64 lo hi v).streams = s.streams := rfl
@[simp] theorem put64_drv (s : State) (lo hi : Fld) (v : Nat) : (s.put64 lo hi v).drv = s.drv := rfl
@[simp] theorem put64_time (s : State) (lo hi : Fld) (v : Nat) : (s.put64 lo hi v).time = s.time := rfl
@[simp] theorem put64_clusters (s : State) (lo hi : Fld) (v : Nat) : (s.put64 lo hi v).clusters = s.clusters := rfl
@[simp] theorem put64_radio (s : State) (lo hi : Fld) (v : Nat) : (s.put64 lo hi v).radio = s.radio := rfl
@[simp] theorem put64_eth (s : State) (lo hi : Fld) (v : Nat) : (s.put64 lo hi v).eth = s.eth := rfl
@[simp] theorem put64_pcie (s : State) (lo hi : Fld) (v : Nat) : (s.put64 lo hi v).pcie = s.pcie := rfl
@[simp] theorem put64_hol (s : State) (lo hi : Fld) (v : Nat) : (s.put64 lo hi v).hol = s.hol := rfl
@[simp] theorem put64_sal (s : State) (lo hi : Fld) (v : Nat) : (s.put64 lo hi v).sal = s.sal := rfl
@[simp] theorem put64_pwr (s : State) (lo hi : Fld) (v : Nat) : (s.put64 lo hi v).pwr = s.pwr := rfl

@[simp] theorem setCtr_pending (s : State) (k : Nat) (v : BitVec 48) : (s.setCtr k v).pending = s.pending := rfl
@[simp] theorem setCtr_regs (s : State) (k : Nat) (v : BitVec 48) : (s.setCtr k v).regs = s.regs := rfl
@[simp] theorem setCtr_shadows (s : State) (k : Nat) (v : BitVec 48) : (s.setCtr k v).shadows = s.shadows := rfl
@[simp] theorem setCtr_free (s : State) (k : Nat) (v : BitVec 48) : (s.setCtr k v).free = s.free := rfl
@[simp] theorem setCtr_out (s : State) (k : Nat) (v : BitVec 48) : (s.setCtr k v).out = s.out := rfl
@[simp] theorem setCtr_raw (s : State) (k : Nat) (v : BitVec 48) : (s.setCtr k v).raw = s.raw := rfl
@[simp] theorem setCtr_tiles (s : State) (k : Nat) (v : BitVec 48) : (s.setCtr k v).tiles = s.tiles := rfl
@[simp] theorem setCtr_loader (s : State) (k : Nat) (v : BitVec 48) : (s.setCtr k v).loader = s.loader := rfl
@[simp] theorem setCtr_slices (s : State) (k : Nat) (v : BitVec 48) : (s.setCtr k v).slices = s.slices := rfl
@[simp] theorem setCtr_groups (s : State) (k : Nat) (v : BitVec 48) : (s.setCtr k v).groups = s.groups := rfl
@[simp] theorem setCtr_integ (s : State) (k : Nat) (v : BitVec 48) : (s.setCtr k v).integ = s.integ := rfl
@[simp] theorem setCtr_cyc (s : State) (k : Nat) (v : BitVec 48) : (s.setCtr k v).cyc = s.cyc := rfl
@[simp] theorem setCtr_mem (s : State) (k : Nat) (v : BitVec 48) : (s.setCtr k v).mem = s.mem := rfl
@[simp] theorem setCtr_streams (s : State) (k : Nat) (v : BitVec 48) : (s.setCtr k v).streams = s.streams := rfl
@[simp] theorem setCtr_drv (s : State) (k : Nat) (v : BitVec 48) : (s.setCtr k v).drv = s.drv := rfl
@[simp] theorem setCtr_time (s : State) (k : Nat) (v : BitVec 48) : (s.setCtr k v).time = s.time := rfl
@[simp] theorem setCtr_clusters (s : State) (k : Nat) (v : BitVec 48) : (s.setCtr k v).clusters = s.clusters := rfl
@[simp] theorem setCtr_radio (s : State) (k : Nat) (v : BitVec 48) : (s.setCtr k v).radio = s.radio := rfl
@[simp] theorem setCtr_eth (s : State) (k : Nat) (v : BitVec 48) : (s.setCtr k v).eth = s.eth := rfl
@[simp] theorem setCtr_pcie (s : State) (k : Nat) (v : BitVec 48) : (s.setCtr k v).pcie = s.pcie := rfl
@[simp] theorem setCtr_hol (s : State) (k : Nat) (v : BitVec 48) : (s.setCtr k v).hol = s.hol := rfl
@[simp] theorem setCtr_sal (s : State) (k : Nat) (v : BitVec 48) : (s.setCtr k v).sal = s.sal := rfl
@[simp] theorem setCtr_pwr (s : State) (k : Nat) (v : BitVec 48) : (s.setCtr k v).pwr = s.pwr := rfl

@[simp] theorem emit_pending (s : State) (o : Out) : (s.emit o).pending = s.pending := rfl
@[simp] theorem emit_regs (s : State) (o : Out) : (s.emit o).regs = s.regs := rfl
@[simp] theorem emit_ctrs (s : State) (o : Out) : (s.emit o).ctrs = s.ctrs := rfl
@[simp] theorem emit_shadows (s : State) (o : Out) : (s.emit o).shadows = s.shadows := rfl
@[simp] theorem emit_free (s : State) (o : Out) : (s.emit o).free = s.free := rfl
@[simp] theorem emit_raw (s : State) (o : Out) : (s.emit o).raw = s.raw := rfl
@[simp] theorem emit_tiles (s : State) (o : Out) : (s.emit o).tiles = s.tiles := rfl
@[simp] theorem emit_loader (s : State) (o : Out) : (s.emit o).loader = s.loader := rfl
@[simp] theorem emit_slices (s : State) (o : Out) : (s.emit o).slices = s.slices := rfl
@[simp] theorem emit_groups (s : State) (o : Out) : (s.emit o).groups = s.groups := rfl
@[simp] theorem emit_integ (s : State) (o : Out) : (s.emit o).integ = s.integ := rfl
@[simp] theorem emit_cyc (s : State) (o : Out) : (s.emit o).cyc = s.cyc := rfl
@[simp] theorem emit_mem (s : State) (o : Out) : (s.emit o).mem = s.mem := rfl
@[simp] theorem emit_streams (s : State) (o : Out) : (s.emit o).streams = s.streams := rfl
@[simp] theorem emit_drv (s : State) (o : Out) : (s.emit o).drv = s.drv := rfl
@[simp] theorem emit_time (s : State) (o : Out) : (s.emit o).time = s.time := rfl
@[simp] theorem emit_clusters (s : State) (o : Out) : (s.emit o).clusters = s.clusters := rfl
@[simp] theorem emit_radio (s : State) (o : Out) : (s.emit o).radio = s.radio := rfl
@[simp] theorem emit_eth (s : State) (o : Out) : (s.emit o).eth = s.eth := rfl
@[simp] theorem emit_pcie (s : State) (o : Out) : (s.emit o).pcie = s.pcie := rfl
@[simp] theorem emit_hol (s : State) (o : Out) : (s.emit o).hol = s.hol := rfl
@[simp] theorem emit_sal (s : State) (o : Out) : (s.emit o).sal = s.sal := rfl
@[simp] theorem emit_pwr (s : State) (o : Out) : (s.emit o).pwr = s.pwr := rfl

@[simp] theorem complete_pending (s : State) (who : Requester) (st : Cpl) (data : List Byte) : (s.complete who st data).pending = s.pending := rfl
@[simp] theorem complete_regs (s : State) (who : Requester) (st : Cpl) (data : List Byte) : (s.complete who st data).regs = s.regs := rfl
@[simp] theorem complete_ctrs (s : State) (who : Requester) (st : Cpl) (data : List Byte) : (s.complete who st data).ctrs = s.ctrs := rfl
@[simp] theorem complete_shadows (s : State) (who : Requester) (st : Cpl) (data : List Byte) : (s.complete who st data).shadows = s.shadows := rfl
@[simp] theorem complete_free (s : State) (who : Requester) (st : Cpl) (data : List Byte) : (s.complete who st data).free = s.free := rfl
@[simp] theorem complete_raw (s : State) (who : Requester) (st : Cpl) (data : List Byte) : (s.complete who st data).raw = s.raw := rfl
@[simp] theorem complete_tiles (s : State) (who : Requester) (st : Cpl) (data : List Byte) : (s.complete who st data).tiles = s.tiles := rfl
@[simp] theorem complete_loader (s : State) (who : Requester) (st : Cpl) (data : List Byte) : (s.complete who st data).loader = s.loader := rfl
@[simp] theorem complete_slices (s : State) (who : Requester) (st : Cpl) (data : List Byte) : (s.complete who st data).slices = s.slices := rfl
@[simp] theorem complete_groups (s : State) (who : Requester) (st : Cpl) (data : List Byte) : (s.complete who st data).groups = s.groups := rfl
@[simp] theorem complete_integ (s : State) (who : Requester) (st : Cpl) (data : List Byte) : (s.complete who st data).integ = s.integ := rfl
@[simp] theorem complete_cyc (s : State) (who : Requester) (st : Cpl) (data : List Byte) : (s.complete who st data).cyc = s.cyc := rfl
@[simp] theorem complete_mem (s : State) (who : Requester) (st : Cpl) (data : List Byte) : (s.complete who st data).mem = s.mem := rfl
@[simp] theorem complete_streams (s : State) (who : Requester) (st : Cpl) (data : List Byte) : (s.complete who st data).streams = s.streams := rfl
@[simp] theorem complete_drv (s : State) (who : Requester) (st : Cpl) (data : List Byte) : (s.complete who st data).drv = s.drv := rfl
@[simp] theorem complete_time (s : State) (who : Requester) (st : Cpl) (data : List Byte) : (s.complete who st data).time = s.time := rfl
@[simp] theorem complete_clusters (s : State) (who : Requester) (st : Cpl) (data : List Byte) : (s.complete who st data).clusters = s.clusters := rfl
@[simp] theorem complete_radio (s : State) (who : Requester) (st : Cpl) (data : List Byte) : (s.complete who st data).radio = s.radio := rfl
@[simp] theorem complete_eth (s : State) (who : Requester) (st : Cpl) (data : List Byte) : (s.complete who st data).eth = s.eth := rfl
@[simp] theorem complete_pcie (s : State) (who : Requester) (st : Cpl) (data : List Byte) : (s.complete who st data).pcie = s.pcie := rfl
@[simp] theorem complete_hol (s : State) (who : Requester) (st : Cpl) (data : List Byte) : (s.complete who st data).hol = s.hol := rfl
@[simp] theorem complete_sal (s : State) (who : Requester) (st : Cpl) (data : List Byte) : (s.complete who st data).sal = s.sal := rfl
@[simp] theorem complete_pwr (s : State) (who : Requester) (st : Cpl) (data : List Byte) : (s.complete who st data).pwr = s.pwr := rfl

@[simp] theorem setTile_pending (s : State) (i : Nat) (x : Tile) : (s.setTile i x).pending = s.pending := rfl
@[simp] theorem setTile_regs (s : State) (i : Nat) (x : Tile) : (s.setTile i x).regs = s.regs := rfl
@[simp] theorem setTile_ctrs (s : State) (i : Nat) (x : Tile) : (s.setTile i x).ctrs = s.ctrs := rfl
@[simp] theorem setTile_shadows (s : State) (i : Nat) (x : Tile) : (s.setTile i x).shadows = s.shadows := rfl
@[simp] theorem setTile_free (s : State) (i : Nat) (x : Tile) : (s.setTile i x).free = s.free := rfl
@[simp] theorem setTile_out (s : State) (i : Nat) (x : Tile) : (s.setTile i x).out = s.out := rfl
@[simp] theorem setTile_raw (s : State) (i : Nat) (x : Tile) : (s.setTile i x).raw = s.raw := rfl
@[simp] theorem setTile_loader (s : State) (i : Nat) (x : Tile) : (s.setTile i x).loader = s.loader := rfl
@[simp] theorem setTile_slices (s : State) (i : Nat) (x : Tile) : (s.setTile i x).slices = s.slices := rfl
@[simp] theorem setTile_groups (s : State) (i : Nat) (x : Tile) : (s.setTile i x).groups = s.groups := rfl
@[simp] theorem setTile_integ (s : State) (i : Nat) (x : Tile) : (s.setTile i x).integ = s.integ := rfl
@[simp] theorem setTile_cyc (s : State) (i : Nat) (x : Tile) : (s.setTile i x).cyc = s.cyc := rfl
@[simp] theorem setTile_mem (s : State) (i : Nat) (x : Tile) : (s.setTile i x).mem = s.mem := rfl
@[simp] theorem setTile_streams (s : State) (i : Nat) (x : Tile) : (s.setTile i x).streams = s.streams := rfl
@[simp] theorem setTile_drv (s : State) (i : Nat) (x : Tile) : (s.setTile i x).drv = s.drv := rfl
@[simp] theorem setTile_time (s : State) (i : Nat) (x : Tile) : (s.setTile i x).time = s.time := rfl
@[simp] theorem setTile_clusters (s : State) (i : Nat) (x : Tile) : (s.setTile i x).clusters = s.clusters := rfl
@[simp] theorem setTile_radio (s : State) (i : Nat) (x : Tile) : (s.setTile i x).radio = s.radio := rfl
@[simp] theorem setTile_eth (s : State) (i : Nat) (x : Tile) : (s.setTile i x).eth = s.eth := rfl
@[simp] theorem setTile_pcie (s : State) (i : Nat) (x : Tile) : (s.setTile i x).pcie = s.pcie := rfl
@[simp] theorem setTile_hol (s : State) (i : Nat) (x : Tile) : (s.setTile i x).hol = s.hol := rfl
@[simp] theorem setTile_sal (s : State) (i : Nat) (x : Tile) : (s.setTile i x).sal = s.sal := rfl
@[simp] theorem setTile_pwr (s : State) (i : Nat) (x : Tile) : (s.setTile i x).pwr = s.pwr := rfl

@[simp] theorem onTile_pending (s : State) (i : Nat) (f : Tile → Tile) : (s.onTile i f).pending = s.pending := rfl
@[simp] theorem onTile_regs (s : State) (i : Nat) (f : Tile → Tile) : (s.onTile i f).regs = s.regs := rfl
@[simp] theorem onTile_ctrs (s : State) (i : Nat) (f : Tile → Tile) : (s.onTile i f).ctrs = s.ctrs := rfl
@[simp] theorem onTile_shadows (s : State) (i : Nat) (f : Tile → Tile) : (s.onTile i f).shadows = s.shadows := rfl
@[simp] theorem onTile_free (s : State) (i : Nat) (f : Tile → Tile) : (s.onTile i f).free = s.free := rfl
@[simp] theorem onTile_out (s : State) (i : Nat) (f : Tile → Tile) : (s.onTile i f).out = s.out := rfl
@[simp] theorem onTile_raw (s : State) (i : Nat) (f : Tile → Tile) : (s.onTile i f).raw = s.raw := rfl
@[simp] theorem onTile_loader (s : State) (i : Nat) (f : Tile → Tile) : (s.onTile i f).loader = s.loader := rfl
@[simp] theorem onTile_slices (s : State) (i : Nat) (f : Tile → Tile) : (s.onTile i f).slices = s.slices := rfl
@[simp] theorem onTile_groups (s : State) (i : Nat) (f : Tile → Tile) : (s.onTile i f).groups = s.groups := rfl
@[simp] theorem onTile_integ (s : State) (i : Nat) (f : Tile → Tile) : (s.onTile i f).integ = s.integ := rfl
@[simp] theorem onTile_cyc (s : State) (i : Nat) (f : Tile → Tile) : (s.onTile i f).cyc = s.cyc := rfl
@[simp] theorem onTile_mem (s : State) (i : Nat) (f : Tile → Tile) : (s.onTile i f).mem = s.mem := rfl
@[simp] theorem onTile_streams (s : State) (i : Nat) (f : Tile → Tile) : (s.onTile i f).streams = s.streams := rfl
@[simp] theorem onTile_drv (s : State) (i : Nat) (f : Tile → Tile) : (s.onTile i f).drv = s.drv := rfl
@[simp] theorem onTile_time (s : State) (i : Nat) (f : Tile → Tile) : (s.onTile i f).time = s.time := rfl
@[simp] theorem onTile_clusters (s : State) (i : Nat) (f : Tile → Tile) : (s.onTile i f).clusters = s.clusters := rfl
@[simp] theorem onTile_radio (s : State) (i : Nat) (f : Tile → Tile) : (s.onTile i f).radio = s.radio := rfl
@[simp] theorem onTile_eth (s : State) (i : Nat) (f : Tile → Tile) : (s.onTile i f).eth = s.eth := rfl
@[simp] theorem onTile_pcie (s : State) (i : Nat) (f : Tile → Tile) : (s.onTile i f).pcie = s.pcie := rfl
@[simp] theorem onTile_hol (s : State) (i : Nat) (f : Tile → Tile) : (s.onTile i f).hol = s.hol := rfl
@[simp] theorem onTile_sal (s : State) (i : Nat) (f : Tile → Tile) : (s.onTile i f).sal = s.sal := rfl
@[simp] theorem onTile_pwr (s : State) (i : Nat) (f : Tile → Tile) : (s.onTile i f).pwr = s.pwr := rfl

@[simp] theorem setSlice_pending (s : State) (i : Nat) (x : SliceRt) : (s.setSlice i x).pending = s.pending := rfl
@[simp] theorem setSlice_regs (s : State) (i : Nat) (x : SliceRt) : (s.setSlice i x).regs = s.regs := rfl
@[simp] theorem setSlice_ctrs (s : State) (i : Nat) (x : SliceRt) : (s.setSlice i x).ctrs = s.ctrs := rfl
@[simp] theorem setSlice_shadows (s : State) (i : Nat) (x : SliceRt) : (s.setSlice i x).shadows = s.shadows := rfl
@[simp] theorem setSlice_free (s : State) (i : Nat) (x : SliceRt) : (s.setSlice i x).free = s.free := rfl
@[simp] theorem setSlice_out (s : State) (i : Nat) (x : SliceRt) : (s.setSlice i x).out = s.out := rfl
@[simp] theorem setSlice_raw (s : State) (i : Nat) (x : SliceRt) : (s.setSlice i x).raw = s.raw := rfl
@[simp] theorem setSlice_tiles (s : State) (i : Nat) (x : SliceRt) : (s.setSlice i x).tiles = s.tiles := rfl
@[simp] theorem setSlice_loader (s : State) (i : Nat) (x : SliceRt) : (s.setSlice i x).loader = s.loader := rfl
@[simp] theorem setSlice_groups (s : State) (i : Nat) (x : SliceRt) : (s.setSlice i x).groups = s.groups := rfl
@[simp] theorem setSlice_integ (s : State) (i : Nat) (x : SliceRt) : (s.setSlice i x).integ = s.integ := rfl
@[simp] theorem setSlice_cyc (s : State) (i : Nat) (x : SliceRt) : (s.setSlice i x).cyc = s.cyc := rfl
@[simp] theorem setSlice_mem (s : State) (i : Nat) (x : SliceRt) : (s.setSlice i x).mem = s.mem := rfl
@[simp] theorem setSlice_streams (s : State) (i : Nat) (x : SliceRt) : (s.setSlice i x).streams = s.streams := rfl
@[simp] theorem setSlice_drv (s : State) (i : Nat) (x : SliceRt) : (s.setSlice i x).drv = s.drv := rfl
@[simp] theorem setSlice_time (s : State) (i : Nat) (x : SliceRt) : (s.setSlice i x).time = s.time := rfl
@[simp] theorem setSlice_clusters (s : State) (i : Nat) (x : SliceRt) : (s.setSlice i x).clusters = s.clusters := rfl
@[simp] theorem setSlice_radio (s : State) (i : Nat) (x : SliceRt) : (s.setSlice i x).radio = s.radio := rfl
@[simp] theorem setSlice_eth (s : State) (i : Nat) (x : SliceRt) : (s.setSlice i x).eth = s.eth := rfl
@[simp] theorem setSlice_pcie (s : State) (i : Nat) (x : SliceRt) : (s.setSlice i x).pcie = s.pcie := rfl
@[simp] theorem setSlice_hol (s : State) (i : Nat) (x : SliceRt) : (s.setSlice i x).hol = s.hol := rfl
@[simp] theorem setSlice_sal (s : State) (i : Nat) (x : SliceRt) : (s.setSlice i x).sal = s.sal := rfl
@[simp] theorem setSlice_pwr (s : State) (i : Nat) (x : SliceRt) : (s.setSlice i x).pwr = s.pwr := rfl

@[simp] theorem onSlice_pending (s : State) (i : Nat) (f : SliceRt → SliceRt) : (s.onSlice i f).pending = s.pending := rfl
@[simp] theorem onSlice_regs (s : State) (i : Nat) (f : SliceRt → SliceRt) : (s.onSlice i f).regs = s.regs := rfl
@[simp] theorem onSlice_ctrs (s : State) (i : Nat) (f : SliceRt → SliceRt) : (s.onSlice i f).ctrs = s.ctrs := rfl
@[simp] theorem onSlice_shadows (s : State) (i : Nat) (f : SliceRt → SliceRt) : (s.onSlice i f).shadows = s.shadows := rfl
@[simp] theorem onSlice_free (s : State) (i : Nat) (f : SliceRt → SliceRt) : (s.onSlice i f).free = s.free := rfl
@[simp] theorem onSlice_out (s : State) (i : Nat) (f : SliceRt → SliceRt) : (s.onSlice i f).out = s.out := rfl
@[simp] theorem onSlice_raw (s : State) (i : Nat) (f : SliceRt → SliceRt) : (s.onSlice i f).raw = s.raw := rfl
@[simp] theorem onSlice_tiles (s : State) (i : Nat) (f : SliceRt → SliceRt) : (s.onSlice i f).tiles = s.tiles := rfl
@[simp] theorem onSlice_loader (s : State) (i : Nat) (f : SliceRt → SliceRt) : (s.onSlice i f).loader = s.loader := rfl
@[simp] theorem onSlice_groups (s : State) (i : Nat) (f : SliceRt → SliceRt) : (s.onSlice i f).groups = s.groups := rfl
@[simp] theorem onSlice_integ (s : State) (i : Nat) (f : SliceRt → SliceRt) : (s.onSlice i f).integ = s.integ := rfl
@[simp] theorem onSlice_cyc (s : State) (i : Nat) (f : SliceRt → SliceRt) : (s.onSlice i f).cyc = s.cyc := rfl
@[simp] theorem onSlice_mem (s : State) (i : Nat) (f : SliceRt → SliceRt) : (s.onSlice i f).mem = s.mem := rfl
@[simp] theorem onSlice_streams (s : State) (i : Nat) (f : SliceRt → SliceRt) : (s.onSlice i f).streams = s.streams := rfl
@[simp] theorem onSlice_drv (s : State) (i : Nat) (f : SliceRt → SliceRt) : (s.onSlice i f).drv = s.drv := rfl
@[simp] theorem onSlice_time (s : State) (i : Nat) (f : SliceRt → SliceRt) : (s.onSlice i f).time = s.time := rfl
@[simp] theorem onSlice_clusters (s : State) (i : Nat) (f : SliceRt → SliceRt) : (s.onSlice i f).clusters = s.clusters := rfl
@[simp] theorem onSlice_radio (s : State) (i : Nat) (f : SliceRt → SliceRt) : (s.onSlice i f).radio = s.radio := rfl
@[simp] theorem onSlice_eth (s : State) (i : Nat) (f : SliceRt → SliceRt) : (s.onSlice i f).eth = s.eth := rfl
@[simp] theorem onSlice_pcie (s : State) (i : Nat) (f : SliceRt → SliceRt) : (s.onSlice i f).pcie = s.pcie := rfl
@[simp] theorem onSlice_hol (s : State) (i : Nat) (f : SliceRt → SliceRt) : (s.onSlice i f).hol = s.hol := rfl
@[simp] theorem onSlice_sal (s : State) (i : Nat) (f : SliceRt → SliceRt) : (s.onSlice i f).sal = s.sal := rfl
@[simp] theorem onSlice_pwr (s : State) (i : Nat) (f : SliceRt → SliceRt) : (s.onSlice i f).pwr = s.pwr := rfl

@[simp] theorem onGroup_pending (s : State) (i : Nat) (f : GroupRt → GroupRt) : (s.onGroup i f).pending = s.pending := rfl
@[simp] theorem onGroup_regs (s : State) (i : Nat) (f : GroupRt → GroupRt) : (s.onGroup i f).regs = s.regs := rfl
@[simp] theorem onGroup_ctrs (s : State) (i : Nat) (f : GroupRt → GroupRt) : (s.onGroup i f).ctrs = s.ctrs := rfl
@[simp] theorem onGroup_shadows (s : State) (i : Nat) (f : GroupRt → GroupRt) : (s.onGroup i f).shadows = s.shadows := rfl
@[simp] theorem onGroup_free (s : State) (i : Nat) (f : GroupRt → GroupRt) : (s.onGroup i f).free = s.free := rfl
@[simp] theorem onGroup_out (s : State) (i : Nat) (f : GroupRt → GroupRt) : (s.onGroup i f).out = s.out := rfl
@[simp] theorem onGroup_raw (s : State) (i : Nat) (f : GroupRt → GroupRt) : (s.onGroup i f).raw = s.raw := rfl
@[simp] theorem onGroup_tiles (s : State) (i : Nat) (f : GroupRt → GroupRt) : (s.onGroup i f).tiles = s.tiles := rfl
@[simp] theorem onGroup_loader (s : State) (i : Nat) (f : GroupRt → GroupRt) : (s.onGroup i f).loader = s.loader := rfl
@[simp] theorem onGroup_slices (s : State) (i : Nat) (f : GroupRt → GroupRt) : (s.onGroup i f).slices = s.slices := rfl
@[simp] theorem onGroup_integ (s : State) (i : Nat) (f : GroupRt → GroupRt) : (s.onGroup i f).integ = s.integ := rfl
@[simp] theorem onGroup_cyc (s : State) (i : Nat) (f : GroupRt → GroupRt) : (s.onGroup i f).cyc = s.cyc := rfl
@[simp] theorem onGroup_mem (s : State) (i : Nat) (f : GroupRt → GroupRt) : (s.onGroup i f).mem = s.mem := rfl
@[simp] theorem onGroup_streams (s : State) (i : Nat) (f : GroupRt → GroupRt) : (s.onGroup i f).streams = s.streams := rfl
@[simp] theorem onGroup_drv (s : State) (i : Nat) (f : GroupRt → GroupRt) : (s.onGroup i f).drv = s.drv := rfl
@[simp] theorem onGroup_time (s : State) (i : Nat) (f : GroupRt → GroupRt) : (s.onGroup i f).time = s.time := rfl
@[simp] theorem onGroup_clusters (s : State) (i : Nat) (f : GroupRt → GroupRt) : (s.onGroup i f).clusters = s.clusters := rfl
@[simp] theorem onGroup_radio (s : State) (i : Nat) (f : GroupRt → GroupRt) : (s.onGroup i f).radio = s.radio := rfl
@[simp] theorem onGroup_eth (s : State) (i : Nat) (f : GroupRt → GroupRt) : (s.onGroup i f).eth = s.eth := rfl
@[simp] theorem onGroup_pcie (s : State) (i : Nat) (f : GroupRt → GroupRt) : (s.onGroup i f).pcie = s.pcie := rfl
@[simp] theorem onGroup_hol (s : State) (i : Nat) (f : GroupRt → GroupRt) : (s.onGroup i f).hol = s.hol := rfl
@[simp] theorem onGroup_sal (s : State) (i : Nat) (f : GroupRt → GroupRt) : (s.onGroup i f).sal = s.sal := rfl
@[simp] theorem onGroup_pwr (s : State) (i : Nat) (f : GroupRt → GroupRt) : (s.onGroup i f).pwr = s.pwr := rfl

@[simp] theorem onPcie_pending (s : State) (f : PcieRt → PcieRt) : (s.onPcie f).pending = s.pending := rfl
@[simp] theorem onPcie_regs (s : State) (f : PcieRt → PcieRt) : (s.onPcie f).regs = s.regs := rfl
@[simp] theorem onPcie_ctrs (s : State) (f : PcieRt → PcieRt) : (s.onPcie f).ctrs = s.ctrs := rfl
@[simp] theorem onPcie_shadows (s : State) (f : PcieRt → PcieRt) : (s.onPcie f).shadows = s.shadows := rfl
@[simp] theorem onPcie_free (s : State) (f : PcieRt → PcieRt) : (s.onPcie f).free = s.free := rfl
@[simp] theorem onPcie_out (s : State) (f : PcieRt → PcieRt) : (s.onPcie f).out = s.out := rfl
@[simp] theorem onPcie_raw (s : State) (f : PcieRt → PcieRt) : (s.onPcie f).raw = s.raw := rfl
@[simp] theorem onPcie_tiles (s : State) (f : PcieRt → PcieRt) : (s.onPcie f).tiles = s.tiles := rfl
@[simp] theorem onPcie_loader (s : State) (f : PcieRt → PcieRt) : (s.onPcie f).loader = s.loader := rfl
@[simp] theorem onPcie_slices (s : State) (f : PcieRt → PcieRt) : (s.onPcie f).slices = s.slices := rfl
@[simp] theorem onPcie_groups (s : State) (f : PcieRt → PcieRt) : (s.onPcie f).groups = s.groups := rfl
@[simp] theorem onPcie_integ (s : State) (f : PcieRt → PcieRt) : (s.onPcie f).integ = s.integ := rfl
@[simp] theorem onPcie_cyc (s : State) (f : PcieRt → PcieRt) : (s.onPcie f).cyc = s.cyc := rfl
@[simp] theorem onPcie_mem (s : State) (f : PcieRt → PcieRt) : (s.onPcie f).mem = s.mem := rfl
@[simp] theorem onPcie_streams (s : State) (f : PcieRt → PcieRt) : (s.onPcie f).streams = s.streams := rfl
@[simp] theorem onPcie_drv (s : State) (f : PcieRt → PcieRt) : (s.onPcie f).drv = s.drv := rfl
@[simp] theorem onPcie_time (s : State) (f : PcieRt → PcieRt) : (s.onPcie f).time = s.time := rfl
@[simp] theorem onPcie_clusters (s : State) (f : PcieRt → PcieRt) : (s.onPcie f).clusters = s.clusters := rfl
@[simp] theorem onPcie_radio (s : State) (f : PcieRt → PcieRt) : (s.onPcie f).radio = s.radio := rfl
@[simp] theorem onPcie_eth (s : State) (f : PcieRt → PcieRt) : (s.onPcie f).eth = s.eth := rfl
@[simp] theorem onPcie_hol (s : State) (f : PcieRt → PcieRt) : (s.onPcie f).hol = s.hol := rfl
@[simp] theorem onPcie_sal (s : State) (f : PcieRt → PcieRt) : (s.onPcie f).sal = s.sal := rfl
@[simp] theorem onPcie_pwr (s : State) (f : PcieRt → PcieRt) : (s.onPcie f).pwr = s.pwr := rfl

@[simp] theorem latch_pending (s : State) (who : Requester) (key upper : Nat) : (s.latch who key upper).pending = s.pending := rfl
@[simp] theorem latch_regs (s : State) (who : Requester) (key upper : Nat) : (s.latch who key upper).regs = s.regs := rfl
@[simp] theorem latch_ctrs (s : State) (who : Requester) (key upper : Nat) : (s.latch who key upper).ctrs = s.ctrs := rfl
@[simp] theorem latch_free (s : State) (who : Requester) (key upper : Nat) : (s.latch who key upper).free = s.free := rfl
@[simp] theorem latch_out (s : State) (who : Requester) (key upper : Nat) : (s.latch who key upper).out = s.out := rfl
@[simp] theorem latch_raw (s : State) (who : Requester) (key upper : Nat) : (s.latch who key upper).raw = s.raw := rfl
@[simp] theorem latch_tiles (s : State) (who : Requester) (key upper : Nat) : (s.latch who key upper).tiles = s.tiles := rfl
@[simp] theorem latch_loader (s : State) (who : Requester) (key upper : Nat) : (s.latch who key upper).loader = s.loader := rfl
@[simp] theorem latch_slices (s : State) (who : Requester) (key upper : Nat) : (s.latch who key upper).slices = s.slices := rfl
@[simp] theorem latch_groups (s : State) (who : Requester) (key upper : Nat) : (s.latch who key upper).groups = s.groups := rfl
@[simp] theorem latch_integ (s : State) (who : Requester) (key upper : Nat) : (s.latch who key upper).integ = s.integ := rfl
@[simp] theorem latch_cyc (s : State) (who : Requester) (key upper : Nat) : (s.latch who key upper).cyc = s.cyc := rfl
@[simp] theorem latch_mem (s : State) (who : Requester) (key upper : Nat) : (s.latch who key upper).mem = s.mem := rfl
@[simp] theorem latch_streams (s : State) (who : Requester) (key upper : Nat) : (s.latch who key upper).streams = s.streams := rfl
@[simp] theorem latch_drv (s : State) (who : Requester) (key upper : Nat) : (s.latch who key upper).drv = s.drv := rfl
@[simp] theorem latch_time (s : State) (who : Requester) (key upper : Nat) : (s.latch who key upper).time = s.time := rfl
@[simp] theorem latch_clusters (s : State) (who : Requester) (key upper : Nat) : (s.latch who key upper).clusters = s.clusters := rfl
@[simp] theorem latch_radio (s : State) (who : Requester) (key upper : Nat) : (s.latch who key upper).radio = s.radio := rfl
@[simp] theorem latch_eth (s : State) (who : Requester) (key upper : Nat) : (s.latch who key upper).eth = s.eth := rfl
@[simp] theorem latch_pcie (s : State) (who : Requester) (key upper : Nat) : (s.latch who key upper).pcie = s.pcie := rfl
@[simp] theorem latch_hol (s : State) (who : Requester) (key upper : Nat) : (s.latch who key upper).hol = s.hol := rfl
@[simp] theorem latch_sal (s : State) (who : Requester) (key upper : Nat) : (s.latch who key upper).sal = s.sal := rfl
@[simp] theorem latch_pwr (s : State) (who : Requester) (key upper : Nat) : (s.latch who key upper).pwr = s.pwr := rfl

end Sys2Proof.Laws
end

