-- ==== Sys2Proof/Laws/Tile.lean ====
section
/-! SUPPORT. Vector and mask registers: a register written reads as written, the others as before. -/

namespace Sys2Proof.Laws

open Sys2Proof.Machine

theorem mapFind_put_same {α : Type} (k : Nat) (v : α) (m : SMap α) : mapFind k (mapInsert k v (mapErase k m)) = some v :=
  mapFind_mapInsert_same k v _ (mapFind_mapErase_same k m)

theorem mapFind_put_ne {α : Type} {k j : Nat} (h : j ≠ k) (v : α) (m : SMap α) :
    mapFind j (mapInsert k v (mapErase k m)) = mapFind j m := by
  rw [mapFind_mapInsert_ne h, mapFind_mapErase_ne h]

/-- Written lanes read as written, zeros among them. -/
@[simp] theorem vreg_setVreg_same (x : Tile) (r l : Nat) (v : Word) : (x.setVreg r l v).vreg r l = v := by
  unfold Tile.setVreg Tile.vreg
  by_cases h : x.vlost = 0
  · simp only [h, if_true]
    unfold mapSet
    split
    · rename_i hv; simp [mapGet, mapFind_mapErase_same, Tile.unwritten, hv]
    · simp [mapGet, mapFind_put_same]
  · simp [h, mapGet, mapFind_put_same]

/-- The other lanes keep what they held. -/
theorem vreg_setVreg_ne (x : Tile) {r l q j : Nat} (h : 64 * q + j ≠ 64 * r + l) (v : Word) :
    (x.setVreg r l v).vreg q j = x.vreg q j := by
  unfold Tile.setVreg Tile.vreg
  by_cases hl : x.vlost = 0
  · simp only [hl, if_true]
    unfold mapSet
    split
    · simp [mapGet, mapFind_mapErase_ne h, Tile.unwritten, hl]
    · simp [mapGet, mapFind_put_ne h, Tile.unwritten, hl]
  · simp [hl, mapGet, mapFind_put_ne h, Tile.unwritten]

end Sys2Proof.Laws
end

