-- ==== Sys2Proof/Laws/Units.lean ====
section
/-! SUPPORT. What a change of one unit's record (Dravsel, Tshedel, the radio pipeline, the Hollow, Salet, a radio cluster, a slice's
streams) does to each field of State. -/

namespace Sys2Proof.Laws

open Sys2Proof.Machine

@[simp] theorem onDrv_pending (s : State) (f : DrvRt → DrvRt) : (s.onDrv f).pending = s.pending := rfl
@[simp] theorem onDrv_regs (s : State) (f : DrvRt → DrvRt) : (s.onDrv f).regs = s.regs := rfl
@[simp] theorem onDrv_ctrs (s : State) (f : DrvRt → DrvRt) : (s.onDrv f).ctrs = s.ctrs := rfl
@[simp] theorem onDrv_shadows (s : State) (f : DrvRt → DrvRt) : (s.onDrv f).shadows = s.shadows := rfl
@[simp] theorem onDrv_free (s : State) (f : DrvRt → DrvRt) : (s.onDrv f).free = s.free := rfl
@[simp] theorem onDrv_out (s : State) (f : DrvRt → DrvRt) : (s.onDrv f).out = s.out := rfl
@[simp] theorem onDrv_raw (s : State) (f : DrvRt → DrvRt) : (s.onDrv f).raw = s.raw := rfl
@[simp] theorem onDrv_tiles (s : State) (f : DrvRt → DrvRt) : (s.onDrv f).tiles = s.tiles := rfl
@[simp] theorem onDrv_loader (s : State) (f : DrvRt → DrvRt) : (s.onDrv f).loader = s.loader := rfl
@[simp] theorem onDrv_slices (s : State) (f : DrvRt → DrvRt) : (s.onDrv f).slices = s.slices := rfl
@[simp] theorem onDrv_groups (s : State) (f : DrvRt → DrvRt) : (s.onDrv f).groups = s.groups := rfl
@[simp] theorem onDrv_integ (s : State) (f : DrvRt → DrvRt) : (s.onDrv f).integ = s.integ := rfl
@[simp] theorem onDrv_cyc (s : State) (f : DrvRt → DrvRt) : (s.onDrv f).cyc = s.cyc := rfl
@[simp] theorem onDrv_mem (s : State) (f : DrvRt → DrvRt) : (s.onDrv f).mem = s.mem := rfl
@[simp] theorem onDrv_streams (s : State) (f : DrvRt → DrvRt) : (s.onDrv f).streams = s.streams := rfl
@[simp] theorem onDrv_drv (s : State) (f : DrvRt → DrvRt) : (s.onDrv f).drv = f s.drv := rfl
@[simp] theorem onDrv_time (s : State) (f : DrvRt → DrvRt) : (s.onDrv f).time = s.time := rfl
@[simp] theorem onDrv_clusters (s : State) (f : DrvRt → DrvRt) : (s.onDrv f).clusters = s.clusters := rfl
@[simp] theorem onDrv_radio (s : State) (f : DrvRt → DrvRt) : (s.onDrv f).radio = s.radio := rfl
@[simp] theorem onDrv_eth (s : State) (f : DrvRt → DrvRt) : (s.onDrv f).eth = s.eth := rfl
@[simp] theorem onDrv_pcie (s : State) (f : DrvRt → DrvRt) : (s.onDrv f).pcie = s.pcie := rfl
@[simp] theorem onDrv_hol (s : State) (f : DrvRt → DrvRt) : (s.onDrv f).hol = s.hol := rfl
@[simp] theorem onDrv_sal (s : State) (f : DrvRt → DrvRt) : (s.onDrv f).sal = s.sal := rfl
@[simp] theorem onDrv_pwr (s : State) (f : DrvRt → DrvRt) : (s.onDrv f).pwr = s.pwr := rfl
@[simp] theorem onDrv_reg (s : State) (f : DrvRt → DrvRt) (k : Nat) : (s.onDrv f).reg k = s.reg k := rfl

@[simp] theorem onEth_pending (s : State) (f : EthRt → EthRt) : (s.onEth f).pending = s.pending := rfl
@[simp] theorem onEth_regs (s : State) (f : EthRt → EthRt) : (s.onEth f).regs = s.regs := rfl
@[simp] theorem onEth_ctrs (s : State) (f : EthRt → EthRt) : (s.onEth f).ctrs = s.ctrs := rfl
@[simp] theorem onEth_shadows (s : State) (f : EthRt → EthRt) : (s.onEth f).shadows = s.shadows := rfl
@[simp] theorem onEth_free (s : State) (f : EthRt → EthRt) : (s.onEth f).free = s.free := rfl
@[simp] theorem onEth_out (s : State) (f : EthRt → EthRt) : (s.onEth f).out = s.out := rfl
@[simp] theorem onEth_raw (s : State) (f : EthRt → EthRt) : (s.onEth f).raw = s.raw := rfl
@[simp] theorem onEth_tiles (s : State) (f : EthRt → EthRt) : (s.onEth f).tiles = s.tiles := rfl
@[simp] theorem onEth_loader (s : State) (f : EthRt → EthRt) : (s.onEth f).loader = s.loader := rfl
@[simp] theorem onEth_slices (s : State) (f : EthRt → EthRt) : (s.onEth f).slices = s.slices := rfl
@[simp] theorem onEth_groups (s : State) (f : EthRt → EthRt) : (s.onEth f).groups = s.groups := rfl
@[simp] theorem onEth_integ (s : State) (f : EthRt → EthRt) : (s.onEth f).integ = s.integ := rfl
@[simp] theorem onEth_cyc (s : State) (f : EthRt → EthRt) : (s.onEth f).cyc = s.cyc := rfl
@[simp] theorem onEth_mem (s : State) (f : EthRt → EthRt) : (s.onEth f).mem = s.mem := rfl
@[simp] theorem onEth_streams (s : State) (f : EthRt → EthRt) : (s.onEth f).streams = s.streams := rfl
@[simp] theorem onEth_drv (s : State) (f : EthRt → EthRt) : (s.onEth f).drv = s.drv := rfl
@[simp] theorem onEth_time (s : State) (f : EthRt → EthRt) : (s.onEth f).time = s.time := rfl
@[simp] theorem onEth_clusters (s : State) (f : EthRt → EthRt) : (s.onEth f).clusters = s.clusters := rfl
@[simp] theorem onEth_radio (s : State) (f : EthRt → EthRt) : (s.onEth f).radio = s.radio := rfl
@[simp] theorem onEth_eth (s : State) (f : EthRt → EthRt) : (s.onEth f).eth = f s.eth := rfl
@[simp] theorem onEth_pcie (s : State) (f : EthRt → EthRt) : (s.onEth f).pcie = s.pcie := rfl
@[simp] theorem onEth_hol (s : State) (f : EthRt → EthRt) : (s.onEth f).hol = s.hol := rfl
@[simp] theorem onEth_sal (s : State) (f : EthRt → EthRt) : (s.onEth f).sal = s.sal := rfl
@[simp] theorem onEth_pwr (s : State) (f : EthRt → EthRt) : (s.onEth f).pwr = s.pwr := rfl
@[simp] theorem onEth_reg (s : State) (f : EthRt → EthRt) (k : Nat) : (s.onEth f).reg k = s.reg k := rfl

@[simp] theorem onRadio_pending (s : State) (f : RadioRt → RadioRt) : (s.onRadio f).pending = s.pending := rfl
@[simp] theorem onRadio_regs (s : State) (f : RadioRt → RadioRt) : (s.onRadio f).regs = s.regs := rfl
@[simp] theorem onRadio_ctrs (s : State) (f : RadioRt → RadioRt) : (s.onRadio f).ctrs = s.ctrs := rfl
@[simp] theorem onRadio_shadows (s : State) (f : RadioRt → RadioRt) : (s.onRadio f).shadows = s.shadows := rfl
@[simp] theorem onRadio_free (s : State) (f : RadioRt → RadioRt) : (s.onRadio f).free = s.free := rfl
@[simp] theorem onRadio_out (s : State) (f : RadioRt → RadioRt) : (s.onRadio f).out = s.out := rfl
@[simp] theorem onRadio_raw (s : State) (f : RadioRt → RadioRt) : (s.onRadio f).raw = s.raw := rfl
@[simp] theorem onRadio_tiles (s : State) (f : RadioRt → RadioRt) : (s.onRadio f).tiles = s.tiles := rfl
@[simp] theorem onRadio_loader (s : State) (f : RadioRt → RadioRt) : (s.onRadio f).loader = s.loader := rfl
@[simp] theorem onRadio_slices (s : State) (f : RadioRt → RadioRt) : (s.onRadio f).slices = s.slices := rfl
@[simp] theorem onRadio_groups (s : State) (f : RadioRt → RadioRt) : (s.onRadio f).groups = s.groups := rfl
@[simp] theorem onRadio_integ (s : State) (f : RadioRt → RadioRt) : (s.onRadio f).integ = s.integ := rfl
@[simp] theorem onRadio_cyc (s : State) (f : RadioRt → RadioRt) : (s.onRadio f).cyc = s.cyc := rfl
@[simp] theorem onRadio_mem (s : State) (f : RadioRt → RadioRt) : (s.onRadio f).mem = s.mem := rfl
@[simp] theorem onRadio_streams (s : State) (f : RadioRt → RadioRt) : (s.onRadio f).streams = s.streams := rfl
@[simp] theorem onRadio_drv (s : State) (f : RadioRt → RadioRt) : (s.onRadio f).drv = s.drv := rfl
@[simp] theorem onRadio_time (s : State) (f : RadioRt → RadioRt) : (s.onRadio f).time = s.time := rfl
@[simp] theorem onRadio_clusters (s : State) (f : RadioRt → RadioRt) : (s.onRadio f).clusters = s.clusters := rfl
@[simp] theorem onRadio_radio (s : State) (f : RadioRt → RadioRt) : (s.onRadio f).radio = f s.radio := rfl
@[simp] theorem onRadio_eth (s : State) (f : RadioRt → RadioRt) : (s.onRadio f).eth = s.eth := rfl
@[simp] theorem onRadio_pcie (s : State) (f : RadioRt → RadioRt) : (s.onRadio f).pcie = s.pcie := rfl
@[simp] theorem onRadio_hol (s : State) (f : RadioRt → RadioRt) : (s.onRadio f).hol = s.hol := rfl
@[simp] theorem onRadio_sal (s : State) (f : RadioRt → RadioRt) : (s.onRadio f).sal = s.sal := rfl
@[simp] theorem onRadio_pwr (s : State) (f : RadioRt → RadioRt) : (s.onRadio f).pwr = s.pwr := rfl
@[simp] theorem onRadio_reg (s : State) (f : RadioRt → RadioRt) (k : Nat) : (s.onRadio f).reg k = s.reg k := rfl

@[simp] theorem onHol_pending (s : State) (f : HolRt → HolRt) : (s.onHol f).pending = s.pending := rfl
@[simp] theorem onHol_regs (s : State) (f : HolRt → HolRt) : (s.onHol f).regs = s.regs := rfl
@[simp] theorem onHol_ctrs (s : State) (f : HolRt → HolRt) : (s.onHol f).ctrs = s.ctrs := rfl
@[simp] theorem onHol_shadows (s : State) (f : HolRt → HolRt) : (s.onHol f).shadows = s.shadows := rfl
@[simp] theorem onHol_free (s : State) (f : HolRt → HolRt) : (s.onHol f).free = s.free := rfl
@[simp] theorem onHol_out (s : State) (f : HolRt → HolRt) : (s.onHol f).out = s.out := rfl
@[simp] theorem onHol_raw (s : State) (f : HolRt → HolRt) : (s.onHol f).raw = s.raw := rfl
@[simp] theorem onHol_tiles (s : State) (f : HolRt → HolRt) : (s.onHol f).tiles = s.tiles := rfl
@[simp] theorem onHol_loader (s : State) (f : HolRt → HolRt) : (s.onHol f).loader = s.loader := rfl
@[simp] theorem onHol_slices (s : State) (f : HolRt → HolRt) : (s.onHol f).slices = s.slices := rfl
@[simp] theorem onHol_groups (s : State) (f : HolRt → HolRt) : (s.onHol f).groups = s.groups := rfl
@[simp] theorem onHol_integ (s : State) (f : HolRt → HolRt) : (s.onHol f).integ = s.integ := rfl
@[simp] theorem onHol_cyc (s : State) (f : HolRt → HolRt) : (s.onHol f).cyc = s.cyc := rfl
@[simp] theorem onHol_mem (s : State) (f : HolRt → HolRt) : (s.onHol f).mem = s.mem := rfl
@[simp] theorem onHol_streams (s : State) (f : HolRt → HolRt) : (s.onHol f).streams = s.streams := rfl
@[simp] theorem onHol_drv (s : State) (f : HolRt → HolRt) : (s.onHol f).drv = s.drv := rfl
@[simp] theorem onHol_time (s : State) (f : HolRt → HolRt) : (s.onHol f).time = s.time := rfl
@[simp] theorem onHol_clusters (s : State) (f : HolRt → HolRt) : (s.onHol f).clusters = s.clusters := rfl
@[simp] theorem onHol_radio (s : State) (f : HolRt → HolRt) : (s.onHol f).radio = s.radio := rfl
@[simp] theorem onHol_eth (s : State) (f : HolRt → HolRt) : (s.onHol f).eth = s.eth := rfl
@[simp] theorem onHol_pcie (s : State) (f : HolRt → HolRt) : (s.onHol f).pcie = s.pcie := rfl
@[simp] theorem onHol_hol (s : State) (f : HolRt → HolRt) : (s.onHol f).hol = f s.hol := rfl
@[simp] theorem onHol_sal (s : State) (f : HolRt → HolRt) : (s.onHol f).sal = s.sal := rfl
@[simp] theorem onHol_pwr (s : State) (f : HolRt → HolRt) : (s.onHol f).pwr = s.pwr := rfl
@[simp] theorem onHol_reg (s : State) (f : HolRt → HolRt) (k : Nat) : (s.onHol f).reg k = s.reg k := rfl

@[simp] theorem onSal_pending (s : State) (f : SalRt → SalRt) : (s.onSal f).pending = s.pending := rfl
@[simp] theorem onSal_regs (s : State) (f : SalRt → SalRt) : (s.onSal f).regs = s.regs := rfl
@[simp] theorem onSal_ctrs (s : State) (f : SalRt → SalRt) : (s.onSal f).ctrs = s.ctrs := rfl
@[simp] theorem onSal_shadows (s : State) (f : SalRt → SalRt) : (s.onSal f).shadows = s.shadows := rfl
@[simp] theorem onSal_free (s : State) (f : SalRt → SalRt) : (s.onSal f).free = s.free := rfl
@[simp] theorem onSal_out (s : State) (f : SalRt → SalRt) : (s.onSal f).out = s.out := rfl
@[simp] theorem onSal_raw (s : State) (f : SalRt → SalRt) : (s.onSal f).raw = s.raw := rfl
@[simp] theorem onSal_tiles (s : State) (f : SalRt → SalRt) : (s.onSal f).tiles = s.tiles := rfl
@[simp] theorem onSal_loader (s : State) (f : SalRt → SalRt) : (s.onSal f).loader = s.loader := rfl
@[simp] theorem onSal_slices (s : State) (f : SalRt → SalRt) : (s.onSal f).slices = s.slices := rfl
@[simp] theorem onSal_groups (s : State) (f : SalRt → SalRt) : (s.onSal f).groups = s.groups := rfl
@[simp] theorem onSal_integ (s : State) (f : SalRt → SalRt) : (s.onSal f).integ = s.integ := rfl
@[simp] theorem onSal_cyc (s : State) (f : SalRt → SalRt) : (s.onSal f).cyc = s.cyc := rfl
@[simp] theorem onSal_mem (s : State) (f : SalRt → SalRt) : (s.onSal f).mem = s.mem := rfl
@[simp] theorem onSal_streams (s : State) (f : SalRt → SalRt) : (s.onSal f).streams = s.streams := rfl
@[simp] theorem onSal_drv (s : State) (f : SalRt → SalRt) : (s.onSal f).drv = s.drv := rfl
@[simp] theorem onSal_time (s : State) (f : SalRt → SalRt) : (s.onSal f).time = s.time := rfl
@[simp] theorem onSal_clusters (s : State) (f : SalRt → SalRt) : (s.onSal f).clusters = s.clusters := rfl
@[simp] theorem onSal_radio (s : State) (f : SalRt → SalRt) : (s.onSal f).radio = s.radio := rfl
@[simp] theorem onSal_eth (s : State) (f : SalRt → SalRt) : (s.onSal f).eth = s.eth := rfl
@[simp] theorem onSal_pcie (s : State) (f : SalRt → SalRt) : (s.onSal f).pcie = s.pcie := rfl
@[simp] theorem onSal_hol (s : State) (f : SalRt → SalRt) : (s.onSal f).hol = s.hol := rfl
@[simp] theorem onSal_sal (s : State) (f : SalRt → SalRt) : (s.onSal f).sal = f s.sal := rfl
@[simp] theorem onSal_pwr (s : State) (f : SalRt → SalRt) : (s.onSal f).pwr = s.pwr := rfl
@[simp] theorem onSal_reg (s : State) (f : SalRt → SalRt) (k : Nat) : (s.onSal f).reg k = s.reg k := rfl

@[simp] theorem onCluster_pending (s : State) (c : Nat) (f : ClusterRt → ClusterRt) : (s.onCluster c f).pending = s.pending := rfl
@[simp] theorem onCluster_regs (s : State) (c : Nat) (f : ClusterRt → ClusterRt) : (s.onCluster c f).regs = s.regs := rfl
@[simp] theorem onCluster_ctrs (s : State) (c : Nat) (f : ClusterRt → ClusterRt) : (s.onCluster c f).ctrs = s.ctrs := rfl
@[simp] theorem onCluster_shadows (s : State) (c : Nat) (f : ClusterRt → ClusterRt) : (s.onCluster c f).shadows = s.shadows := rfl
@[simp] theorem onCluster_free (s : State) (c : Nat) (f : ClusterRt → ClusterRt) : (s.onCluster c f).free = s.free := rfl
@[simp] theorem onCluster_out (s : State) (c : Nat) (f : ClusterRt → ClusterRt) : (s.onCluster c f).out = s.out := rfl
@[simp] theorem onCluster_raw (s : State) (c : Nat) (f : ClusterRt → ClusterRt) : (s.onCluster c f).raw = s.raw := rfl
@[simp] theorem onCluster_tiles (s : State) (c : Nat) (f : ClusterRt → ClusterRt) : (s.onCluster c f).tiles = s.tiles := rfl
@[simp] theorem onCluster_loader (s : State) (c : Nat) (f : ClusterRt → ClusterRt) : (s.onCluster c f).loader = s.loader := rfl
@[simp] theorem onCluster_slices (s : State) (c : Nat) (f : ClusterRt → ClusterRt) : (s.onCluster c f).slices = s.slices := rfl
@[simp] theorem onCluster_groups (s : State) (c : Nat) (f : ClusterRt → ClusterRt) : (s.onCluster c f).groups = s.groups := rfl
@[simp] theorem onCluster_integ (s : State) (c : Nat) (f : ClusterRt → ClusterRt) : (s.onCluster c f).integ = s.integ := rfl
@[simp] theorem onCluster_cyc (s : State) (c : Nat) (f : ClusterRt → ClusterRt) : (s.onCluster c f).cyc = s.cyc := rfl
@[simp] theorem onCluster_mem (s : State) (c : Nat) (f : ClusterRt → ClusterRt) : (s.onCluster c f).mem = s.mem := rfl
@[simp] theorem onCluster_streams (s : State) (c : Nat) (f : ClusterRt → ClusterRt) : (s.onCluster c f).streams = s.streams := rfl
@[simp] theorem onCluster_drv (s : State) (c : Nat) (f : ClusterRt → ClusterRt) : (s.onCluster c f).drv = s.drv := rfl
@[simp] theorem onCluster_time (s : State) (c : Nat) (f : ClusterRt → ClusterRt) : (s.onCluster c f).time = s.time := rfl
@[simp] theorem onCluster_cluster_same (s : State) (c : Nat) (f : ClusterRt → ClusterRt) : (s.onCluster c f).cluster c = f (s.cluster c) :=
  mapGet_mapSet_same _ _ _ _
theorem onCluster_cluster_ne (s : State) (c : Nat) (f : ClusterRt → ClusterRt) {j : Nat} (h : j ≠ c) : (s.onCluster c f).cluster j = s.cluster j :=
  mapGet_mapSet_ne _ _ h _
@[simp] theorem onCluster_radio (s : State) (c : Nat) (f : ClusterRt → ClusterRt) : (s.onCluster c f).radio = s.radio := rfl
@[simp] theorem onCluster_eth (s : State) (c : Nat) (f : ClusterRt → ClusterRt) : (s.onCluster c f).eth = s.eth := rfl
@[simp] theorem onCluster_pcie (s : State) (c : Nat) (f : ClusterRt → ClusterRt) : (s.onCluster c f).pcie = s.pcie := rfl
@[simp] theorem onCluster_hol (s : State) (c : Nat) (f : ClusterRt → ClusterRt) : (s.onCluster c f).hol = s.hol := rfl
@[simp] theorem onCluster_sal (s : State) (c : Nat) (f : ClusterRt → ClusterRt) : (s.onCluster c f).sal = s.sal := rfl
@[simp] theorem onCluster_pwr (s : State) (c : Nat) (f : ClusterRt → ClusterRt) : (s.onCluster c f).pwr = s.pwr := rfl
@[simp] theorem onCluster_reg (s : State) (c : Nat) (f : ClusterRt → ClusterRt) (k : Nat) : (s.onCluster c f).reg k = s.reg k := rfl

@[simp] theorem onStream_pending (s : State) (i : Nat) (f : StreamRt → StreamRt) : (s.onStream i f).pending = s.pending := rfl
@[simp] theorem onStream_regs (s : State) (i : Nat) (f : StreamRt → StreamRt) : (s.onStream i f).regs = s.regs := rfl
@[simp] theorem onStream_ctrs (s : State) (i : Nat) (f : StreamRt → StreamRt) : (s.onStream i f).ctrs = s.ctrs := rfl
@[simp] theorem onStream_shadows (s : State) (i : Nat) (f : StreamRt → StreamRt) : (s.onStream i f).shadows = s.shadows := rfl
@[simp] theorem onStream_free (s : State) (i : Nat) (f : StreamRt → StreamRt) : (s.onStream i f).free = s.free := rfl
@[simp] theorem onStream_out (s : State) (i : Nat) (f : StreamRt → StreamRt) : (s.onStream i f).out = s.out := rfl
@[simp] theorem onStream_raw (s : State) (i : Nat) (f : StreamRt → StreamRt) : (s.onStream i f).raw = s.raw := rfl
@[simp] theorem onStream_tiles (s : State) (i : Nat) (f : StreamRt → StreamRt) : (s.onStream i f).tiles = s.tiles := rfl
@[simp] theorem onStream_loader (s : State) (i : Nat) (f : StreamRt → StreamRt) : (s.onStream i f).loader = s.loader := rfl
@[simp] theorem onStream_slices (s : State) (i : Nat) (f : StreamRt → StreamRt) : (s.onStream i f).slices = s.slices := rfl
@[simp] theorem onStream_groups (s : State) (i : Nat) (f : StreamRt → StreamRt) : (s.onStream i f).groups = s.groups := rfl
@[simp] theorem onStream_integ (s : State) (i : Nat) (f : StreamRt → StreamRt) : (s.onStream i f).integ = s.integ := rfl
@[simp] theorem onStream_cyc (s : State) (i : Nat) (f : StreamRt → StreamRt) : (s.onStream i f).cyc = s.cyc := rfl
@[simp] theorem onStream_mem (s : State) (i : Nat) (f : StreamRt → StreamRt) : (s.onStream i f).mem = s.mem := rfl
@[simp] theorem onStream_stream_same (s : State) (i : Nat) (f : StreamRt → StreamRt) : (s.onStream i f).stream i = f (s.stream i) :=
  mapGet_mapSet_same _ _ _ _
theorem onStream_stream_ne (s : State) (i : Nat) (f : StreamRt → StreamRt) {j : Nat} (h : j ≠ i) : (s.onStream i f).stream j = s.stream j :=
  mapGet_mapSet_ne _ _ h _
@[simp] theorem onStream_drv (s : State) (i : Nat) (f : StreamRt → StreamRt) : (s.onStream i f).drv = s.drv := rfl
@[simp] theorem onStream_time (s : State) (i : Nat) (f : StreamRt → StreamRt) : (s.onStream i f).time = s.time := rfl
@[simp] theorem onStream_clusters (s : State) (i : Nat) (f : StreamRt → StreamRt) : (s.onStream i f).clusters = s.clusters := rfl
@[simp] theorem onStream_radio (s : State) (i : Nat) (f : StreamRt → StreamRt) : (s.onStream i f).radio = s.radio := rfl
@[simp] theorem onStream_eth (s : State) (i : Nat) (f : StreamRt → StreamRt) : (s.onStream i f).eth = s.eth := rfl
@[simp] theorem onStream_pcie (s : State) (i : Nat) (f : StreamRt → StreamRt) : (s.onStream i f).pcie = s.pcie := rfl
@[simp] theorem onStream_hol (s : State) (i : Nat) (f : StreamRt → StreamRt) : (s.onStream i f).hol = s.hol := rfl
@[simp] theorem onStream_sal (s : State) (i : Nat) (f : StreamRt → StreamRt) : (s.onStream i f).sal = s.sal := rfl
@[simp] theorem onStream_pwr (s : State) (i : Nat) (f : StreamRt → StreamRt) : (s.onStream i f).pwr = s.pwr := rfl
@[simp] theorem onStream_reg (s : State) (i : Nat) (f : StreamRt → StreamRt) (k : Nat) : (s.onStream i f).reg k = s.reg k := rfl

end Sys2Proof.Laws
end

