-- ==== Sys2Proof/Tests/Slice0.lean ====
section
/-! SUPPORT. Tests of the model: the checks of WellFormed refuse, single steps on small states, and witnesses for the
hypotheses of the statements. -/

namespace Sys2Proof.Tests

set_option Elab.async false

open Sys2Proof.Machine Sys2Proof.Spec

/-! ### Small states -/

/-- Reset with some registers written. -/
def onRegs (rs : List (Fld × Nat)) : State := rs.foldl (fun s r => s.put r.1 r.2) State.reset
/-- The state that an answer gives. -/
def after (a : Answer) : State := match a with
  | .next t => t
  | _ => State.reset
/-- The host's requests. -/
def host : Requester := .pcie 0 none
/-- Reset with the link up. -/
def linkUp : State := onRegs [(fLinkUp, 1)]

/-! ### The checks of WellFormed -/

/-- A packet with every field within its bits. -/
def goodPacket : Packet := ⟨1, 0, 0, 0, 0, false, false, 0, 1, 2, 0, 0, 0, 0, 0, 0, 0, []⟩
/-- A Salet frame with a body of `n` bytes. -/
def frameOf (n : Nat) : SalFrame := ⟨false, 9, 5, false, 0, true, 12, 0, List.replicate n 0⟩

theorem test_wf_packet : Instr.wellFormed (.reqRd none true goodPacket) = true
    ∧ Instr.wellFormed (.reqRd none true { goodPacket with dst := 4096 }) = false
    ∧ Instr.wellFormed (.reqWr none true { goodPacket with body := List.replicate 17 (0, false) }) = false
    ∧ Instr.wellFormed (.reqRed none true { goodPacket with op := 16 }) = false
    ∧ Instr.wellFormed (.reqAtom none true { goodPacket with code := 16 }) = false
    ∧ Instr.wellFormed (.reqMcw none true { goodPacket with mgroup := 256 }) = false := by decide
theorem test_wf_packet_answers : Instr.wellFormed (.ack none true { goodPacket with src := 4096 }) = false
    ∧ Instr.wellFormed (.resp none true { goodPacket with flow := 256 }) = false
    ∧ Instr.wellFormed (.nackRefusal none true { goodPacket with epoch := 65536 }) = false
    ∧ Instr.wellFormed (.nackBusy none true { goodPacket with hops := 16 }) = false
    ∧ Instr.wellFormed (.ctrlReady none true { goodPacket with typ := 16 }) = false
    ∧ Instr.wellFormed (.ctrlRerun none true { goodPacket with step := 65536 }) = false
    ∧ Instr.wellFormed (.packetForward 0 true { goodPacket with mask := 256 }) = false := by decide
theorem test_wf_access : Instr.wellFormed (.coreTierAccess 0 false 0 (.read 1)) = true
    ∧ Instr.wellFormed (.coreTierAccess 0 false 0 (.read 0)) = false
    ∧ Instr.wellFormed (.coreHostAccess 0 0 (.read 4) (.data [1, 2, 3])) = false
    ∧ Instr.wellFormed (.coreHostAccess 0 0 (.read 2) (.data [1, 2])) = true
    ∧ Instr.wellFormed (.bar2Request 0 none 0 (.write []) false) = false := by decide
theorem test_wf_ethernet : Instr.wellFormed (.ethFrameReceive 0 0 0 0 true [1] none true) = true
    ∧ Instr.wellFormed (.ethFrameReceive 0 0 0 0 true [] none true) = false
    ∧ Instr.wellFormed (.ethFrameReceive 0 0 0 0 true [1] (some [0]) true) = false
    ∧ Instr.wellFormed (.ethTxDescriptorFetch 0 (some [0]) none) = false := by decide
theorem test_wf_readings : Instr.wellFormed (.sensorScan (List.replicate 25 0)) = true ∧ Instr.wellFormed (.sensorScan []) = false
    ∧ Instr.wellFormed (.heartbeat false []) = false ∧ Instr.wellFormed (.probe false 0 0 []) = false := by decide
theorem test_wf_salet : Instr.wellFormed (.user (frameOf 1536)) = true ∧ Instr.wellFormed (.user (frameOf 1537)) = false
    ∧ Instr.wellFormed (.cmd (frameOf 1537)) = false ∧ Instr.wellFormed (.rsp (frameOf 1537)) = false
    ∧ Instr.wellFormed (.record (frameOf 1537)) = false ∧ Instr.wellFormed (.epoch (frameOf 1537)) = false
    ∧ Instr.wellFormed (.epochAck (frameOf 1537)) = false ∧ Instr.wellFormed (.saletAck (frameOf 1537)) = false
    ∧ Instr.wellFormed (.load (frameOf 1537)) = false := by decide +kernel

/-! ### The register window -/

theorem test_witness_StepRunsFrontCommand : State.reset.pending = [] ∧ State.reset.time.due = 0
    ∧ ({ State.reset with time := { TimeRt.reset with due := -5 } } : State).time.due ≠ 0 := by decide
theorem test_witness_StepKeepsInvariant : State.reset.inv ∧ step State.reset = .next State.reset.idle := ⟨⟨by decide, by decide⟩, rfl⟩
theorem test_witness_OutsideAperturesUnsupported : manager host linkUp ∧ 0x1200000 ≤ (0x1200000 : BitVec 28).toNat := ⟨.inl ⟨0, rfl, by decide⟩, by decide⟩
theorem test_witness_manager_warden : manager .warden (onRegs [(PWR_STATE_HUB_RUN, 1)]) := .inr ⟨rfl, by decide⟩
theorem test_witness_AccessesRefusedOrIgnored : manager host linkUp
    ∧ ((0x11FFFFC : BitVec 28).toNat % 4 = 0 ∧ regFind (linkUp.keyOf 0x11FFFFC) regTable = none ∧ isCounter (linkUp.keyOf 0x11FFFFC) = false
      ∧ isCounter (linkUp.keyOf 0x11FFFFC - 4) = false)
    ∧ linkUp.tileReach linkUp.winTile = false
    ∧ ((0x11FFFFF : BitVec 28).toNat < 0x1200000 ∧ (0x11FFFFF : BitVec 28).toNat % 4 ≠ 0) :=
  ⟨.inl ⟨0, rfl, by decide⟩, by decide +kernel, by decide +kernel, by decide⟩
/-- R37: a read of two bytes gets Unsupported Request and `RSVD_WR` of its block. -/
theorem test_register_misaligned : (after (exec (.lowWordRead host 0x300010 2) linkUp)).out.head? = some (.cpl host .ur [])
    ∧ (after (exec (.lowWordRead host 0x300010 2) linkUp)).flag (fRsvdWr 0x300004) = true := by decide +kernel
/-- R11: PLN_LOAD_LEN holds what was written to it. -/
theorem test_register_plain : (after (exec (.registerWrite host 0x20C 4 0xA5) linkUp)).reg 0x20C = 0xA5 := by decide +kernel
/-- R15: a counter stops at all-ones and sets CNT_SAT. -/
theorem test_counter_saturates : let s := after (exec (.counterSaturation (BitVec.ofNat 32 SLC_UNBOUND)) linkUp)
    (s.ctr SLC_UNBOUND).toNat = 2 ^ 48 - 1 ∧ s.flag (fCntSat 0xC00004) = true := by decide +kernel
theorem test_witness_CounterRules : isCounter (BitVec.ofNat 32 SLC_UNBOUND).toNat = true ∧ manager host linkUp
    ∧ ((linkUp.ctr 0).toNat ≠ 2 ^ 48 - 1 ∧ 2 ^ 48 - 1 ≤ (linkUp.ctr 0).toNat + (2 ^ 48 - 1)) := ⟨by decide +kernel, .inl ⟨0, rfl, by decide⟩, by decide⟩
/-! ### The vector unit -/

/-- Tile 0 with `a`, `b` and `d` in lane 0 of registers 1, 2 and 3. -/
def vecState (a b d : Word) : State := State.reset.setTile 0 { Tile.reset with vregs := [(64, a), (128, b), (192, d)] }
/-- A vector slot on registers 1, 2 and 3 without a mask, of a format. -/
def vslot (fmt : BitVec 5) : VecSlot := ⟨0, 3, 1, 2, 0, false, fmt, false⟩
/-- Lane `l` of register 3 of tile 0 after a command. -/
def lane3 (c : Instr) (s : State) (l : Nat) : Word := ((after (exec c s)).tile 0).vreg 3 l

/-- R567: INT32 results wrap. -/
theorem test_iadd_wraps : lane3 (.iadd 0 (vslot 0)) (vecState 0xFFFFFFFF 2 7) 0 = 1 := by decide +kernel
theorem test_isra_sign : lane3 (.isra 0 (vslot 0)) (vecState 0x80000000 33 0) 0 = 0xC0000000 := by decide +kernel
theorem test_imin_signed : lane3 (.imin 0 (vslot 0)) (vecState 0xFFFFFFFF 1 0) 0 = 0xFFFFFFFF := by decide +kernel
/-- R58: 1.5 + 2.25 = 3.75. -/
theorem test_fadd : lane3 (.fadd 0 (vslot 1)) (vecState 0x3FC00000 0x40100000 0) 0 = 0x40700000 := by decide +kernel
theorem test_fadd_inf_minus_inf : lane3 (.fadd 0 (vslot 1)) (vecState 0x7F800000 0xFF800000 0) 0 = 0x7FC00000 := by decide +kernel
/-- 1 / 3 rounded to nearest even. -/
theorem test_fdiv_third : lane3 (.fdiv 0 (vslot 1)) (vecState 0x3F800000 0x40400000 0) 0 = 0x3EAAAAAB := by decide +kernel
/-- The root of 2 rounded to nearest even. -/
theorem test_fsqrt_two : lane3 (.fsqrt 0 (vslot 1)) (vecState 0x40000000 0 0) 0 = 0x3FB504F3 := by decide +kernel
/-- R86: the reciprocal of -0. -/
theorem test_frcp_neg_zero : lane3 (.frcp 0 (vslot 1)) (vecState 0x80000000 0 0) 0 = 0xFF800000 := by decide +kernel
theorem test_fceq_zeros : ((after (exec (.fceq 0 (vslot 1)) (vecState 0x80000000 0 0))).tile 0).mask 3 = 0xFFFFFFFFFFFFFFFF := by decide +kernel
theorem test_fclt_nan : (((after (exec (.fclt 0 (vslot 1)) (vecState 0x7FC00000 0x40000000 0))).tile 0).mask 3).getLsbD 0 = false := by decide +kernel
/-- R569: the minimum's index is in lane 1. -/
theorem test_rmini : lane3 (.rmini 0 (vslot 0)) (vecState 5 0 0) 0 = 0 ∧ lane3 (.rmini 0 (vslot 0)) (vecState 5 0 0) 1 = 1 := by decide +kernel
theorem test_witness_VectorFunctions : ofFP32 0x7FC00000 = .nan ∧ ofFP32 0xBF800000 = .fin true 0x800000 (-23) ∧ (∃ e, ofFP32 0x80000000 = .fin true 0 e) :=
  ⟨by decide, by decide, ⟨_, by rfl⟩⟩
theorem test_witness_VectorComparisonsAndReductions : ofFP32 0x7FC00000 = .nan ∧ ((List.replicate 64 (5 : Word)).length = 64
    ∧ laneIn (List.replicate 64 5) 0 = 5 ∧ isNan32 (laneIn (List.replicate 64 5) 0) = false) := by decide
theorem test_witness_VectorConversions : fmtWidth 0 = 32 ∧ fmtWidth 4 ≠ 32 := by decide

/-! ### Schedules -/

/-- A generator of number 0 with format `f` and offset 0. -/
def agOfFmt (f : Nat) : BitVec 256 := BitVec.ofNat 256 (f * 2 ^ 44)
/-- A port slot of generator 0 on row 5. -/
def pslot (arg : BitVec 6) : PortSlot := ⟨0, 0, 5, arg, false, false, false, 0⟩
/-- Tile 0 running a tenant's schedule with a generator of format `f`, and byte 3 of lane 2 of row 5 holding 9. -/
def rowState (f : Nat) : State := State.reset.setTile 0 { Tile.reset with
  store := { TileStore.empty with valid := true, addr := [agOfFmt f], scb := 4, ctx := 2 }
  run := { TileRun.reset with running := true }
  spad := memEmpty.setByte (256 * 5 + 11) 9 }

theorem test_witness_rowClean : rowClean (rowState 1) 0 5 := by unfold rowClean; decide +kernel
theorem test_witness_VectorLoadStoreRow : (((rowState 1).tile 0).agOf (pslot 2) = some (agOfFmt 1) ∧ ((rowState 1).tile 0).portRow (pslot 2) (agOfFmt 1) = 5)
    ∧ (let s := (rowState 1).put PLN_RADIO_GROUPS_LO_LEND 1
       s.rowOk 0 (s.tile 0).run.radio 2048 = false ∧ (s.tile 0).portRow { pslot 2 with row := 2048 } (agOfFmt 1) = 2048) := by decide +kernel
theorem test_witness_rows : ((rowState 1).scaleRow 0 (agOfFmt 1) 0).2 = rowState 1 ∧ recField (agOfFmt 1) 1 12 5 = 1
    ∧ recField (agOfFmt 4) 1 12 5 = 4 ∧ recField (agOfFmt 9) 1 12 5 = 9 := by decide +kernel
/-- R129: VLD reads the row into ARG's register, little-endian. -/
theorem test_vld : ((after (exec (.vld 0 (pslot 3)) (rowState 1))).tile 0).vreg 3 2 = 0x09000000 := by decide +kernel
theorem test_vst : (((after (exec (.vst 0 (pslot 3)) ((rowState 1).onTile 0 (fun x => { x with vregs := [(193, 0x01020304)] })))).tile 0).spad.byte (256 * 5 + 5)) = 3 := by
  decide +kernel
theorem test_loop_end_last : (((after (exec (.loopEnd 0 1) (rowState 1))).tile 0).run.pc) = 1 := by decide +kernel
theorem test_loop_begin_count : mapGet (fun _ => 0) (((after (exec (.loopBegin 0 1 9) (rowState 1))).tile 0).run.lc) 1 = 10 := by decide +kernel

/-- Tile 0 at logical tile 0 of slice 1 with a route 7 to logical tile 1 of its group. -/
def routeState : State := Id.run do
  let im : Image := ⟨false, false, 1, 0, 1, 1, 0, 0, 0, 0, [], [], [], [⟨0, 0, 0, [], [⟨0, 1, 1, 0, 0, 0, 7, 0, 0, 0⟩], []⟩]⟩
  let s1 := (rowState 1).onSlice 1 (fun x => { x with image := some im, place := [(0, 1)] })
  return (s1.put (DSP_GRP_STATE_SLICE 0) 1).put (TIL_STATE_OWNER 1) 1

theorem test_witness_RouteRows : routeState.routeOut (routeState.runId 0) (pslot 7).arg.toNat = some ⟨0, 1, 1, 0, 0, 0, 7, 0, 0, 0⟩
    ∧ 1 / 16 = (routeState.runId 0).lgroup ∧ routeState.physTile (routeState.runId 0) (groupOf 0) 1 = some 1 ∧ routeState.moutReady 0 (pslot 7) = true := by
  decide +kernel
/-- R121: the row is at the destination's ejection. -/
theorem test_mout : (((after (exec (.mout 0 (pslot 7)) routeState)).tile 1).ej.map (fun e => e.1)) = [7] := by decide +kernel
theorem test_min : let s := (rowState 1).onTile 0 (fun x => { x with ej := [(7, List.replicate 16 ⟨List.replicate 16 3, false⟩)] })
    ((after (exec (.min 0 (pslot 7)) s)).tile 0).ej = [] := by decide +kernel
theorem test_witness_BundlesAndLoops : let s := (rowState 1).onTile 0 (fun x => { x with store := { x.store with bundles := [0x80000000000000000000000] } })
    ((s.tile 0).bundle = some 0x80000000000000000000000 ∧ s.bundleReady 0 0x80000000000000000000000 = true ∧ (s.runId 0).replay = false)
    ∧ (let b : BitVec 128 := 0x80000 <<< 64
       s.bundleReady 0 b = false) := by decide +kernel

/-! ### Mover operations -/

/-- A COPY of 64 bytes. -/
def copyRec : MoverRec := ⟨0, 0, 0, 64, 0, 0, 0⟩
/-- A queued operation of slice `sl` of a kind, on entry 0, with requests outstanding. -/
def mvOp (op : BitVec 4) (sl next : Nat) (out : List MvReq) : MvOp := ⟨{ copyRec with op := op }, sl, 0, 0, 0, 0, 0, next, out, 0, false, none, [], false, 0⟩
theorem test_witness_MoverOperationIssued : (.copy, 0) ∈ moverCommands ∧ ((rowState 1).tile 0).freeEntry = some 0 ∧ (State.reset.tile 0).freeEntry = none :=
  ⟨.head _, by decide, by decide⟩
/-- R96: the lowest free entry becomes ISSUED. -/
theorem test_mover_issue : (((after (exec (.tierRd 0 copyRec) (rowState 1))).tile 0).entry 0).st = .issued ∧
    (((after (exec (.tierRd 0 copyRec) (rowState 1))).tile 0).entry 0).kind = 3 := by decide +kernel
/-- A tile with a queued COPY. -/
def queuedState : State := (rowState 1).onTile 0 (fun x => { x with mvq := [mvOp 0 1 0 []] })
/-- A tile with an operation in context 0. -/
def heldState (o : MvOp) : State := (rowState 1).onTile 0 (fun x => { x with ctxs := [(0, some o)] })
theorem test_witness_MoverContextsAndReplies :
    ((queuedState.tile 0).ctx 0 = none ∧ (queuedState.tile 0).mvq = [] ++ mvOp 0 1 0 [] :: [] ∧ (queuedState.tile 0).ctxServes 0 false = true
      ∧ (queuedState.tile 0).ctxServes 0 true = false)
    ∧ (let s := heldState (mvOp 3 1 0 [])
       (s.tile 0).ctxOrder.find? (fun c => s.canIssue 0 c) = some 0 ∧ (s.tile 0).ctx 0 = some (mvOp 3 1 0 []))
    ∧ (State.reset.tile 0).ctxOrder.find? (fun c => State.reset.canIssue 0 c) = none
    ∧ (let q : MvReq := ⟨0, 0, 4, 0, none, [], some (zerosM 4, causeNone)⟩
       let s := heldState (mvOp 3 1 1 [q])
       s.reqAt 0 0 0 = some (mvOp 3 1 1 [q], q) ∧ s.flag (TIL_INJECT_ARM 0) = false)
    ∧ (((heldState (mvOp 0 1 1 [])).tile 0).ctx 0 = some (mvOp 0 1 1 []) ∧ ((heldState (mvOp 0 1 1 [])).tile 0).opEnded 0 = true)
    ∧ (((heldState { mvOp 0 1 1 [] with cause := 2 }).tile 0).opEnded 0 = true) := by decide +kernel
theorem test_witness_incoming : let q : MvReq := ⟨0, 0, 4, 0, none, [], none⟩
    let s := ((heldState (mvOp 1 1 1 [q])).onSlice 1 (fun x => { x with place := [(0, 1)] })).putPairBit PWR_DOM_TG_LO_ON PWR_DOM_TG_HI_ON 0 true
    s.reqAt 0 0 0 = some (mvOp 1 1 1 [q], q) ∧ recRtile (mvOp 1 1 1 [q]).desc / 16 = (s.opId 0 (mvOp 1 1 1 [q])).lgroup
      ∧ s.physTile (s.opId 0 (mvOp 1 1 1 [q])) (groupOf 0) (recRtile (mvOp 1 1 1 [q]).desc) = some 0 ∧ s.groupOn (groupOf 0) = true := by decide +kernel
/-- R94: the context takes the queued operation. -/
theorem test_context_take : ((after (exec (.contextTakeOp 0 0) queuedState)).tile 0).mvq = [] := by decide +kernel
theorem test_witness_TileWindowCommands :
    (let s := onRegs [(PLN_GROUP_PRESENT_LO_PRESENT, 1), (PWR_DOM_TG_LO_ON, 1)]
     s.tileReach s.winTile = true ∧ s.present (groupOf s.winTile) = true ∧ s.get (TIL_STATE_MODE s.winTile) = 0 ∧ s.groupOn (groupOf 0) = true)
    ∧ (let s := onRegs [(TIL_STATE_MODE 0, 2)]
       s.get (TIL_STATE_MODE s.winTile) ≠ 0 ∧ s.get (TIL_STATE_MODE s.winTile) ≠ 1)
    ∧ (State.reset.taken 0 = false ∧ (∀ i, i < 32 → (1 : Word).getLsbD i ≠ State.reset.marked (0 + i) →
        State.reset.holder (0 + i) = none ∧ ((1 : Word).getLsbD i = true → State.reset.present (0 + i) = true)))
    ∧ (onRegs [(SLC_STATE_STATE 0, 2)]).taken 0 = true
    ∧ (onRegs [(TIL_BIST_CTRL_BG_EN 0, 1)]).flag (TIL_BIST_CTRL_BG_EN 0) = true := by decide +kernel
/-- R102: a written repair entry leaves 15 spares. -/
theorem test_repair_map : (after (exec (.repairMapWrite 2 0x80000123) State.reset)).get (TIL_BIST_STATUS_SPARES_FREE 0) = 15
    ∧ (after (exec (.repairMapWrite 2 0x80000123) State.reset)).physRow 0 0x123 = 3074 := by decide +kernel

/-! ### Plan images -/

/-- Bytes filled up with zeros to `n`. -/
def padTo (n : Nat) (l : List Byte) : List Byte := (l ++ List.replicate n 0).take n
/-- An entry of a section table for a section of zeros (R113). -/
def sectOf (typ lg off len nrec : Nat) : List Byte :=
  natToBytes 2 typ ++ natToBytes 2 lg ++ natToBytes 4 off ++ natToBytes 4 len ++ natToBytes 4 nrec
    ++ natToBytes 4 (crc32c (List.replicate len 0)) ++ natToBytes 12 0
/-- A partial image of one logical group, all of whose sections are zeros (R110 to R113). -/
def smallImage : List Byte :=
  let head := padTo 0xFC (natToBytes 4 0x4E4C505A ++ [0, 1] ++ natToBytes 2 0x8840 ++ [0xB1, 2] ++ natToBytes 2 0 ++ natToBytes 4 7 ++ natToBytes 8 0
    ++ natToBytes 4 8 ++ natToBytes 2 5 ++ [1, 0] ++ natToBytes 12 0 ++ natToBytes 4 3)
  let table := padTo 256 (sectOf 1 0xFF 2 8 1 ++ sectOf 0x10 0 3 512 16 ++ sectOf 0x12 0 5 16 16 ++ sectOf 0x13 0 6 32 1 ++ sectOf 0x14 0 7 128 16)
  head ++ natToBytes 4 (crc32c head) ++ table ++ List.replicate 0x600 0

set_option maxRecDepth 100000 in
/-- R141: CHECK accepts it, and names what is wrong with others. -/
theorem test_check_image : checkImage smallImage 8 = none ∧ (checkImage smallImage 7).map (fun e => e.code) = some 2
    ∧ (checkImage (0 :: smallImage.tail) 8).map (fun e => e.code) = some 3
    ∧ (checkImage (smallImage.take 0xC ++ [1] ++ smallImage.drop 0xD) 8).map (fun e => e.code) = some 6 := by decide +kernel
/-- A load of `smallImage` from the host in FETCH for slice 1. -/
def fetchState : State := { onRegs [(MEM_INIT_A_DONE, 1), (MEM_INIT_B_DONE, 1), (PLN_LOAD_STATUS_STAGE, 1), (PLN_LOAD_LEN_LEN, 8), (MEM_SLC_IMG_COUNT 1, 1), (fBme, 1), (fLinkUp, 1)] with
  loader := { Loader.idle with slice := 1 } }
set_option maxRecDepth 100000 in
theorem test_witness_ImageLoadStages :
    (State.reset.loading = false ∧ State.reset.get PLN_LOAD_SRC_SPACE ≠ 3 ∧ fetchState.loading = true)
    ∧ (fetchState.tiersOpen = true ∧ (fetchState.loadSource true smallImage).1 = some smallImage ∧ smallImage.length ≤ fetchState.winCount fetchState.loader.slice .img * 2 ^ 28
        ∧ checkImage smallImage (fetchState.get PLN_LOAD_LEN_LEN) = none ∧ (fetchState.loadSource false smallImage).1 = none)
    ∧ (let s := (onRegs [(PLN_LOAD_STATUS_STAGE, 4)])
       s.get PLN_LOAD_STATUS_STAGE = 4 ∧ hPartial s.loader.bytes = false ∧ s.loadTargets = [] ∧ s.flag PLN_LOAD_CTRL_AUTO_ACT = false)
    ∧ (let s := (onRegs [(PLN_SLICE_IMG_STATE 0, 1)]).onSlice 0 (fun x => { x with image := some ⟨false, false, 1, 0, 1, 1, 0, 0, 0, 0, [], [], [], []⟩ })
       s.get (PLN_SLICE_IMG_STATE (s.get PLN_LOAD_SRC_SLICE)) = 1 ∧ (s.slice (s.get PLN_LOAD_SRC_SLICE)).image ≠ none)
    ∧ ((onRegs [(PLN_SLICE_IMG_STATE 0, 2), (DSP_SLC_STATE_STATE 0, 7)]).get (DSP_SLC_STATE_STATE 0) = 7) := by decide +kernel
theorem test_witness_loader : ({ State.reset with loader := { Loader.idle with waitSig := true } }).loader.waitSig = true
    ∧ (onRegs [(PLN_LOAD_STATUS_STAGE, 4)]).inv ∧ (onRegs [(PLN_SLICE_IMG_STATE 0, 2), (DSP_SLC_STATE_STATE 0, 2)]).get (DSP_SLC_STATE_STATE 0) ≠ 7 :=
  ⟨rfl, ⟨by decide, by decide⟩, by decide +kernel⟩
set_option maxRecDepth 100000 in
theorem test_witness_partial : let s := { onRegs [(PLN_LOAD_STATUS_STAGE, 4), (DSP_SLC_STATE_STATE 1, 4)] with loader := { Loader.idle with slice := 1, bytes := smallImage } }
    hPartial s.loader.bytes = true ∧ s.writeOpen = true ∧ fetchState.writeOpen = false ∧ (∀ q ∈ s.loadTargets, s.quarantined q.2 = false)
    ∧ s.holdFor 1 = true ∧ fetchState.holdFor 1 = false := by decide +kernel
theorem test_load_start_busy : (after (exec .loadStart fetchState)).get PLN_LOAD_STATUS_BUSY = 1 := by decide +kernel

/-! ### Dispatch -/

theorem test_witness_DispatcherControls : let s := onRegs [(SLC_STATE_STATE 1, 2), (PLN_SLICE_IMG_STATE 1, 2)]
    (s.taken 1 = true ∧ s.get (DSP_SLC_STATE_STATE 1) = 0 ∧ s.get (PLN_SLICE_IMG_STATE 1) = 2)
    ∧ ((s.put (DSP_SLC_STATE_STATE 1) 7).get (DSP_SLC_STATE_STATE 1) = 7 ∧ ((s.put (DSP_SLC_STATE_STATE 1) 7).put (DSP_SLC_CTRL_RUN 1) 1).get (DSP_SLC_CTRL_RUN 1) = 1)
    ∧ (State.reset.taken 1 = false ∧ (1 : Word).toNat % 65536 ≠ 0)
    ∧ ((s.put (DSP_SLC_STATE_STATE 1) 2).get (DSP_SLC_STATE_STATE 1) = 2 ∧ (s.put (DSP_SLC_STATE_STATE 1) 2).sliceGroups 1 = [])
    ∧ (s.holdFor 1 = false ∧ (s.stream 1).waiting = [] ∧ ((s.onStream 1 (fun x => { x with waiting := [⟨1, 9, 0, 0, []⟩] })).stream 1).waiting ≠ [])
    ∧ (s.slice 1).steps = [] ∧ ((s.onSlice 1 (fun x => { x with steps := [StepRt.fresh 0] })).slice 1).steps ≠ [] := by decide +kernel
/-- R178: a slice that is FREE notes LOCK_WR. -/
theorem test_run_free : (after (exec (.run 1 true) State.reset)).flag (fLockWr 0x200004) = true := by decide +kernel
theorem test_retry : (after (exec (.retry 1) (onRegs [(SLC_STATE_STATE 1, 2), (DSP_SLC_STATE_STATE 1, 7), (DSP_SLC_CTRL_RUN 1, 1)]))).get (DSP_SLC_STATE_STATE 1) = 1 := by
  decide +kernel

/-- An image of two segments, the second the last of its step. -/
def twoSegs : Image := ⟨false, false, 1, 0, 1, 1, 0, 0, 0, 1, [⟨0xFF, false, 4, 0, 1, 0⟩, ⟨0xFF, true, 4, 0, 1, 0⟩],
  [⟨1, 0, 1, 0, false, 0, 0, 0, 0, 0, 0, 0, 1⟩], [5], [⟨0, 0, 0, [], [], []⟩]⟩
/-- Slice 1 live with an active image on group 0, READY with a credit. -/
def readyState : State := (onRegs [(SLC_STATE_STATE 1, 1), (PLN_SLICE_IMG_STATE 1, 2), (DSP_SLC_STATE_STATE 1, 1), (DSP_SLC_CTRL_RUN 1, 1),
  (DSP_SLC_CREDIT_CREDIT 1, 2), (DSP_GRP_STATE_SLICE 0, 1), (DSP_GRP_STATE_STATE 0, 3)]).onSlice 1 (fun x => { x with image := some twoSegs, place := [(0, 1)] })
/-- The same with step 0 released. -/
def releasedState (r : StepRt) : State := readyState.onSlice 1 (fun x => { x with steps := [r], nextRelease := 1 })
theorem test_witness_StepLife :
    ((readyState.slice 1).image = some twoSegs ∧ readyState.mayRelease 1 = true ∧ readyState.flag (STM_SLC_CTRL_ENABLE 1) = false)
    ∧ (let s := (releasedState (StepRt.fresh 0)).onGroup 0 (fun g => { g with step := 1 })
       (s.slice 1).steps.find? (fun r => !r.ended) = some (StepRt.fresh 0) ∧ (∀ g ∈ s.sliceGroups 1, s.groupDone 1 0 g = true))
    ∧ (let r := { StepRt.fresh 0 with ended := true }
       ((releasedState r).slice 1).steps = r :: [] ∧ r.judged = true ∧ (releasedState r).get (DSP_SLC_CTRL_COMMIT_MGROUP 1) = 0
         ∧ (releasedState r).get (DSP_SLC_STATE_STATE 1) ≠ 5 ∧ (releasedState r).drv.defq = []) := by decide +kernel
/-- R159, R160: a release uses a credit and the slice runs. -/
theorem test_release : let u := after (exec (.stepRelease 1 0) readyState)
    u.get (DSP_SLC_CREDIT_CREDIT 1) = 1 ∧ u.get (DSP_SLC_STATE_STATE 1) = 2 ∧ ((u.slice 1).steps.map (fun r => r.num)) = [0] := by decide +kernel
theorem test_commit : let u := after (exec (.stepCommit 1) (releasedState { StepRt.fresh 0 with ended := true }))
    u.get64 (DSP_SLC_STEP_LO_STEP 1) (DSP_SLC_STEP_HI_STEP 1) = 1 ∧ (u.slice 1).steps = [] := by decide +kernel
theorem test_witness_SegmentsBeginAndEnd :
    (let s := releasedState (StepRt.fresh 0)
     s.segCtx 0 false = some ⟨1, 0, 0, 0, false, false, false⟩ ∧ twoSegs.segs[0]? = some ⟨0xFF, false, 4, 0, 1, 0⟩
       ∧ s.segOpen 0 false ⟨1, 0, 0, 0, false, false, false⟩ = true ∧ (s.group 0).resume = false)
    ∧ (let s := (groupTiles 0).foldl (fun a t => a.onTile t (fun x => { x with run := { x.run with ended := true } }))
         ((releasedState (StepRt.fresh 0)).onGroup 0 (fun g => { g with seg := 1, begun := true, running := true }))
       s.segCtx 0 false = some ⟨1, 0, 0, 1, true, true, false⟩ ∧ (∀ t ∈ groupTiles 0, (s.tile t).run.ended = true) ∧ (s.group 0).prologue = false) := by decide +kernel
/-- R153: every tile of the group runs. -/
theorem test_segment_begin : let u := after (exec (.segmentBegin 0 false) (releasedState (StepRt.fresh 0)))
    u.get (DSP_GRP_STATE_STATE 0) = 2 ∧ ((u.tile (tileAt 0 15)).run.running = true) ∧ (u.tile (tileAt 0 15)).vlost = 16 ∧ u.free = 16 := by
  decide +kernel

/-! ### The tiers -/

/-- Slice 1 with a 256 MiB window in each tier, both tiers open. -/
def tierState : State := onRegs [(MEM_INIT_A_DONE, 1), (MEM_INIT_B_DONE, 1), (SLC_STATE_STATE 1, 2), (MEM_SLC_A_COUNT 1, 1), (MEM_SLC_B_BASE 1, 1),
  (MEM_SLC_B_COUNT 1, 1), (MEM_XT_VALID 0, 1), (MEM_XT_EXT 0, 3), (MEM_XT_VALID 1, 1), (MEM_XT_TIER_B 1, 1)]
/-- The same with an operation of tile 0 that has one request of 16 bytes at offset 0x100. -/
def tierReq (op : BitVec 4) (waiting : Bool) : State :=
  (tierState.put (DSP_GRP_STATE_SLICE 0) 1).onTile 0 (fun x => { x with ctxs := [(0, some { mvOp op 1 1 [⟨0, 0, 16, 0x100, none, cleanM (List.replicate 16 6), none⟩] with
    waiting := waiting })] })
theorem test_witness_TierRequests : let q : MvReq := ⟨0, 0, 16, 0x100, none, cleanM (List.replicate 16 6), none⟩
    ((tierReq 3 false).reqAt 0 0 0 = some (mvOp 3 1 1 [q], q) ∧ (tierReq 3 false).opOpen (mvOp 3 1 1 [q]) = true)
    ∧ (inTier false 0x47FFFFFFFF = true ∧ (tierReq 3 false).chanFailed false 0x47FFFFFFFF = false)
    ∧ ((tierReq 4 true).reqAt 0 0 0 = some ({ mvOp 4 1 1 [q] with waiting := true }, q))
    ∧ (let s := tierState.onSlice 1 (fun x => { x with committed := [⟨false, 0x100, [(2, some ⟨List.replicate 16 8, false⟩)], []⟩] })
       (s.slice 1).committed = ⟨false, 0x100, [(2, some ⟨List.replicate 16 8, false⟩)], []⟩ :: [] ∧ (s.translate 1 (tierWin false) 0x120).isSome = true
         ∧ s.logSlots 1 = []) := by decide +kernel
/-- R190: a read of tier A that nothing has written delivers zeros. -/
theorem test_tier_read : ((after (exec (.tierReadRequest 0 0 0 ⟨none, none⟩) (tierReq 3 false))).reqAt 0 0 0).bind (fun p => p.2.reply)
    = some (zerosM 16, 0) := by decide +kernel
theorem test_drain_line : let s := tierState.onSlice 1 (fun x => { x with committed := [⟨false, 0x100, [(2, some ⟨List.replicate 16 8, false⟩)], []⟩] })
    ((s.translate 1 .a 0x120).map (fun a => (after (exec (.drainCommittedLine 1) s)).mem.tierA.byte (a + 15))) = some 8 := by decide +kernel
theorem test_witness_TierUpkeep :
    (State.reset.xtLocked 5 = false ∧ (xtVal 0).valid = false ∧ tierState.xtLocked 0 = true)
    ∧ ((85 : BitVec 8).toInt < 105 ∧ State.reset.get (MEM_HBM_STATUS_STEP 7) < 3)
    ∧ (let s := (onRegs [(MEM_SCRUB_CFG_A_EN, 1), (MEM_INIT_A_DONE, 1)])
       s.flag MEM_SCRUB_CFG_A_EN = true ∧ s.tierOpen false = true ∧ inTier false (16 * (5 : BitVec 36).toNat) = true
         ∧ s.chanFailed false (16 * (5 : BitVec 36).toNat) = false ∧ s.flag MEM_INJECT_ARM = false)
    ∧ (State.reset.tierOpen true = false ∧ State.reset.pcie.tierQ = [] ∧ State.reset.tierOpen (!true) = false ∧ (onRegs [(MEM_INIT_A_DONE, 1)]).tierOpen (!true) = true) := by decide +kernel
/-- R203: 85 °C enters step 1; 83 °C keeps it; 82 °C leaves it. -/
theorem test_thermal_step : let s := after (exec (.hbmTempRead 7 85) State.reset)
    s.get (MEM_HBM_STATUS_STEP 7) = 1 ∧ (after (exec (.hbmTempRead 7 83) s)).get (MEM_HBM_STATUS_STEP 7) = 1
      ∧ (after (exec (.hbmTempRead 7 82) s)).get (MEM_HBM_STATUS_STEP 7) = 0 := by decide +kernel
/-- Slice 1's page descriptor: ZERO of 256 lines at offset 0. -/
def zeroDesc : PmDesc := ⟨[0x102, 0, 0, 0, 0, 0x100, 0, 0], false, none, false⟩
theorem test_witness_PageMover : let s := { tierState with mem := { tierState.mem with pm := [zeroDesc] } }
    (State.reset.mem.pm.length < 256 ∧ State.reset.pmHead 0 = none ∧ bitField ((State.reset.setReg 0x300800 1).reg 0x300800).toNat 0 2 ≠ 0)
    ∧ s.mem.pm = zeroDesc :: [] ∧ zeroDesc.stm = false ∧ zeroDesc.moving = false ∧ zeroDesc.get 0 0 2 = 2 ∧ zeroDesc.slice = 1 ∧ s.mem.pmWait = [] ∧ s.pmRefused zeroDesc = false
    ∧ s.pmOpen zeroDesc = true := by decide +kernel
/-- R198, R201: a descriptor with a reserved bit ends REFUSED and counts no refused translation; one for a slice without a window
counts one (R315). -/
theorem test_page_mover_refused :
    let q := fun (d : PmDesc) => after (exec .pageMoverComplete { State.reset with mem := { State.reset.mem with pm := [d] } })
    (q ⟨[0x106, 0, 0, 0, 0, 1, 0, 0], false, none, false⟩).get MEM_PM_STATUS_RESULT = 1
    ∧ (q ⟨[0x106, 0, 0, 0, 0, 1, 0, 0], false, none, false⟩).ctr (SLC_REFUSE 1) = 0
    ∧ (q zeroDesc).get MEM_PM_STATUS_RESULT = 1 ∧ (q zeroDesc).ctr (SLC_REFUSE 1) = 1 ∧ (q zeroDesc).mem.pm = [] := by decide +kernel

/-! ### Streams -/

/-- Slice 1's engine enabled with a command in its ring, DMA open, streams 0 to 9 granted. -/
def streamState : State := (onRegs [(MEM_INIT_A_DONE, 1), (MEM_INIT_B_DONE, 1), (STM_SLC_CTRL_ENABLE 1, 1), (fBme, 1), (fLinkUp, 1), (SLC_STRM_COUNT_VALUE 1, 10)]).onStream 1 (fun r => { r with cmdProd := 5 })
/-- An entry of slice 1 in a state, with LEN and AVAIL. -/
def entryIn (st len avail : Nat) : List Byte := entPut (entPut (entPut (entPut (List.replicate 128 0) 0 0 3 st) 0 3 6 1) 1 0 21 len) 2 0 21 avail
theorem test_witness_engineReady : engineReady 1 (some (9 : BitVec 20).toNat) streamState ∧ engineReady 1 none streamState
    ∧ engineReady 1 (some (10 : BitVec 20).toNat) streamState := by
  unfold engineReady; decide +kernel
theorem test_witness_StreamEntryCommands : streamState.ownsStream 1 9 = true ∧ streamState.ownsStream 1 10 = false
    ∧ entState (streamState.entryHome 9) = 0
    ∧ (let s := streamState.setEntry 9 (entryIn 2 3 3)
       let e := s.entryHome 9
       (entState e = 2 ∧ entLen e = 3 ∧ entAvail e = 3 ∧ entAvail e - entLen e + 1 ≤ 2 ^ profInLog (s.stream 1).prof)
         ∧ entGet e 17 12 1 = 0 ∧ mapGet (fun _ => 0) (s.stream 1).batch 4095 = 0 ∧ s.pagesUsed 1 e ≤ 2 ^ 13 - 1 ∧ (3 : Word).toNat ≤ entLen e)
    ∧ ((streamState.setEntry 9 (entryIn 2 3 3)).inStep 1 9 = false) := by decide +kernel
/-- R237: OPEN gives the stream to the slice and advances the ring's index. -/
theorem test_open_stream : let u := after (exec (.openStream 1 9 7 (List.replicate 128 0) 0) streamState)
    entState (u.entryHome 9) = 1 ∧ entGet (u.entryHome 9) 0 3 6 = 1 ∧ (u.stream 1).cmdCons = 1 ∧ (u.stream 1).outProd = 1 := by decide +kernel
theorem test_close_stream : (after (exec (.close 1 9 7 0) (streamState.setEntry 9 (entryIn 1 0 0)))).entryHome 9 = List.replicate 128 0 := by decide +kernel
/-- A profile whose operand 0 has a kind and whose free rings have 256 entries. -/
def profOf (kind : Byte) : List Byte := List.replicate 0x40 0 ++ [8] ++ List.replicate 0x7BF 0 ++ [kind] ++ List.replicate 0x7FF 0
/-- Step 0 of slice 1 with operand 0 left. -/
def decodeState (kind : Byte) : State := ((onRegs [(MEM_INIT_A_DONE, 1), (MEM_INIT_B_DONE, 1)]).onStream 1 (fun r => { r with prof := profOf kind })).onSlice 1 (fun x =>
  { x with steps := [{ StepRt.fresh 0 with decodeLeft := [0] }] })
theorem test_witness_StreamPagesAndDecode :
    ((streamState.stream 1).level true + (1 : Word).toNat ≤ 2 ^ profFreeLog (streamState.stream 1).prof
      ∧ (let o := leField (natToBytes 8 0x1000) 0 8; o % 256 = 0 ∧ o < 2 ^ 40 ∧ o % 2 ^ 28 + 256 * rowBytes (streamState.stream 1).prof ≤ 2 ^ 28))
    ∧ (let s := streamState.onStream 1 (fun r => { r with waiting := [⟨3, 9, 0, 1, []⟩] })
       s.flag (STM_SLC_CTRL_ENABLE 1) = true ∧ (s.stream 1).cmdCons ≠ (s.stream 1).cmdProd ∧ s.dmaOpen = true ∧ (s.stream 1).waiting ≠ []
         ∧ s.tiersOpen = true ∧ (s.put (DSP_SLC_STATE_STATE 1) 2).dspStoppedNow 1 = false)
    ∧ (State.reset.get (DSP_SLC_STATE_STATE 1) = 0 ∧ (onRegs [(DSP_SLC_STATE_STATE 1, 2)]).get (DSP_SLC_STATE_STATE 1) = 2)
    ∧ (∀ k ∈ [1, 2, 3, 4], opKind ((decodeState (BitVec.ofNat 8 k)).stream 1).prof 0 = k ∧ (decodeState (BitVec.ofNat 8 k)).tiersOpen = true
        ∧ (((decodeState (BitVec.ofNat 8 k)).slice 1).steps.find? (fun r => (decodeState (BitVec.ofNat 8 k)).opStarts 1 0 r)).isSome = true) := by decide +kernel
theorem test_stream_disable : (after (exec (.streamEnable 1 false) streamState)).get (STM_SLC_CTRL_ENABLE 1) = 0 := by decide +kernel

/-! ### Lanes -/

/-- Cluster 5 runs a task of slice 1 in lanes 0 and 3. -/
def laneState : State := (onRegs [(BBA_CL_STATUS_STATE 5, 2)]).onCluster 5 (fun _ => { ClusterRt.reset with mask := 9 })
theorem test_witness_laneReady : laneReady 5 laneState := by unfold laneReady; decide +kernel
/-- The cluster after a command, all results landed. -/
def landed (i : Instr) (s : State) : ClusterRt := ClusterRt.settle 8 ((after (exec i s)).cluster 5)
/-- The same state with V1 = `x` and V2 = `y` in lane 3. -/
def laneRegs (x y : Word) : State := laneState.onCluster 5 (fun k => { k with v := mapSet (fun _ => 0) (mapSet (fun _ => 0) k.v (64 * 3 + 1) x) (64 * 3 + 2) y })
theorem test_lane_add : (landed (.add 5 ⟨4, 1, 2, 0⟩) (laneRegs 0xFFFFFFFF 3)).reg 3 4 = 2 ∧ (landed (.add 5 ⟨4, 1, 2, 0⟩) (laneRegs 0xFFFFFFFF 3)).reg 1 4 = 0 := by
  decide +kernel
/-- R256: CADD that clamps a half sets SAT. -/
theorem test_lane_sat : (((after (exec (.cadd 5 ⟨4, 1, 2, 0⟩) (laneRegs 0x7FFF0001 0x00010001))).cluster 5).flag 3).getLsbD 0 = true := by decide +kernel
theorem test_lane_mac : ((after (exec (.mac 5 ⟨0, 1, 2, false, false⟩) (laneRegs 3 0xFFFE))).cluster 5).pend.length = 2 := by decide +kernel
theorem test_lane_store_load : let s := after (exec (.st 5 ⟨1, 0, 0, 0, 0, false⟩) (laneRegs 0xA1B2C3D4 0))
    (landed (.ld 5 ⟨6, 0, 0, 0, 0, false⟩) s).reg 3 6 = 0xA1B2C3D4 := by decide +kernel
theorem test_witness_LaneMemInstructions : (∀ l, l < 64 → inMask (laneState.cluster 5) l → rowNote ((laneState.cluster 5).bank l)
    (accessRow laneState 5 l ⟨1, 0, 0, 0, 0, false⟩) = .clean) := by unfold accessRow; decide +kernel
theorem test_witness_LaneControlAndIssue :
    (laneState.cluster 5).branched = false
    ∧ (let s := laneState.onCluster 5 (fun x => { x with loops := [⟨2, 7, false, true, 0⟩], lc := mapSet (fun _ => 0) x.lc 2 3 })
       (s.cluster 5).loops = ⟨2, 7, false, true, 0⟩ :: [] ∧ mapGet (fun _ => 0) (s.cluster 5).lc 2 = 3)
    ∧ ((laneState.put (BBA_EVENT_LO_FLAGS 5) 4).evFlag 5 2 = true ∧ laneState.evFlag 5 2 = false)
    ∧ ((laneState.put HOL_TAMPER_WIPING 1).put (BBA_BANK_OWN_SEAL 5 0) 1).sealStops 5 = true
    ∧ (State.reset.taskRuns 5 = false ∧ State.reset.sealStops 5 = false ∧ laneState.taskRuns 5 = true ∧ ((laneState.onCluster 5 (fun x => { x with idle := 3 })).cluster 5).idle = 3)
    ∧ (rowNote (laneState.cluster 5).imem (laneState.cluster 5).pc = .clean ∧ bundleOf ((laneState.cluster 5).imem.readWord 0).data = some bundleNop)
    ∧ (let s := laneState.onCluster 5 (fun x => { x with halted := true })
       s.clState 5 = 2 ∧ (s.cluster 5).halted = true)
    ∧ ((laneState.put HOL_TAMPER_WIPING 1).put (BBA_BANK_OWN_SEAL 5 3) 1).sealStops 5 = true := by decide +kernel
theorem test_lane_endl : let s := laneState.onCluster 5 (fun x => { x with loops := [⟨2, 7, false, true, 0⟩], lc := mapSet (fun _ => 0) x.lc 2 3 })
    let y := (after (exec (.endl 5 2) s)).cluster 5
    y.pc = 7 ∧ mapGet (fun _ => 0) y.lc 2 = 2 ∧ y.rrb = 31 := by decide +kernel
theorem test_task_end : (after (exec (.taskEnd 5) (laneState.onCluster 5 (fun x => { x with halted := true })))).clState 5 = 1 := by decide +kernel

/-! ### Clusters, helpers and the radio pipeline -/

/-- Cluster 5 on and IDLE with task 3 (lane 3 of slice 1, bundle 9) queued and its bank owned. -/
def taskState : State := (onRegs [(BBA_CL_STATUS_STATE 5, 1), (PWR_DOM_CL_ON 0, 32), (BBA_TASK_CFG_VALID 3, 1), (BBA_TASK_CFG_CL 3, 5), (BBA_TASK_CFG_PC 3, 9),
  (BBA_TASK_CFG_SLICE 3, 1), (BBA_TASK_MASK_LO_MASK 3, 8), (BBA_BANK_OWN_OWNED 5 3, 1), (BBA_BANK_OWN_OWNER 5 3, 1), (BBA_CL_WINDOW_CLUSTER, 5)]).onCluster 5
    (fun x => { x with queue := [3] })
/-- A post of event 2 at cluster 5 with action `act` and argument `arg`. -/
def postState (act arg : Nat) : State := (((taskState.put (BBA_POST_ACT 5 2) act).put (BBA_POST_ARG 5 2) arg).put (BBH_Q_CFG_EN 7) 1 |>.put (BBH_Q_CFG_MODE 7) 1).onCluster 5
  (fun x => { x with posts := [1, 2, 2] })
theorem test_witness_TaskStartsAndPosts :
    ((taskState.cluster 5).queue = 3 :: [] ∧ taskState.clState 5 = 1 ∧ taskState.loadHolds 5 (taskState.get (BBA_TASK_CFG_PC 3)) = false
      ∧ (∀ l, l < 64 → (taskState.taskMask 3).getLsbD l = true → taskState.ownsBank (taskState.get (BBA_TASK_CFG_SLICE 3)) 5 l = true))
    ∧ ((taskState.put (BBA_TASK_MASK_LO_MASK 3) 24).taskMask 3).getLsbD 4 = true
    ∧ (taskState.put (BBA_TASK_MASK_LO_MASK 3) 24).ownsBank 1 5 4 = false
    ∧ (taskState.flag (BBA_TASK_CFG_VALID ((3 : Word).toNat % 1024)) = true ∧ taskState.clusterOn 5 = true ∧ State.reset.clusterOn 5 = false)
    ∧ (∀ a ∈ [1, 2, 3, 4, 5], (postState a 7).nextPost 5 ((postState a 7).cluster 5).posts = some (2, [2]) ∧ (postState a 7).postAct 5 2 = a)
    ∧ ((postState 1 3).get (BBA_POST_ARG 5 2) % 1024 = 3 ∧ (postState 3 7).flag (BBH_Q_CFG_EN 7) = true ∧ (postState 3 7).flag (BBH_Q_CFG_MODE 7) = true
      ∧ (postState 4 9).flag (BBA_NRX_ARMED 9) = false ∧ taskState.winCluster = 5) := by decide +kernel
theorem test_task_start : let u := after (exec (.taskStart 5) taskState)
    u.clState 5 = 2 ∧ (u.cluster 5).pc = 9 ∧ (u.cluster 5).mask = 8 ∧ (u.cluster 5).queue = [] := by decide +kernel
/-- R282: a KICK of one descriptor (count field 0) at queue 7. -/
theorem test_post_kick : ((after (exec (.postKick 5) (postState 3 7))).helper 7).prod = 1 := by decide +kernel
theorem test_witness_BanksAndClusters :
    ((0x300 : Word).getLsbD 16 = false ∧ (0x300 : Word).getLsbD 17 = false ∧ taskState.flag (BBA_BANK_OWN_PEND 5 4) = false
      ∧ taskState.flag (BBA_BANK_OWN_OWNED 5 4) = false ∧ taskState.taken (bitField (0x300 : Word).toNat 8 6) = false ∧ taskState.flag (BBA_BANK_OWN_DEGRADED 5 4) = false)
    ∧ (taskState.flag (BBA_BANK_OWN_OWNED 5 3) = true)
    ∧ ((0x20000 : Word).getLsbD 15 = false ∧ taskState.flag HOL_TAMPER_WIPING = false)
    ∧ (let s := taskState.put (BBA_BANK_OWN_PEND 5 3) 1
       s.flag (BBA_BANK_OWN_PEND 5 3) = true ∧ s.laneBusy 5 3 = false ∧ s.flag (BBA_BANK_OWN_SEAL 5 3) = false
         ∧ (s.put (BBA_BANK_OWN_SEAL 5 3) 1).flag (BBA_BANK_OWN_SEAL 5 3) = true ∧ s.clusterOn 5 = true ∧ State.reset.clusterOn 5 = false)
    ∧ (let s := ((taskState.put (BBA_BIST_CTRL_BG_EN 5) 1).put (BBA_BIST_STATUS_LANE 5) 63).put (BBA_BIST_STATUS_CHUNK 5) 4
       s.clusterOn 5 = true ∧ s.flag (BBA_BIST_CTRL_BG_EN 5) = true ∧ s.get (BBA_BIST_STATUS_CHUNK 5) = 4 ∧ s.get (BBA_BIST_STATUS_LANE 5) = 63)
    ∧ (laneState.put BBA_CL_WINDOW_CLUSTER 5).clState 5 = 2
    ∧ (let s := taskState.onCluster 5 (fun x => { x with queue := [] })
       s.clusterOn 5 = true ∧ s.clState 5 = 1 ∧ (s.cluster 5).queue = [] ∧ (s.cluster 5).ahead = false ∧ s.noMarkWithin 5 (s.get BBA_WAKE_CFG_OFF_MIN_US) = true) := by decide +kernel
theorem test_claim : let u := after (exec (.claim 4 0x300) taskState)
    u.get (BBA_BANK_OWN_OWNER 5 4) = 3 ∧ u.flag (BBA_BANK_OWN_OWNED 5 4) = true := by decide +kernel
theorem test_repair_refused : (after (exec (.bankRepairWrite 0 0x80000001) (laneState.put BBA_CL_WINDOW_CLUSTER 5))).flag (fLockWr 0x600004) = true := by decide +kernel

/-- A descriptor of a kind, its other words zero. -/
def descOf (kind : Nat) : List Word := BitVec.ofNat 32 kind :: List.replicate 15 0
/-- Helper queue 7 enabled for a class, a descriptor of its own ring ready; its ring in tier A of slice 0. -/
def helperState (cls kind : Nat) : State :=
  let s := onRegs [(MEM_INIT_A_DONE, 1), (MEM_INIT_B_DONE, 1), (MEM_SLC_A_COUNT 0, 1), (MEM_XT_VALID 0, 1), (SLC_STATE_STATE 0, 1), (BBH_Q_CFG_EN 7, 1), (BBH_Q_CFG_CLASS 7, cls), (BBH_Q_CFG_LOG2 7, 4)]
  ({ s with mem := { s.mem with tierA := (s.mem.tierA.writeM 0 (cleanM (natToBytes 4 kind))).1 } } : State).onHelper 7 (fun h => { h with prod := 1 })
theorem test_witness_HelperQueues :
    (State.reset.flag (BBH_Q_CFG_EN 63) = false ∧ (0x44 : Word).getLsbD 6 = true ∧ bitField (0x44 : Word).toNat 0 3 = 4)
    ∧ (∀ k ∈ List.range 10, let s := helperState ((kindClass k).getD 0) k
        s.hqTurn 7 = true ∧ s.tiersOpen = true ∧ s.engineFree (s.get (BBH_Q_CFG_CLASS 7)) = true ∧ (s.hqDesc 7).1 = some (descOf k) ∧ df (descOf k) 0 0 4 = k ∧ df (descOf k) 0 20 12 = 0)
    ∧ (taskState.refOk 1 (5 + 3 * 2 ^ 7 + 2 ^ 33) 0 16 = true)
    ∧ (let s := (onRegs [(MEM_INIT_A_DONE, 1), (MEM_INIT_B_DONE, 1)]).onHelper 7 (fun h => { h with jobs := [⟨0, descOf 0, 0, 0, 0, none⟩] })
       s.tiersOpen = true ∧ (s.helper 7).jobs[0]? = some ⟨0, descOf 0, 0, 0, 0, none⟩ ∧ df (descOf 0) 0 5 1 = 0) := by decide +kernel
theorem test_helper_nop : let u := after (exec (.nop 7) (helperState 0 0))
    (u.helper 7).cons = 1 ∧ (u.helper 7).jobs.length = 1 := by decide +kernel
/-- R287: a DMA of length 0 is refused. -/
theorem test_helper_dma_refused : ((after (exec (.dma 7) (helperState 0 1))).helper 7).jobs.map (fun j => j.status) = [1] := by decide +kernel
/-- Reception of carrier 0's symbol 3 of entry 7, all of its one resource block written; stage 9 has outcome 1. -/
def radioState : State :=
  let s := onRegs [(BBH_FH_MAP_CFG_EN 7, 1), (BBH_CAR_CFG_NRB 0, 1), (BBA_PROG_STATUS_BUSY, 1), (BBA_NRX_ARMED 9, 1), (BBH_FH_MAP_STR_EVV 7, 1)]
  { s with radio := { s.radio with syms := [⟨7, 3, [0], [], false⟩], stageRes := mapSet (fun _ => 0) [] 9 1 } }
/-- Egress queue 2 of a port in use and UP, with a message to leave at time 0. -/
def egressState (now : Nat) : State :=
  let s := (onRegs [(TSH_TXQ_CFG_EN 2, 1), (ETH_PORT_STATUS_STATE 0, 2), (ETH_PORT_STATUS_FEC_LOCK 0, 1)]).onTxq 2 (fun x => { x with msgs := [⟨0, 7, 0, List.replicate 64 0⟩] })
  { s with time := { s.time with raw := now, counts := true } }
theorem test_witness_RadioPipeline :
    (radioState.flag (BBH_FH_MAP_CFG_EN 7) = true ∧ radioState.fhSym 7 (radioState.gWrap 7 (3 + 286720)) = some ⟨7, 3, [0], [], false⟩
      ∧ (∀ p, p < radioState.get (BBH_CAR_CFG_NRB (radioState.get (BBH_FH_MAP_CFG_CAR 7))) → p ∈ [0]))
    ∧ ((egressState 0).txHead 2 = some (.msg 2 ⟨0, 7, 0, List.replicate 64 0⟩) ∧ (egressState 0).txIsLate 0 (.msg 2 ⟨0, 7, 0, List.replicate 64 0⟩) = false
      ∧ (((egressState 0).txStart 0 0).ethPort 0).wire.isSome = true
      ∧ (egressState (2001 * 2 ^ 32)).txIsLate 0 (.msg 2 ⟨0, 7, 0, List.replicate 64 0⟩) = true)
    ∧ (mapGet (fun _ => 0) radioState.radio.stageRes 9 = 1)
    ∧ (State.reset.flag BBA_PROG_STATUS_BUSY = false ∧ radioState.flag BBA_PROG_STATUS_BUSY = true
      ∧ (linkUp.progCheck false [] false).1 = .inl (1, 0) ∧ (onRegs [(fBme, 1), (fLinkUp, 1)]).dmaOpen = true)
    ∧ (let s := (taskState.put BBA_PROG_STATUS_BUSY 1).onRadio (fun r => { r with progAt := (5, 1, 0) })
       s.radio.progAt = (5, 1, 0) ∧ s.clState 5 ≠ clRun ∧ s.clusterOn 5 = true ∧ (s.put (BBA_CL_STATUS_STATE 5) 2).clState 5 = clRun) := by decide +kernel
theorem test_symbol_complete : let u := after (exec (.fhSymbolComplete 7 3) radioState)
    u.radio.syms = [⟨7, 3, [0], [], true⟩] ∧ u.evFlag 0 0 = true := by decide +kernel

/-! ### Slices -/

/-- Slice 1 FREE with a valid PASID, a weight and a mailbox size, no grants. -/
def freeSlice : State := onRegs [(SLC_PASID_VALID 1, 1), (SLC_PASID_PASID 1, 7), (SLC_WEIGHT_WEIGHT 1, 1), (SLC_WEIGHT_MBX_LOG2 1, 4)]
theorem test_witness_no_bank : (freeSlice.put (SLC_STATE_STATE 1) 2).hasBank 1 = false := by
  have h : ∀ c l, c < 128 → l < 64 → (freeSlice.put (SLC_STATE_STATE 1) 2).get (BBA_BANK_OWN_OWNED c l) = 0 := fun c l hc hl =>
    Laws.get_unwritten (lo := 0x20000000) (hi := 0x30000000) (by decide +kernel) (by simp only [BBA_BANK_OWN_OWNED]; omega) (by simp only [BBA_BANK_OWN_OWNED]; omega)
      (Laws.bankOwn_reset c l hc hl)
  simp only [State.hasBank, List.any_eq_false, List.mem_range, List.any_eq_true, not_exists, not_and]
  intro c hc l hl
  simp [State.ownsBank, State.flag, h c l hc hl]
theorem test_witness_SliceLifecycle :
    (freeSlice.taken 1 = false ∧ freeSlice.createCause 1 = none)
    ∧ (State.reset.taken 1 = false ∧ State.reset.createCause 1 = some 1)
    ∧ ((freeSlice.put (SLC_STATE_STATE 1) 1).taken 1 = true ∧ (freeSlice.put (SLC_STATE_STATE 1) 1).live 1 = true ∧ State.reset.live 1 = false)
    ∧ (let s := freeSlice.put (SLC_STATE_STATE 1) 2
       s.get (SLC_STATE_STATE 1) ∈ [2, 3] ∧ s.waitGroups 1 = ([], []))
    ∧ (State.reset.flag (SLC_LOG_CTRL_EN 3) = false ∧ (0x141 : Word).getLsbD 9 = false ∧ (0x141 : Word).getLsbD 8 = true
      ∧ State.reset.flag (SLC_LOG_CTRL_SWAP_BUSY 3) = false ∧ (onRegs [(SLC_LOG_CTRL_SWAP_BUSY 3, 1)]).flag (SLC_LOG_CTRL_SWAP_BUSY 3) = true)
    ∧ ((onRegs [(DSP_SLC_STATE_STATE 1, 2)]).xferOk 1 = false ∧ tierState.xferOk 1 = true ∧ tierState.tiersOpen = true
      ∧ (∀ k, k < 4 → tierState.flag (SLC_LOG_CTRL_EN k) = false)) := by decide +kernel
theorem test_create : let u := after (exec (.create 1) freeSlice)
    u.live 1 = true ∧ u.get (SLC_STATE_CAUSE 1) = 0 := by decide +kernel
theorem test_create_refused : (after (exec (.create 1) State.reset)).get (SLC_STATE_CAUSE 1) = 1 := by decide +kernel
theorem test_log_swap : let u := after (exec (.swap 2) State.reset)
    u.get (SLC_LOG_CTRL_ACTIVE 2) = 1 ∧ u.flag (SLC_LOG_CTRL_SWAP_BUSY 2) = true := by decide +kernel
/-- Slice 1 live with mailbox rings of 16, its stream engine enabled, helper queue 7 and Ethernet queues 300 its own. -/
def pageState : State := onRegs [(SLC_STATE_STATE 1, 1), (SLC_WEIGHT_MBX_LOG2 1, 4), (STM_SLC_CTRL_ENABLE 1, 1), (BBH_Q_CFG_EN 7, 1), (BBH_Q_CFG_SLICE 7, 1),
  (BBH_Q_CFG_LOG2 7, 4), (SLC_ETHTX_BASE 1, 300), (SLC_ETHTX_COUNT 1, 1), (SLC_ETHRX_BASE 1, 300), (SLC_ETHRX_COUNT 1, 1), (TSH_TXQ_CFG_EN 300, 1), (TSH_RXQ_CFG_EN 300, 1),
  (TSH_TXQ_CFG_LOG2 300, 4), (TSH_RXQ_CFG_LOG2 300, 4)]
theorem test_witness_DoorbellWrites : let s := pageState
    s.live 1 = true ∧ State.reset.live 1 = false
    ∧ inRing (s.get (SLC_MBX_REQ_PROD_INDEX 1)) (s.get (SLC_MBX_REQ_CONS_INDEX 1)) (2 ^ s.get (SLC_WEIGHT_MBX_LOG2 1)) 16
    ∧ ¬ inRing (s.get (SLC_MBX_REQ_PROD_INDEX 1)) (s.get (SLC_MBX_REQ_CONS_INDEX 1)) (2 ^ s.get (SLC_WEIGHT_MBX_LOG2 1)) 17
    ∧ (let s2 := s.put (SLC_MBX_RSP_PROD_INDEX 1) 5
       (5 + 2 ^ 32 - s2.get (SLC_MBX_RSP_CONS_INDEX 1)) % 2 ^ 32 ≤ 16
        ∧ (5 + 2 ^ 32 - s2.get (SLC_MBX_RSP_CONS_INDEX 1)) % 2 ^ 32 ≤ (s2.get (SLC_MBX_RSP_PROD_INDEX 1) + 2 ^ 32 - s2.get (SLC_MBX_RSP_CONS_INDEX 1)) % 2 ^ 32)
    ∧ (s.flag (STM_SLC_CTRL_ENABLE 1) = true ∧ inRing (s.stream 1).cmdProd (s.stream 1).cmdCons (2 ^ profCmdLog (s.stream 1).prof) 1)
    ∧ (s.hqSlice 7 = 1 ∧ s.flag (BBH_Q_CFG_EN 7) = true ∧ s.flag (BBH_Q_CFG_MODE 7) = false ∧ inRing (s.helper 7).prod (s.helper 7).cons (2 ^ s.get (BBH_Q_CFG_LOG2 7)) 16)
    ∧ (0 < (s.txRange 1).2 ∧ s.flag (TSH_TXQ_CFG_EN 300) = true ∧ inRing (s.txq 300).prod (s.get (TSH_TXQ_STATUS_CONS 300)) (2 ^ s.get (TSH_TXQ_CFG_LOG2 300)) 16)
    ∧ (0 < (s.rxRange 1).2 ∧ s.flag (TSH_RXQ_CFG_EN 300) = true ∧ inRing (s.rxq 300).prod (s.get (TSH_RXQ_STATUS_CONS 300)) (2 ^ s.get (TSH_RXQ_CFG_LOG2 300)) 16) := by
  unfold inRing; decide +kernel
theorem test_doorbell : let u := after (exec (.mbxReqProd 1 16) pageState)
    u.get (SLC_MBX_REQ_PROD_INDEX 1) = 16 ∧ u.flag (SLC_EVENT_MBX_REQ 1) = true
      ∧ (after (exec (.mbxReqProd 1 17) pageState)).flag (SLC_EVENT_DB_REF 1) = true := by decide +kernel

/-! ### The cyclic table, save and restore -/

theorem test_witness_bank_passes : (onRegs [(SLC_STATE_STATE 0, 1)]).bankErr 1 = none := by
  have h : ∀ j w, j < 1280 → w < 8 → (onRegs [(SLC_STATE_STATE 0, 1)]).winWord 1 j w = 0 := fun j w hj hw =>
    Laws.get_unwritten (lo := 0x280000) (hi := 0x2A0000) (by decide +kernel) (by simp only [DSP_CYC_WIN_WORD]; omega) (by simp only [DSP_CYC_WIN_WORD]; omega)
      (Laws.cycWin_reset 1 j w (by decide) hj hw)
  have h1 : (List.range 1280).find? (fun j => (onRegs [(SLC_STATE_STATE 0, 1)]).winReserved 1 j) = none := by
    rw [List.find?_eq_none]
    intro j hj
    have := List.mem_range.mp hj
    simp [State.winReserved, h j 6 this (by decide), h j 7 this (by decide)]
  have h2 : (List.range 1280).find? (fun j => (onRegs [(SLC_STATE_STATE 0, 1)]).winBadGroup 1 j) = none := by
    rw [List.find?_eq_none]
    intro j hj
    have := List.mem_range.mp hj
    simp only [State.winBadGroup, List.any_eq_true, not_exists, not_and, List.mem_range]
    intro g hg
    simp [State.winNames, h j (g / 32) this (by omega)]
  rw [State.bankErr, h1, h2]
  decide +kernel
theorem test_witness_CyclicTableAndPreemption :
    ((1 : Nat) ≠ State.reset.get DSP_CYC_CTRL_ACTIVE ∧ State.reset.flag DSP_CYC_CTRL_PEND = false ∧ (0 : Nat) = State.reset.get DSP_CYC_CTRL_ACTIVE)
    ∧ (State.reset.bankErr 1 = some (1, 0))
    ∧ (let s := onRegs [(SLC_STATE_STATE 0, 1)]
       s.live 0 = true ∧ ({ s with cyc := { s.cyc with valid := true } } : State).cyc.valid = true ∧ s.cyc.valid = false)
    ∧ (({ State.reset with time := { TimeRt.reset with counts := true } } : State).time.counts = true ∧ State.reset.time.counts = false ∧ State.reset.cyc.lastWin ≠ some State.reset.windowNow ∧ ({ State.reset with cyc := { CycRt.reset with lastWin := some 0 } } : State).cyc.lastWin = some State.reset.windowNow)
    ∧ (State.reset.get (DSP_GRP_STATE_STATE 3) ∉ [4, 5, 7] ∧ State.reset.quarantined 3 = false)
    ∧ (let s := (onRegs [(DSP_GRP_STATE_STATE 3, 4)]).onGroup 3 (fun g => { g with retPend := true })
       s.get (DSP_GRP_STATE_STATE 3) = 4 ∧ (s.group 3).retPend = true ∧ (s.group 3).rrunning = false)
    ∧ (let s := readyState.put (DSP_SLC_SAVE_SAVE_PEND 1) 1
       s.flag (DSP_SLC_SAVE_SAVE_PEND 1) = true ∧ s.get (DSP_GRP_STATE_SLICE 0) = 1 ∧ (s.sliceGroups 1).contains 0 = true ∧ s.get (DSP_GRP_STATE_STATE 0) = 3
         ∧ (s.group 0).running = false ∧ s.groupQuiet 0 = true ∧ s.saveFits 0 = true)
    ∧ ((onRegs [(DSP_GRP_STATE_STATE 3, 5)]).get (DSP_GRP_STATE_STATE 3) = 5 ∧ (onRegs [(DSP_GRP_STATE_STATE 3, 5)]).saveTurn 3 = true
      ∧ (onRegs [(MEM_INIT_A_DONE, 1), (MEM_INIT_B_DONE, 1), (DSP_GRP_STATE_STATE 3, 5)]).tiersOpen = true)
    ∧ ((onRegs [(DSP_GRP_STATE_STATE 3, 7)]).get (DSP_GRP_STATE_STATE 3) = 7 ∧ (onRegs [(DSP_GRP_STATE_STATE 3, 7)]).saveTurn 3 = true)
    ∧ (let s := onRegs [(DSP_GRP_STATE_STATE 3, 5), (DSP_GRP_STATE_STATE 2, 7), (PLN_RADIO_GROUPS_LO_LEND, 4)]
       s.saveTurn 3 = false ∧ s.saveTurn 2 = true)
    ∧ (readyState.taken 1 = true ∧ readyState.get (DSP_SLC_STATE_STATE 1) ∉ [0, 5, 7] ∧ readyState.sealedSlice 1 = false)
    ∧ ((readyState.put (DSP_SLC_STATE_STATE 1) 5).get (DSP_SLC_STATE_STATE 1) = 5) := by decide +kernel
theorem test_save : (after (exec (.save 1) readyState)).flag (DSP_SLC_SAVE_SAVE_PEND 1) = true := by decide +kernel
theorem test_save_begin : (after (exec (.groupSaveBegin 0) (readyState.put (DSP_SLC_SAVE_SAVE_PEND 1) 1))).get (DSP_GRP_STATE_STATE 0) = 5 := by decide +kernel
theorem test_switch_error : (after (exec .switch State.reset)).get DSP_CYC_CTRL_ERR = 1 := by decide +kernel

/-! ### Dravsel -/

/-- A packet of a type and flow from device 6 to device 5. -/
def pkt' (typ flow : Nat) : Packet := ⟨typ, 1, 0, flow, 3, false, false, 10, 6, 5, 1, 0, 3 * 2 ^ 40, 77, 0, 0, 0, []⟩
theorem test_witness_DravselPortsTrainAndFall :
    (let s := onRegs [(PWR_DOM_DRP_ON, 2048), (DRV_PORT_CTRL_EN 11, 1), (DRV_PORT_STATUS_STATE 11, 4)]
     s.drpOn 11 = true ∧ s.flag (DRV_PORT_CTRL_EN 11) = true ∧ s.portUp 11 = true)
    ∧ (let s := onRegs [(DRV_PORT_CTRL_EN 11, 1), (DRV_PORT_CTRL_AUTO 11, 1), (DRV_PORT_STATUS_STATE 11, 5)]
       s.flag (DRV_PORT_CTRL_AUTO 11) = true ∧ s.get (DRV_PORT_STATUS_STATE 11) ∈ [1, 5])
    ∧ (let s := onRegs [(DRV_PORT_CTRL_EN 11, 1), (DRV_PORT_PEER_EXPECT 11, 1), (DRV_PORT_PEER_DEV 11, 9), (DRV_PORT_STATUS_STATE 11, 2)]
       s.get (DRV_PORT_STATUS_STATE 11) = 2 ∧ s.flag (DRV_PORT_CTRL_EN 11) = true ∧ ((s.put DRV_EPOCH_VALID 1).put DRV_EPOCH_ADMITTED 1).admitted = true
         ∧ s.flag (DRV_PORT_PEER_EXPECT 11) = true ∧ s.get (DRV_PORT_PEER_DEV 11) ≠ 8)
    ∧ ((∀ p, p < 12 → State.reset.get (DRV_PORT_STATUS_STATE p) ≤ 1) ∧ 2 ≤ (onRegs [(DRV_PORT_STATUS_STATE 11, 2)]).get (DRV_PORT_STATUS_STATE 11)) := by
  decide +kernel
/-- R354: idle flits take link sequence numbers; R382: a struck one goes again. -/
theorem test_idle_flit : let u := after (exec (.idleFlit 11) (onRegs [(DRV_PORT_STATUS_STATE 11, 4), (DRV_INJECT_ARM, 1), (DRV_INJECT_POINT, 1), (DRV_INJECT_PORT, 11)]))
    u.out.head? = some (.flitAgain 11 0) ∧ (u.link 11).next = 1 ∧ (u.ctr (DRV_PORT_RETRY 11)).toNat = 1 := by decide +kernel
/-- R368: word 2 of a header: source 6, destination 5, mask 1; R355: RSP, then REQ0, then REQ2 by turns over the flows after flow 3. -/
theorem test_header : nth 0 (headerOf (pkt' 0 5)) 2 = 0x01005006 ∧ packetFit (pkt' 0 5) = pkt' 0 5
    ∧ (egressOrder id 3 [pkt' 0 2, pkt' 0 5, pkt' 0 5, { pkt' 0 9 with tc0 := true }, pkt' 0 4, pkt' 1 0]).map (fun p => p.flow) = [0, 9, 4, 5, 2, 5] := by decide +kernel
/-- R356: training leaves the port UP. -/
theorem test_port_trained : (after (exec (.drvPortTrained 11 9 2) (onRegs [(DRV_PORT_CTRL_EN 11, 1), (DRV_PORT_STATUS_STATE 11, 2)]))).portUp 11 = true := by decide +kernel
/-- Device 5 admitted, port 0 UP, devices 0 to 15 LIVE, region 3 the first 4 KiB of slice 1's tier A window, key 77. -/
def fabState : State := (((((tierState.put (SLC_STATE_STATE 1) 1).put DRV_SELF_DEV 5).put DRV_EPOCH_VALID 1).put DRV_EPOCH_ADMITTED 1).put (DRV_PORT_STATUS_STATE 0) 4).put (DRV_MEMBER_STATE 0 0) 0xAAAAAAAA
  |>.put (SLC_DRV_BASE 1) 3 |>.put (SLC_DRV_COUNT 1) 1 |>.put (DRV_REGION_CFG_VALID 3) 1 |>.put (DRV_REGION_CFG_SIZE 3) 12 |>.put (DRV_REGION_CFG_PERM 3) 31
  |>.put (DRV_REGION_CFG_ORDERED 3) 1 |>.put (DRV_REGION_KEY_KEY 3) 77 |>.put (DRV_ROUTE_PORTS 7) 1 |>.put (DRV_ROUTE_PORTS 6) 1
/-- A packet from device 6 for chunk 0 of region 3. -/
def pkt (typ op fop : Nat) : Packet := ⟨typ, op, fop, 5, 3, false, false, 10, 6, 5, 1, 0, 3 * 2 ^ 40, 77, 0, 0, 0, List.replicate 16 (9, false)⟩
/-- A staged floating ADD from this part itself. -/
def pktAdd : Packet := { pkt 0 2 0 with staged := true, src := 5 }
theorem test_witness_isNew : ∀ op ∈ [0, 1, 2, 3, 4], isNew (some 0) true (packetFit (pkt 0 op 0x20)) fabState := by
  unfold isNew comesIn
  intro op h
  simp only [List.mem_cons, List.mem_nil_iff, or_false] at h
  rcases h with rfl | rfl | rfl | rfl | rfl <;>
    exact ⟨⟨rfl, 0, rfl, by decide +kernel, by decide +kernel, by decide +kernel⟩, by decide +kernel, by decide +kernel, by decide +kernel, by decide +kernel, by decide +kernel, by decide +kernel,
      by decide +kernel, by decide +kernel⟩
/-- A request of this part to device 6, sent on port 0. -/
def pendOf6 : Pend := ⟨{ pkt 0 1 0 with dst := 6, flow := 6 }, 0, some 0, false, .unit 0 0 1 0 1, false, false⟩
/-- The same state with such requests. -/
def pendState (l : List Pend) : State := fabState.onDrv (fun r => { r with pend := l })
theorem test_witness_DravselRequests :
    fabState.tierOpen false = true ∧ (∀ op ∈ [0, 1, 2, 3, 4], fabState.fabCheck (pkt 0 op 0x20) = .inr ⟨pkt 0 op 0x20, 1, 0, 0, 0, false, 0⟩ ∧ fabState.fabNoRoom ⟨pkt 0 op 0x20, 1, 0, 0, 0, false, 0⟩ = false
        ∧ fabState.gateShut ⟨pkt 0 op 0x20, 1, 0, 0, 0, false, 0⟩ = false ∧ floatAdd (pkt 0 op 0x20) = false)
    ∧ (fabState.fabCheck pktAdd = .inr ⟨pktAdd, 1, 0, 0, 0, false, 0⟩ ∧ floatAdd pktAdd = true ∧ fabState.rankOf 1 5 = 0 ∧ fabState.nextRank 1 0 pktAdd = 0)
    ∧ (fabState.fabCheck { pkt 0 1 0 with key := 78 } = .inl 2)
    ∧ (let s := fabState.onDrv (fun r => { r with wins := mapSet (fun _ => Win.fresh) [] 12 ⟨10, [10, 11], []⟩ })
       (s.win (pkt 0 1 0)).applied = [10, 11] ∧ 10 ∉ (s.win (pkt 0 1 0)).refused ∧ (10 + 2 ^ 32 - (s.win (pkt 0 1 0)).f) % 2 ^ 32 < 4096)
    ∧ ((fabState.put (DRV_MEMBER_STATE 0 0) 0xAAAA8AAA).member 6 = memFenced ∧ fabState.member 6 ≠ memFenced)
    ∧ (let h : Held := ⟨pkt 0 1 0, 1, 0, 2, 0, false, 0⟩
       let s := (fabState.onSlice 1 (fun x => { x with steps := [StepRt.fresh 0] })).onDrv (fun r => { r with hold := [h] })
       s.drv.hold[0]? = some h ∧ s.released 1 0 = true ∧ h.kind = kindTile ∧ floatAdd h.pkt = false)
    ∧ (let h : Held := ⟨pkt 0 0 0, 1, 0, 0, 0, false, 0⟩
       let s := fabState.onDrv (fun r => { r with gated := [h] })
       s.drv.gated[0]? = some h ∧ s.gateShut h = false)
    ∧ (let s := pendState [pendOf6]
       (s.pendOf 6 6 10 = some pendOf6 ∧ s.drv.defq = [] ∧ s.drv.waitq = [] ∧ pendOf6.void = false ∧ s.admitted = true ∧ 6 ≠ s.self ∧ s.member 6 ≠ memFenced
         ∧ s.choosePort { pendOf6.pkt with epoch := 0 } 0 = some 0 ∧ s.choosePort { pendOf6.pkt with epoch := 0 } 1 = some 0)) := by decide +kernel
/-- R372: a write stores the chunk and is acknowledged. -/
theorem test_fabric_write : let u := after (exec (.reqWr (some 0) true (pkt 0 1 0)) fabState)
    (u.translate 1 .a 0).map (fun a => u.mem.tierA.byte a) = some 9 ∧ (u.win (pkt 0 1 0)).applied = [10] := by decide +kernel
theorem test_fabric_refused : (after (exec (.reqWr (some 0) true { pkt 0 1 0 with key := 78 }) fabState)).flag DRV_EVENT_REFUSED = true := by decide +kernel
/-- R398, R403: a fenced source is refused, and its window stays cleared. -/
theorem test_fabric_fenced : let s := fabState.put (DRV_MEMBER_STATE 0 0) 0xAAAA8AAA
    let u := after (exec (.reqWr (some 0) true (pkt 0 1 0)) s)
    s.member 6 = memFenced ∧ s.admitted = true ∧ u.flag DRV_EVENT_REFUSED = true ∧ (u.win (pkt 0 1 0)).applied = [] ∧ u.out = [] := by decide +kernel
theorem test_fabric_ack : ((after (exec (.ack (some 0) true { pkt 1 1 0 with flow := 6 }) (pendState [pendOf6]))).drv.pend) = [] := by decide +kernel
theorem test_fabric_spent : (after (exec (.rtoExpiry 6 false 10) (pendState [{ pendOf6 with attempt := 3 }]))).flag (DRV_DEST_STATUS_SUSPECT 6) = true := by decide +kernel
theorem test_witness_DravselForwardingAndEpochs :
    (let q := { pkt 0 1 0 with dst := 7 }
     q.dst ≠ fabState.self ∧ fabState.admitted = true ∧ q.hops ≠ 0 ∧ fabState.member q.dst ≠ memFenced ∧ fabState.choosePort { q with hops := 2 } 0 = some 0
       ∧ fabState.upPorts 8 = [] ∧ fabState.member 8 ≠ memFenced)
    ∧ ((fabState.onDrv (fun r => { r with fwd := [pkt 0 1 0] })).drv.fwd.length = 1)
    ∧ (let s := ((fabState.put (DSP_SLC_CTRL_COMMIT_MGROUP 1) 4).put (DRV_MCAST_CFG_COUNT 4) 2).put (DRV_MCAST_MEM_DEV 4 0) 5 |>.put (DRV_MCAST_MEM_DEV 4 1) 6
       s.ctrlSlice { pkt 4 0 0 with mgroup := 4 } = some 1 ∧ s.tagStep 1 3 = some 3 ∧ s.member 6 = memLive)
    ∧ (fabState.ctrlSlice (pkt 4 0 0) = none)
    ∧ ((0x20001 : Word).getLsbD 17 = true ∧ (0x20001 : Word).toNat % 65536 = (fabState.get DRV_EPOCH_EPOCH + 1) % 65536
      ∧ (∀ sl, sl < 64 → (fabState.slice sl).steps = [])
      ∧ (0x20003 : Word).toNat % 65536 ≠ (fabState.get DRV_EPOCH_EPOCH + 1) % 65536) := by decide +kernel
theorem test_witness_members : ∀ d, d < 4096 → fabState.memberIn 1 d ≠ 3 := by
  intro d hd
  have h : fabState.get (DRV_MEMBER_STATE 1 (d / 16)) = 0 :=
    Laws.get_unwritten (lo := 0xb60400) (hi := 0xb60800) (by decide +kernel) (by simp only [DRV_MEMBER_STATE]; omega) (by simp only [DRV_MEMBER_STATE]; omega)
      (Laws.member_reset 1 (d / 16) (by decide) (by omega))
  simp [State.memberIn, h, bitField]
theorem test_witness_ctrl_new : isNew (some 0) true { pkt 4 0 0 with flow := 255, mgroup := 4, step := 3, code := 1 } fabState := by
  unfold isNew comesIn
  exact ⟨⟨rfl, 0, rfl, by decide +kernel, by decide +kernel, by decide +kernel⟩, by decide +kernel, by decide +kernel, by decide +kernel, by decide +kernel, by decide +kernel,
      by decide +kernel, by decide +kernel⟩
/-- R400: an epoch number that is not the next is refused. -/
theorem test_apply_refused : let u := after (exec (.apply 0x20003) fabState)
    u.get DRV_EPOCH_EPOCH = 0 ∧ u.flag DRV_XPORT_EVENT_EPOCH_ERR = true := by decide +kernel

/-! ### Time -/

theorem test_witness_RateChangeIsContinuous : State.reset.time.raw < 2 ^ 96 ∧ (5 : Nat) < 2 ^ 96 := by decide
/-- Pulse output 3 enabled, periodic with a period of 100 ns, due at 0; T counts. -/
def pulseState (mode : Nat) : State :=
  let s := onRegs [(TIM_PULSE_CTRL_EN 3, 1), (TIM_PULSE_CTRL_MODE 3, mode), (TIM_PULSE_PERIOD_PERIOD 3, 100), (TIM_PULSE_WIDTH_WIDTH 3, 10), (TIM_CAP_CFG_EN 6, 1),
    (TIM_CAP_CFG_EDGE 6, 1), (TIM_PLL_REF0_OK, 1), (TIM_PLL_REF1_OK, 1)]
  { s with time := { s.time with counts := true, raw := 2 ^ 32, pulses := mapSet (fun _ => Pulse.idle) [] 3 ⟨some 0, 0, false⟩ } }
theorem test_witness_StepsAndReferences :
    (State.reset.stepValue.natAbs ≤ State.reset.get TIM_STEP_LIMIT_LIMIT_NS * 2 ^ 32)
    ∧ (let s := onRegs [(TIM_CTRL_LOCKED, 1), (TIM_STEP_VALUE 1, 5000), (TIM_STEP_LIMIT_LIMIT_NS, 4999)]
       ¬ (s.stepValue.natAbs ≤ s.get TIM_STEP_LIMIT_LIMIT_NS * 2 ^ 32 ∨ s.flag TIM_CTRL_LOCKED = false ∨ s.flag TIM_CTRL_OVR_NEXT = true))
    ∧ ((pulseState 1).flag (TIM_PULSE_CTRL_EN 3) = true ∧ (pulseState 1).flag (TIM_PULSE_CTRL_MODE 3) = true ∧ 0 < (pulseState 1).get (TIM_PULSE_PERIOD_PERIOD 3))
    ∧ ((pulseState 1).flag (refInOk 0) = true ∧ (pulseState 1).get TIM_PLL_REF_SEL = 0 ∧ (pulseState 1).flag (refInOk 1) = true)
    ∧ (({ pulseState 1 with time := { (pulseState 1).time with due := -5 } } : State).time.due ≠ 0)
    ∧ ((onRegs [(TIM_SYNCE_EN 1, 1), (ETH_PORT_STATUS_STATE 0, 2), (ETH_PORT_STATUS_FEC_LOCK 0, 1)]).ethUp 0 = true
      ∧ State.reset.ethInUse ((0x3F : Word).toNat / 2 % 32) = true ∧ (onRegs [(ETH_QUAD_CFG_MODE 7, 2)]).ethInUse 31 = false) := by decide +kernel
theorem test_step_go : let u := after (exec .stepGo (onRegs [(TIM_STEP_VALUE 1, 5)]))
    u.time.off = 0 ∧ u.idle.time.off = 5 * 2 ^ 32 ∧ u.flag TIM_CTRL_LOCKED = true ∧ u.get TIM_STEP_CNT_COUNT = 1 := by decide +kernel
theorem test_witness_PulsesAndCaptures :
    (let s := pulseState 1
     (s.pulse 3).next = some 0 ∧ s.time.counts = true ∧ s.flag (TIM_PULSE_CTRL_EN 3) = true ∧ 0 * 2 ^ 32 ≤ s.now ∧ (s.pulse 3).endAt ≤ s.raw)
    ∧ ((pulseState 1).flag (TIM_PULSE_CTRL_EN 2) = false ∧ ((pulseState 1).put (TIM_PULSE_WIDTH_WIDTH 2) 1).get (TIM_PULSE_WIDTH_WIDTH 2) < 2)
    ∧ (let s := ((pulseState 1).put (TIM_PULSE_CTRL_EN 3) 0)
       s.flag (TIM_PULSE_CTRL_EN 3) = false ∧ ¬ (s.get (TIM_PULSE_WIDTH_WIDTH 3) < 2) ∧ ¬ (s.get (TIM_PULSE_PERIOD_PERIOD 3) < 10 ∨ s.get (TIM_PULSE_PERIOD_PERIOD 3) ≤ s.get (TIM_PULSE_WIDTH_WIDTH 3))
         ∧ s.pulseStart 3 * 2 ^ 32 < s.now ∧ (s.put (TIM_PULSE_START_LO_START 3) 1).now ≤ (s.put (TIM_PULSE_START_LO_START 3) 1).pulseStart 3 * 2 ^ 32)
    ∧ ((pulseState 1).flag (TIM_CAP_CFG_EN 6) = true ∧ (pulseState 1).get (TIM_CAP_CFG_EDGE 6) = 1 ∧ ((pulseState 1).capture 6).length < 16
       ∧ (pulseState 1).edgeClose 6 0 = false ∧ ((pulseState 1).noteEdge 6 0).edgeClose 6 0x13FFFFFFF = true ∧ ((pulseState 1).noteEdge 6 0).edgeClose 6 0x140000000 = false)
    ∧ (let s := { pulseState 1 with time := { (pulseState 1).time with caps := mapSet (fun _ => []) [] 6 (List.replicate 16 ⟨true, 3, 5⟩) } }
       16 ≤ (s.capture 6).length ∧ s.capture 6 = ⟨true, 3, 5⟩ :: List.replicate 15 ⟨true, 3, 5⟩) := by decide +kernel
theorem test_pulse_fire : let u := after (exec (.pulseFire 3) (pulseState 1))
    u.flag (TIM_PULSE_CTRL_ACTIVE 3) = true ∧ (u.pulse 3).next = some 100 := by decide +kernel
theorem test_capture : ((after (exec (.captureEdge 6 true 2) (pulseState 0))).capture 6) = [⟨true, 0, 2 ^ 32 + 0x50000000⟩] := by decide +kernel

/-! ### Ethernet -/

/-- Port 0 UP with quad 0 on; queues 300 of LIVE slice 1; DMA open; a posted receive buffer; VLAN 0 of port 0 goes to receive queue 300. -/
def ethState : State :=
  (onRegs [(PWR_DOM_ETQ_ON, 255), (ETH_PORT_STATUS_STATE 0, 2), (ETH_PORT_STATUS_FEC_LOCK 0, 1), (ETH_PORT_CTRL_EN 0, 1), (SLC_STATE_STATE 1, 1), (SLC_ETHTX_BASE 1, 300),
    (SLC_ETHTX_COUNT 1, 1), (SLC_ETHRX_BASE 1, 300), (SLC_ETHRX_COUNT 1, 1), (TSH_TXQ_CFG_EN 300, 1), (TSH_RXQ_CFG_EN 300, 1), (TSH_TXQ_CFG_LOG2 300, 4),
    (TSH_TXQ_CFG_LEVEL 300, 1), (fBme, 1), (fLinkUp, 1), (ETH_PORT_CTRL_PROMISC 0, 1), (ETH_VLAN_MAP_VALID_E 0 0, 1), (ETH_VLAN_MAP_QUEUE_E 0 0, 300), (TSH_RXQ_STATUS_CONS 300, 0)]).onTxq 300
      (fun x => { x with prod := 1 }) |>.onRxq 300 (fun x => { x with prod := 1 })
/-- A descriptor of a frame of 60 bytes. -/
def txDesc (len : Nat) : List Byte := natToBytes 4 len ++ List.replicate 28 0
/-- A frame in queue 300 that has not started. -/
def txFrame (len launch : Nat) : TxFrame := ⟨wordsOf (natToBytes 4 (len + launch * 2 ^ 15) ++ List.replicate 28 0), 0, 1, 0, none, false, List.replicate len 5⟩
/-- Frames in queue 300. -/
def queued (l : List TxFrame) : State := ethState.onTxq 300 (fun x => { x with frames := l, fetched := 1 })
theorem test_witness_EthernetCommands :
    ((ethState.quadOn 7 = true ∧ ¬ ((2 : Nat) ≠ ethState.get (ETH_QUAD_CFG_MODE 7) ∧ ∃ i, i < 4 ∧ ethState.flag (ETH_PORT_CTRL_EN (4 * 7 + i)) = true))
      ∧ ((2 : Nat) ≠ ethState.get (ETH_QUAD_CFG_MODE 0) ∧ ∃ i, i < 4 ∧ ethState.flag (ETH_PORT_CTRL_EN (4 * 0 + i)) = true))
    ∧ (ethState.ethInUse 31 = true ∧ ethState.flag (ETH_PORT_CTRL_EN 31) = false ∧ (onRegs [(ETH_PORT_STATUS_STATE 31, 1)]).get (ETH_PORT_STATUS_STATE 31) = 1
      ∧ ethState.ethLink 0 = true)
    ∧ ((ethState.put (TSH_TXQ_CFG_EN 300) 0).flag (TSH_TXQ_CFG_EN 300) = false ∧ ethState.txSlice 300 = some 1 ∧ (1 : Word).toNat / 2 % 4 ≠ 3
      ∧ ethState.ethInUse ((1 : Word).toNat / 128 % 32) = true ∧ ethState.txSlice 301 = none ∧ ethState.flag (TSH_TXQ_CFG_EN 301) = false
      ∧ ethState.rxSlice 300 = some 1 ∧ ethState.rxSlice 301 = none)
    ∧ (let s := ethState
       s.flag (TSH_TXQ_CFG_QSTOP 300) = false ∧ (s.txq 300).fetched ≠ (s.txq 300).prod ∧ s.get (TSH_TXQ_CFG_SPACE 300) = 0 ∧ s.dmaOpen = true ∧ (txDesc 60).length = 32
         ∧ df (wordsOf (txDesc 60)) 0 0 14 = 60 ∧ s.txBad 0 (wordsOf (txDesc 60)) = false ∧ s.txBad 0 (wordsOf (txDesc 13)) = true)
    ∧ (let s := queued [txFrame 60 0]
       (s.ethPort 0).wire = none ∧ (s.ethPort 0).owd = [] ∧ (∀ i ∈ s.txList 0 0, s.txEligible 0 0 0 i = false) ∧ s.txList 0 1 = [300] ∧ (300 : Nat) < 1024 ∧ s.txEligible 0 0 1 300 = true
         ∧ s.txHead 300 = some (.frame 300 (txFrame 60 0)) ∧ s.txCost 0 (.frame 300 (txFrame 60 0)) ≤ (s.txq 300).deficit + s.get (TSH_TXQ_DRR_QUANTUM 300))
    ∧ (let s := ethState.onPort 0 (fun x => { x with owd := [[1]] })
       (s.ethPort 0).owd = [1] :: [] ∧ s.guardOk 0 0 (s.txCost 0 (.owd [1])) = true)
    ∧ (let s := { queued [txFrame 60 1] with time := { State.reset.time with counts := true, raw := 10 ^ 9 * 2 ^ 32 } }
       s.txHead 300 = some (.frame 300 (txFrame 60 1)) ∧ s.txIsLate 0 (.frame 300 (txFrame 60 1)) = true)
    ∧ (let s := ethState
       (60 : Nat) + 4 ≥ 64 ∧ ¬ s.get (ETH_PORT_CTRL_MAX_FRAME 0) < 60 + 4 ∧ s.macOk 0 (List.replicate 6 2) = true ∧ (s.put (ETH_PORT_CTRL_PROMISC 0) 0).macOk 0 (List.replicate 6 2) = false
         ∧ s.flag (ETH_PORT_CTRL_FH_EN 0) = false ∧ s.flag (ETH_VLAN_MAP_VALID_E 0 (0 / 2)) = true ∧ s.get (ETH_VLAN_MAP_QUEUE_E 0 (0 / 2)) = 300
         ∧ s.get (TSH_RXQ_POLICE_RATE 300) = 0 ∧ s.flag (TSH_RXQ_CFG_QSTOP 300) = false ∧ s.get (TSH_RXQ_STATUS_CONS 300) ≠ (s.rxq 300).prod
         ∧ 60 ≤ 256 * s.get (TSH_RXQ_CFG_BUFSZ 300) ∧ s.get (TSH_RXQ_CFG_SPACE 300) = 0) := by decide +kernel
/-- R415: a frame of 59 bytes and its FCS is too short. -/
theorem test_rx_short : let u := after (exec (.ethFrameReceive 0 0 0 0 true (List.replicate 59 2) none true) ethState)
    (u.ctr (ETH_RX_LEN 0)).toNat = 1 ∧ u.get (TSH_RXQ_STATUS_CONS 300) = 0 := by decide +kernel
theorem test_rx_delivered : (after (exec (.ethFrameReceive 0 0 0 0 true (List.replicate 60 2) (some (List.replicate 16 0)) true) ethState)).get (TSH_RXQ_STATUS_CONS 300) = 1 := by
  decide +kernel
theorem test_tx_start : ((after (exec (.ethTxFrameStart 0 0) (queued [txFrame 60 0]))).ethPort 0).wire.isSome = true := by decide +kernel

/-! ### PCIe and the host cores -/

/-- Core 3 runs for LIVE slice 1, which has a 256 MiB window in tier A; tiers open, DMA open. -/
def coreState : State := ((((tierState.put (SLC_STATE_STATE 1) 1).put (PCI_CORE_CFG_RUN 3) 1).put (PCI_CORE_CFG_ROLE 3) 1).put (PCI_CORE_CFG_SLICE 3) 1).put fBme 1 |>.put fLinkUp 1
/-- A boot image of two pages without a signature (R448). -/
def bootImage : List Byte :=
  let head := padTo 0xFC (natToBytes 4 0x4243485A ++ natToBytes 2 1 ++ natToBytes 2 0x8840 ++ [0xB1, 0] ++ natToBytes 2 0 ++ natToBytes 4 2 ++ natToBytes 8 256
    ++ natToBytes 4 (crc32c (List.replicate 256 0)))
  head ++ natToBytes 4 (crc32c head) ++ List.replicate 256 0
/-- The same in tier A, in stage FETCH from the host. -/
def bootState : State :=
  let s := onRegs [(MEM_INIT_A_DONE, 1), (PCI_CPX_BOOT_STAGE, 1), (PCI_CPX_BOOT_SRC, 1), (PLN_IMG_POLICY_ALLOW_UNSIGNED, 1)]
  { s with mem := { s.mem with tierA := (s.mem.tierA.writeM s.bootAddr (cleanM bootImage)).1 } }
set_option maxRecDepth 100000 in
theorem test_witness_boot : let w := (bootState.bootRead 256).2.put PCI_CPX_BOOT_STAGE 2
    bootState.get PCI_CPX_BOOT_STAGE = 1 ∧ bootState.flag PCI_CPX_BOOT_SRC = true ∧ (bootState.bootRead 256).1 = some (bootImage.take 256) ∧ bootHeaderErr bootImage = none
      ∧ (w.bootRead 512).1 = some bootImage ∧ leAt bootImage 0x18 4 = crc32c ((bootImage.take 512).drop 256) ∧ w.bootPolicy bootImage false = true := by decide +kernel
theorem test_witness_CoresAndBar2 :
    (coreState.coreRuns 4 = false ∧ coreState.coreRuns 3 = true ∧ coreState.coreOk 3 = true ∧ (coreState.put (SLC_STATE_STATE 1) 0).coreOk 3 = false)
    ∧ (coreState.tierOpen false = true ∧ State.reset.tierOpen false = false ∧ coreState.coreSlice 3 = some 1 ∧ coreState.logSlots 1 = [] ∧ coreState.coreSlice 4 = none ∧ coreState.live 1 = true)
    ∧ (coreState.rangeOk 1 false 0 16 = true ∧ coreState.rangeOk 1 false (2 ^ 28 - 8) 16 = false ∧ inTier false (0x47FFFFFFF0 + 16 - 1) = true)
    ∧ ((coreState.viewRead 1 (coreState.viewLines 1 false) false 0 16).1 = some (zerosM 16) ∧ markedM (zerosM 16) = false
      ∧ (coreState.homeWrite 1 false 0 (cleanM [7])).1 = false ∧ (coreState.devView false 0 16).1 = some (zerosM 16) ∧ (coreState.devWrite false 0 (cleanM [7])).1 = false)
    ∧ (coreState.dmaOpen = true ∧ coreState.flag fAtsEn = false ∧ (coreState.put fBme 0).dmaOpen = false)
    ∧ (coreState.flag MEM_INIT_A_DONE = true ∧ coreState.get PCI_CPX_BOOT_STAGE = 0 ∧ coreState.flag PCI_CPX_BOOT_SRC = false ∧ (coreState.put PCI_CPX_BOOT_SRC 1).flag PCI_CPX_BOOT_SRC = true
      ∧ (coreState.put PCI_CPX_BOOT_STAGE 2).get PCI_CPX_BOOT_STAGE ∈ [1, 2])
    ∧ (coreState.flag fLinkUp = true ∧ coreState.pasidSlice 7 = none ∧ (coreState.put (SLC_PASID_PASID 1) 7).pasidSlice 7 = some 1) := by decide +kernel
theorem test_core_write_read : let u := after (exec (.coreTierAccess 3 false 0x10 (.write [7])) coreState)
    (after (exec (.coreTierAccess 3 false 0x10 (.read 1)) u)).out.head? = some (.cpl (.core 3) .ok [7]) := by decide +kernel
theorem test_bar2_unbound : let u := after (exec (.bar2Request 0 (some 7) 0 (.read 4) false) coreState)
    u.out.head? = some (.cpl (.pcie 0 (some 7)) .ur []) ∧ (u.ctr SLC_UNBOUND).toNat = 1 := by decide +kernel
theorem test_witness_PasidRequests : linkUp.pasidSlice (7 : BitVec 20).toNat = none ∧ (coreState.put (SLC_PASID_PASID 1) 7).pasidSlice (7 : BitVec 20).toNat = some 1
    ∧ 0xC80000 + 4096 * 1 ≤ (0xC81FFC : BitVec 28).toNat ∧ (0xC81FFC : BitVec 28).toNat < 0xC80000 + 4096 * 1 + 4096 ∧ (0xC81FFC : BitVec 28).toNat % 4 = 0
    ∧ ¬ (0xC80000 + 4096 * 1 ≤ (0xC82000 : BitVec 28).toNat ∧ (0xC82000 : BitVec 28).toNat < 0xC80000 + 4096 * 1 + 4096) := by decide +kernel
theorem test_witness_AccessCodesApplied : ∃ d, regFind 0x20C regTable = some d := ⟨_, by rfl⟩
theorem test_witness_PcieFunction :
    (let s := onRegs [(fAtsEn, 1)]
     s.flag fAtsEn = true ∧ s.pcie.reads = [] ∧ s.pcie.held = []
       ∧ (s.onPcie (fun p => { p with held := [.write true none 0x1008 [1]] })).pcie.held = [.write true none 0x1008 [1]]
       ∧ (0x1000 : BitVec 64).toNat ≤ 0x1008 ∧ 0x1008 < (0x1000 : BitVec 64).toNat + 2 ^ (12 + (0 : Fin 19).val))
    ∧ (let s := State.reset.onPcie (fun p => { p with invals := [⟨31, none, 0, 12⟩], reads := [] })
       (⟨31, none, 0, 12⟩ : AtsInval) ∈ s.pcie.invals ∧ s.pcie.reads = [])
    ∧ (let s := State.reset.onPcie (fun p => { p with reads := [⟨3, none, 0x40, 4, false, .silent⟩] })
       s.pcie.reads.find? (fun x => decide (x.hart = 3 ∧ x.held = false)) = some ⟨3, none, 0x40, 4, false, .silent⟩)
    ∧ (linkUp.flag fLinkUp = true ∧ (onRegs [(PWR_STATE_HUB_RUN, 1)]).flag PWR_STATE_HUB_RUN = true)
    ∧ (let s := (onRegs [(fMsixEn, 1), (fBme, 1), (fLinkUp, 1)]).onPcie (fun p => { p with pba := [2047] })
       2047 ∈ s.pcie.pba ∧ s.flag fMsixEn = true ∧ s.flag fMsixMask = false ∧ s.dmaOpen = true) := by decide +kernel
set_option maxRecDepth 100000 in
/-- R459: the pending message of vector 2,047 leaves when its entry is unmasked. -/
theorem test_msix_unmask : (after (exec (.msixUnmask 2047 ⟨0x1000, 5, false⟩) ((onRegs [(fMsixEn, 1), (fBme, 1), (fLinkUp, 1)]).onPcie (fun p => { p with pba := [2047] })))).out.head?
    = some (.msix 2047 0x1000 5) := by decide +kernel
theorem test_flr : (after (exec .functionLevelReset linkUp)).pcie.pba = [] := by decide +kernel

/-! ### Lane bundles -/

theorem test_witness_LaneBundleRoundTrip :
    (ctlAdmits (.loop true ⟨3, true, true, 2, 0xFFFF⟩) ∧ lsAdmits (.ld ⟨63, 7, 7, 4, 2, true⟩) ∧ lsAdmits (.movr 63 2 3))
    ∧ (¬ lsAdmits (.ld ⟨0, 0, 0, 5, 0, false⟩) ∧ ¬ lsAdmits (.st ⟨0, 0, 0, 0, 3, false⟩) ∧ ¬ lsAdmits (.aadd ⟨0, 0, 0, 0, 1, false⟩) ∧ ¬ lsAdmits (.movv 0 3 0) ∧ ¬ lsAdmits (.movr 0 2 4))
    ∧ (decBundle 0 0 0 0 = some bundleNop ∧ cleanSlots bundleNop 0 0 0 0 = true) := by
  simp only [ctlAdmits, lsAdmits]
  decide +kernel

/-! ### The hollow and integrity -/

/-- A mailbox command of one word with a code. -/
def holCmd (ws : List Word) : HolCmd := ⟨none, ws⟩
/-- A started warden in a life-cycle state with one command waiting, key 0 enrolled, tier A open. -/
def holState (lc : Nat) (ws : List Word) : State :=
  let s := onRegs [(HOL_LC_STATE, lc), (MEM_INIT_A_DONE, 1)]
  let h := { s.hol with started := true, awake := true, queue := [holCmd ws], enrolled := 1, devKey := some 7, card := { CardConfig.blank with regs := 2 } }
  { s with hol := { h with log := [⟨3, 0, ⟨8, 0, 0, 0, 0, 0, 0⟩⟩], modules := mapSet (fun _ => none) [] 5 (some ⟨[], [], 0⟩) } }
theorem test_witness_HollowCommands :
    ((holState 0 [1]).hol.started = true ∧ (holState 0 [1]).wardenBusy = true ∧ State.reset.wardenBusy = false)
    ∧ (let s := { State.reset with hol := { HolRt.reset with awake := true } }
       s.hol.awake = true ∧ s.hol.queue = [] ∧ s.get PWR_STATE_MAIN ≠ mainRamp ∧ s.hubHeld = false)
    ∧ ((holState 0 [1]).hol.queue = [holCmd [1]] ∧ holOpc (holCmd [1]) = 1 ∧ holOpc (holCmd [10]) = 10)
    ∧ ((holState 0 [2, 0, 3]).hol.log.find? (fun x => decide (x.seq = holArg (holCmd [2, 0, 3]) 2)) = some ⟨3, 0, ⟨8, 0, 0, 0, 0, 0, 0⟩⟩)
    ∧ (let c := holCmd [3, 0, 0, 0, 0, 2048]
       let ls := (holState 0 [3]).hol.log.filter (fun l => decide ((l.seq + 2 ^ 32 - holArg c 4) % 2 ^ 32 < holArg c 5))
       holArg c 5 ≤ 2048 ∧ ls ≠ [] ∧ (holState 0 [3]).holAddrOk (holAddr c 2) (32 * ls.length) = true
         ∧ ((holState 0 [3]).devWrite false (holAddr c 2) (cleanM (ls.flatMap logBytes))).1 = false
         ∧ ({ holState 0 [3] with mem := { MemSt.reset with failA := [0] } }.devWrite false (holAddr c 2) (cleanM (ls.flatMap logBytes))).1 = true)
    ∧ ((holState 4 [4]).get HOL_LC_STATE = lcScrapped ∧ (holState 1 [4]).get HOL_LC_STATE ≠ lcScrapped)
    ∧ (let c := holCmd [4, 0, 7]
       let s := holState 1 [4, 0, 7]
       holArg c 2 < 8 ∧ s.holAddrOk (holAddr c 3) 96 = true ∧ s.get HOL_LC_STATE ≤ lcProvisioned ∧ s.hol.enrolled.testBit (holArg c 2) = false
         ∧ (s.devView false (holAddr c 3) 96).1 = some (zerosM 96) ∧ markedM (zerosM 96) = false)
    ∧ ((holState 1 [5]).hol.enrolled.testBit (holArg (holCmd [5, 0, 0]) 2) = true ∧ (holState 1 [5]).get HOL_LC_STATE ≠ lcDeployed)
    ∧ (lcMove 0 4 = none ∧ lcMove 1 2 = some false ∧ (holState 1 [6]).usableKeys ≠ 0 ∧ lcMove 2 3 = some true ∧ (holState 2 [6]).usableKeys.testBit 0 = true
      ∧ (holState 1 [6]).flag PWR_STATE_HUB_RUN = false)
    ∧ (let c := holCmd [7]
       let s := holState 1 [7]
       s.holAddrOk (holAddr c 2) 48 = true ∧ s.holAddrOk (holAddr c 4) 112 = true ∧ s.hol.devKey = some 7 ∧ (s.devView false (holAddr c 2) 48).1 = some (zerosM 48))
    ∧ (holArg (holCmd [9, 0, 1, 0x1000]) 2 < (holState 1 [9]).hol.card.regs.val ∧ holArg (holCmd [9, 0, 1, 0x1000]) 3 / 256 % 256 ≤ 16)
    ∧ (holArg (holCmd [10, 0, 5, 16]) 2 % 256 < 44 ∧ holArg (holCmd [10, 0, 5, 16]) 3 ≤ 16 ∧ (holState 1 [10]).optModule 5 ≠ none) := by decide +kernel
theorem test_witness_hollow_events :
    (State.reset.flag HOL_TAMPER_EN_IN0 = true ∨ (onRegs [(HOL_TAMPER_EN_IN0, 1)]).flag HOL_TAMPER_EN_IN0 = true)
    ∧ State.reset.flag PWR_STATE_HUB_RUN = false ∧ State.reset.get HOL_LC_STATE ∉ [lcDeployed, lcScrapped] ∧ (holState 2 []).get HOL_LC_STATE ∈ [lcDeployed, lcScrapped]
    ∧ ((onRegs [(HOL_TAMPER_WIPING, 1)]).flag HOL_TAMPER_WIPING = true ∧ (onRegs [(HOL_TAMPER_WIPING, 1)]).hol.lcLog = [])
    ∧ ((nth 0 (List.replicate 25 (439 : BitVec 16)) 23).toInt < 440 ∧ 440 ≤ (nth 0 (List.replicate 25 (440 : BitVec 16)) 23).toInt ∧ (onRegs [(PWR_STATE_MAIN, mainOn)]).get PWR_STATE_MAIN = mainOn)
    ∧ ((1 : Nat) < (holState 0 []).hol.card.regs.val ∧ (holState 0 []).optModule 5 = some ⟨[], [], 0⟩ ∧ State.reset.ethInUse 5 = true ∧ (onRegs [(ETH_QUAD_CFG_MODE 7, 2)]).ethInUse 31 = false)
    ∧ (let s := { State.reset with integ := { Integ.reset with queue := [⟨2, 0, 0, 0, 0, 0, 0⟩] } }
       s.integ.queue = ⟨2, 0, 0, 0, 0, 0, 0⟩ :: [] ∧ s.integ.lost = false) := by decide +kernel
theorem test_key_revoke : (after (exec .keyRevoke (holState 1 [5, 0, 0]))).hol.revoked = 1 := by decide +kernel
theorem test_lc_advance : (after (exec (.lcAdvance true) (holState 1 [6, 0, 2]))).get HOL_LC_STATE = 2 := by decide +kernel
theorem test_tamper_test_refused : (after (exec .tamperTest (holState 2 []))).flag (fLockWr 0xE00004) = true := by decide +kernel
/-- R460: 110 °C in a main die powers down. -/
theorem test_overheat : let u := after (exec (.sensorScan (List.replicate 25 440)) (onRegs [(PWR_STATE_MAIN, mainOn)]))
    u.get PWR_STATE_MAIN = mainOff ∧ u.get PWR_STATE_OFF_CAUSE = 2 := by decide +kernel

/-- Slice 1's logical group 0 on group 0, step 0 sampled; `rs` the replays. -/
def replayState (rs : List Replay) : State :=
  let s := (releasedState { StepRt.fresh 0 with sampled := [0] }).onGroup 0 (fun g => { g with step := 1 })
  { (((s.put (INT_POOL_LO_POOL) 0x800000).put PLN_GROUP_PRESENT_LO_PRESENT 0xFFFFFFFF)) with integ := { s.integ with replays := rs } }
/-- A replay of it on group 23. -/
def replayOn (setup : Bool) (first : Option (Nat × Nat × Nat)) : Replay := ⟨1, 0, 0, 0, 23, false, setup, if setup then some (0, 0) else none, first, none, false, []⟩
theorem test_witness_IntegrityCommands :
    ((0x00000114 : Word).getLsbD 31 = false ∧ (0x80000114 : Word).getLsbD 31 = true ∧ (0x80000114 : Word).toNat % 256 = 20
      ∧ detClass 88 = some .c ∧ detClass 12 = none ∧ instGroup 88 0 = none)
    ∧ (let s := replayState []
       s.integ.replays = [] ∧ (s.slice 1).steps = { StepRt.fresh 0 with sampled := [0] } :: [] ∧ s.integ.journals = [] ∧ s.pickTarget 1 0 0 [] (fun _ => false) = some (23, none)
         ∧ mapGet (fun _ => none) s.integ.holds 23 ≠ some (1, 0, s.imageGen 1))
    ∧ (let s := replayState [replayOn false none]
       s.integ.replays.find? (fun x => decide (x.target = 23) && !x.setup) = some (replayOn false none) ∧ (s.slice 1).image = some twoSegs
         ∧ twoSegs.groups.find? (fun x => decide (x.lgroup = 0)) = some ⟨0, 0, 0, [], [], []⟩ ∧ s.get (DSP_GRP_STATE_STATE 23) ≠ grpLent)
    ∧ (let s := (replayState [replayOn true none]).onGroup 23 (fun g => { g with step := 1 })
       s.integ.replays.find? (fun x => decide (x.slice = 1 ∧ x.lgroup = 0) && x.setup && !x.voided && s.journalFull 1 x.step 0) = some (replayOn true none) ∧ stepFrom (stepNext 0) (s.group 23).step = true
         ∧ (∀ t ∈ groupTiles 23, (s.tile t).opsLeft 1 0 4096 = false) ∧ s.groupDone 1 0 0 = true ∧ s.integ.flipDigest.getLsbD 0 = false
         ∧ mapGet (fun _ => (0, 0)) (s.slice 1).digests (64 * 0 + 0) = (0, 0))
    ∧ ((onRegs [(SLC_STATE_STATE 1, 1), (SLC_GROUPS_LO_GROUPS 1, 4)]).holder 2 ≠ none ∧ State.reset.holder 2 = none)
    ∧ (mapFind 4 State.reset.integ.marginAt = none ∧ (39 : BitVec 10).toNat < State.reset.get INT_MARGIN_CFG_MIN_MARGIN ∧ State.reset.get INT_MARGIN_CFG_DROOP_MV < (61 : BitVec 8).toNat) := by
  decide +kernel
theorem test_replay_verdict : (after (exec (.replayVerdict 1 0) ((replayState [replayOn true none]).onGroup 23 (fun g => { g with step := 1 })))).integ.replays = [] := by decide +kernel
/-- Slice 1's step 0 on group 0, whose tile 0 awaits a reply from tier B. -/
def linkState : State := (releasedState (StepRt.fresh 0)).onTile 0 (fun x => { x with ctxs := [(0, some { mvOp 3 1 1 [⟨0, 0, 16, 0x100, none, [], none⟩] with
  desc := { copyRec with op := 3, remote := 0x8000000000000000 } })] })
theorem test_witness_LinkDetectors :
    (let v : Word := 0x80000422
     v.getLsbD 31 = true ∧ detClass 34 = some .s ∧ instGroup 34 4 = none ∧ v.toNat % 256 = 34 ∧ v.toNat / 256 % 65536 = 4 ∧ linkState.onLink 34 4 0 = true
       ∧ linkState.get (DSP_GRP_STATE_SLICE 0) = 1 ∧ linkState.lgroupOn 1 0 = some 0 ∧ (linkState.group 0).step = 0
       ∧ linkState.get (DSP_GRP_STATE_STATE 0) ≠ grpLent ∧ (linkState.group 0).stage = none ∧ (linkState.group 0).replay = false
       ∧ (linkState.slice 1).steps.any (fun r => decide (r.num = 0)) = true)
    ∧ ((0x80000249 : Word).getLsbD 31 = true ∧ (0x80000249 : Word).toNat % 256 = 73 ∧ (0x80000249 : Word).toNat / 256 % 65536 < 64)
    ∧ ((0x80000B59 : Word).getLsbD 31 = true ∧ (0x80000B59 : Word).toNat % 256 = 89 ∧ (0x80000B59 : Word).toNat / 256 % 65536 = 11
       ∧ (onRegs [(DRV_PORT_STATUS_STATE 11, 4)]).portUp 11 = true) := by decide +kernel
/-- R22, R508: check bits wrong behind the col port of tier B strike the step that reads through it. -/
theorem test_link_detector : ((after (exec (.intInjectArm 0x80000422) linkState)).stepRec 1 0).suspect = [0] := by decide +kernel
/-- R508: an injected CRC error of a port is counted as detector 88. -/
theorem test_inject : ((after (exec (.intInjectArm 0x80000058) State.reset)).ctr (INT_DET_CNT 88)).toNat = 1 := by decide +kernel

/-! ### Power -/

/-- The warden started, the sequencer in a state with `n` rail groups on. -/
def pwrState (main n : Nat) : State :=
  let s := onRegs [(PWR_STATE_MAIN, main)]
  { s with hol := { s.hol with started := true }, pwr := { s.pwr with groups := n } }
theorem test_witness_PowerSequences :
    ((pwrState mainOff 0).hol.started = true ∧ State.reset.hol.started = false ∧ (pwrState mainOff 0).hol.lcLog = [] ∧ (pwrState mainFault 0).get PWR_STATE_MAIN = mainFault)
    ∧ ((pwrState mainRamp 4).get PWR_STATE_MAIN = mainRamp ∧ (pwrState mainRamp 4).pwr.groups < 5 ∧ 5 ≤ (pwrState mainRamp 5).pwr.groups)
    ∧ ((pwrState mainOn 5).hubHeld = true ∧ (pwrState mainOff 0).hubHeld = false)
    ∧ (let s := { pwrState mainOn 5 with hol := { (pwrState mainOn 5).hol with kept := [⟨0, 0, ⟨2, 0, 9, 0, 0, 0, 0x123⟩⟩] } }
       s.hol.kept = [⟨0, 0, ⟨2, 0, 9, 0, 0, 0, 0x123⟩⟩] ∧ s.flag (TIL_REPAIR_MAP_VALID 9 0) = false) := by decide +kernel
theorem test_power_good : (after (exec .powerGood (pwrState mainRamp 5))).get PWR_STATE_MAIN = mainOn ∧ (after (exec .powerGood (pwrState mainRamp 4))).pwr.groups = 5 := by decide +kernel
theorem test_power_off : let u := after (exec .powerOff (pwrState mainOn 2))
    u.get PWR_STATE_MAIN = mainOff ∧ u.out = [.rail 1 false, .rail 2 false] := by decide +kernel
theorem test_hub_release : (after (exec .hubResetRelease (pwrState mainOn 5))).flag PWR_STATE_HUB_RUN = true := by decide +kernel
theorem test_witness_ClocksAndDomains :
    (State.reset.dieNamed 3 = false ∧ (onRegs [(PWR_TCLK_CAP 3, 2)]).get (PWR_TCLK_STEP 3) ≠ (onRegs [(PWR_TCLK_CAP 3, 2)]).tclkTarget 3
      ∧ State.reset.get (PWR_TCLK_STEP 3) = State.reset.tclkTarget 3)
    ∧ (let s := { onRegs [(⟨0x280000, 0, 32⟩, 1), (PWR_TCLK_CAP 0, 2)] with cyc := { CycRt.reset with valid := true } }
       s.dieNamed 0 = true ∧ (s.put (DSP_GRP_STATE_STATE 0) 4).stepWaits 0 = true ∧ State.reset.stepWaits 0 = false ∧ s.get (PWR_TCLK_STEP 0) ≠ s.floorStep (s.tclkTarget 0))
    ∧ (let s := { onRegs [(DSP_GRP_STATE_STATE 9, 1)] with raw := State.reset.get PWR_TG_CFG_TG_OFF_US * 0x3E800000000 }
       s.get (DSP_GRP_STATE_STATE 9) = grpIdle ∧ (s.group 9).idleAt + s.get PWR_TG_CFG_TG_OFF_US * 0x3E800000000 ≤ s.raw ∧ s.placedOn 9 = false
         ∧ mapGet (fun _ => none) s.integ.holds 9 = none ∧ s.beforeRun 9 40000 = true)
    ∧ ((onRegs [(PWR_STATE_HUB_RUN, 1), (PWR_STATE_MAIN, mainOn)]).flag PWR_STATE_HUB_RUN = true ∧ State.reset.flag PWR_STATE_HUB_RUN = false)
    ∧ ((pwrState mainRamp 1).pwr.groups = 1 ∧ State.reset.pwr.groups = 0) := by decide +kernel
theorem test_cap_write : let u := after (exec (.capWrite 3 2) State.reset)
    u.flag (PWR_TCLK_PEND 3) = true ∧ (after (exec (.tclkStepChange 3) u)).get (PWR_TCLK_STEP 3) = 2 := by decide +kernel

/-! ### Salet -/

/-- The modem enabled as node 9, both buses with beacons; command node 5. -/
def salState : State := onRegs [(SAL_CFG_EN, 1), (SAL_CFG_NODE, 9), (SAL_BUS_STATUS_BEACON_OK 0, 1), (SAL_BUS_STATUS_TX_OFF 0, 0), (SAL_CMD_NODES_LO_NODES, 32)]
/-- A message to node 5. -/
def salMsg (sent : Bool) (att : Nat) : SalTx := ⟨5, false, 7, 3, 0, [1], att, sent, none, [], true⟩
/-- The send queue with messages. -/
def salQueueOf (l : List SalTx) : State := { salState with sal := { salState.sal with txq := l } }
/-- A good frame from node 5 to node 9. -/
def salFrame (aseq : Nat) (body : List Byte) : SalFrame := ⟨false, 5, 9, false, 0, true, 12, BitVec.ofNat 16 aseq, body⟩
theorem test_witness_SaletBus :
    (State.reset.flag SAL_CFG_EN = false ∧ salState.flag SAL_CFG_EN = true ∧ (salState.salBus false).rx = none)
    ∧ (salState.flag (SAL_BUS_STATUS_BEACONING 0) = false ∧ salState.salNode = 9 ∧ (salState.put SAL_CFG_BEACON_EN 1).flag SAL_CFG_BEACON_EN = true)
    ∧ (salState.busUsable false = true ∧ salState.flag SAL_INJECT_ARM = false)
    ∧ (let s := { salState with sal := { salState.sal with busA := { SalBus.reset with fresh := true, rx := some (40, 0), heard := some 0, cycle := 9 } } }
       (s.salBus false).fresh = true ∧ (s.salBus false).rx = some (40, 0) ∧ (s.salBus false).cycle % 64 = s.salNode)
    ∧ (let s := { salState with sal := { salState.sal with probes := [(5, false)] } }
       s.probeDue false 5 = true ∧ (5 : Nat) ≠ s.salNode)
    ∧ ((salState.salBus false).cycle % 64 = salState.get (SAL_BUS_STATUS_BEACON_NODE 0))
    ∧ (let s := salState.put (SAL_BUS_STATUS_BEACONING 0) 1
       s.flag SAL_CFG_EN = true ∧ s.flag (SAL_BUS_STATUS_BEACONING 0) = true ∧ s.busUsable false = true ∧ s.salNode < 10 ∧ (salState.salBus false).rx = none)
    ∧ (let s := ((salState.put SAL_INJECT_ARM 1).put SAL_INJECT_POINT 1).put (SAL_BUS_STATUS_BEACONING 0) 1
       s.flag SAL_INJECT_ARM = true ∧ s.get SAL_INJECT_POINT = 1 ∧ s.get SAL_INJECT_BUS = busNo false)
    ∧ (let s := { salState with sal := { salState.sal with busA := { SalBus.reset with peers := [(5, { SalPeer.none with seen := true, miss := 2 })] } } }
       (s.salPeer false 5).seen = true ∧ (s.salPeer false 6).seen = false ∧ salState.flag (SAL_BUS_CTRL_TX_EN 0) = true ∧ salState.flag (SAL_BUS_STATUS_TX_OFF 0) = false)
    ∧ (salState.get (SAL_BUS_STATUS_LINE 0) = 7 ∧ (salState.put (SAL_BUS_STATUS_LINE 0) 2).get (SAL_BUS_STATUS_LINE 0) ≠ lineClass 2350 1000 1000) := by
  decide +kernel
theorem test_witness_beats : ((List.replicate 216 0).set 15 7).length = 216 ∧ beats ((List.replicate 216 0).set 15 7) (20 + 3 * 5)
    ∧ ¬ beats ((List.replicate 216 0).set 15 7) (21 + 3 * 5) := by unfold beats reaches; decide +kernel
/-- R479: the generator's first bits, by hand. -/
theorem test_preamble : preambleP1.take 11 = [1, 1, 1, 1, 1, -1, -1, -1, -1, 1, -1] ∧ preambleP1.length = 54 ∧ preambleP2.length = 216 := by decide +kernel
/-- R480: of three bits 1, 0, 1 the I axis takes 10, the Gray code of 3, and the Q axis takes 1. -/
theorem test_carrier : carrierOf [true, false, true] = ⟨3, 1, 6⟩ ∧ carrierOf [] = ⟨0, 0, 0⟩ ∧ carrierOf [false] = ⟨-1, 0, 1⟩ := by decide +kernel
/-- R493: the worked EPOCH of 1,036 bytes takes 20 symbols at the fallback loading. -/
theorem test_symbols : symbolsFor 1036 none = 20 ∧ symbolsFor 72 none = 2
    ∧ symbolsFor 1036 (some ⟨1, List.replicate 80 7 ++ List.replicate 80 5 ++ List.replicate 56 2⟩) = 8 := by decide +kernel
/-- R492, R487: 29 dB is a ratio of 794.3, and 12 dB one of 15.85. -/
theorem test_loading : loadingOf 8 6 (795, 1) = 5 ∧ loadingOf 8 6 (794, 1) = 4 ∧ loadingOf 8 6 (0, 0) = 0
    ∧ (let es := (List.range 216).map (fun k => if k = 15 then 16 else if k = 16 then 15 else if 192 ≤ k then 1 else 0)
       beatOf es 5 = ⟨true, false, false⟩) := by decide +kernel
theorem test_beacon : let u := after (exec (.beacon false 3 100) salState)
    u.get (SAL_BUS_STATUS_BEACON_NODE 0) = 3 ∧ (u.salBus false).cycle = 100 := by decide +kernel
theorem test_witness_SaletMessages :
    ((salQueueOf [salMsg false 0]).sal.txq[(0 : BitVec 16).toNat]? = some (salMsg false 0) ∧ (salQueueOf [salMsg false 0]).salMayGo (salMsg false 0) false = true)
    ∧ (let m : SalTx := ⟨0, true, 7, 3, 0, [1], 0, false, none, [false, true], true⟩
       (salQueueOf [m]).salMayGo m false = true ∧ (∀ x ∈ m.left, x ≠ false → (salState.put (SAL_BUS_STATUS_BEACON_OK 1) 0).busUsable x = false)
         ∧ (salState.put (SAL_BUS_STATUS_BEACON_OK 1) 1 |>.put (SAL_BUS_STATUS_TX_OFF 1) 0).busUsable true = true)
    ∧ (let m : SalTx := ⟨5, false, 6, 3, 12, [], 0, false, some false, [], false⟩
       (salQueueOf [m]).salMayGo m false = true)
    ∧ (0 + 1 < salState.get SAL_TIMING_RETRIES ∧ salState.get SAL_TIMING_RETRIES ≤ 4 + 1)
    ∧ ((salFrame 0 []).dst.toNat = salState.salNode ∧ salState.salHist 5 = [] ∧ salState.sal.rxq.length < 8 ∧ salState.pairBit SAL_CMD_NODES_LO_NODES SAL_CMD_NODES_HI_NODES 5 = true
      ∧ salState.pairBit SAL_CMD_NODES_LO_NODES SAL_CMD_NODES_HI_NODES 4 = false ∧ salState.hol.queue = [] ∧ holOpc ⟨none, [10]⟩ = 10)
    ∧ ((salState.put SAL_CFG_WARDEN_EPOCH 1).flag SAL_CFG_WARDEN_EPOCH = true ∧ salState.flag PWR_STATE_HUB_RUN = false ∧ salState.flag DRV_EPOCH_VALID = false
      ∧ leAt ([0, 0, 1] : List Byte) 2 1 % 2 = 1)
    ∧ (let s := { salState with sal := { salState.sal with hist := mapSet (fun _ => []) [] 5 [⟨12, some [1]⟩] } }
       (s.salHist 5).find? (fun y => decide (y.mseq = (salFrame 0 []).mseq.toNat)) = some ⟨12, some [1]⟩)
    ∧ ((salQueueOf [salMsg true 0]).sal.txq = [] ++ salMsg true 0 :: [] ∧ (salMsg true 0).mseq = (salFrame 3 []).aseq.toNat)
    ∧ ((0x80100 : Word).getLsbD 19 = true ∧ (0x80100 : Word).toNat / 256 % 2048 = 1 ∧ (0x80100 : Word).toNat % 64 ≠ salState.salNode ∧ (0x85F900 : Word).toNat / 256 % 2048 = 1529) := by
  decide +kernel
theorem test_witness_salTakes : salTakes (salFrame 0 []) salState := by unfold salTakes; decide +kernel
theorem test_salet_ack : (after (exec (.saletAck (salFrame 3 [])) (salQueueOf [salMsg true 0]))).sal.txq = [] := by decide +kernel
theorem test_salet_retry_last : (after (exec (.saletRetryTimeout 0) (salQueueOf [salMsg true 200]))).sal.txq = [] := by decide +kernel

end Sys2Proof.Tests
end

section
/-! PROOFS. Obligations O10 and O1: what a request under a PASID reaches (R40, R315), and what one step does. -/

namespace Sys2Proof.Organisation

open Sys2Proof.Machine Sys2Proof.Laws

/-! ### Counting (R15) -/

/-- What an advance can do: the counter is written and, when it reaches all-ones, `CNT_SAT` of its block is set (R15). -/
theorem count_eq_setCtr_or_put (s : State) (k n : Nat) :
    ∃ v, s.count k n = s.setCtr k v ∨ s.count k n = (s.setCtr k v).put (fCntSat (statusOfKey k)) 1 := by
  unfold State.count
  dsimp only
  split
  · exact ⟨_, .inr rfl⟩
  · exact ⟨_, .inl rfl⟩

theorem count_frame (s : State) (k n : Nat) :
    s.count k n = { s with ctrs := (s.count k n).ctrs, regs := (s.count k n).regs } := by
  obtain ⟨v, h | h⟩ := count_eq_setCtr_or_put s k n <;> rw [h] <;> rfl

theorem setCtr_ctr_ne (s : State) {k j : Nat} (h : j ≠ k) (v : BitVec 48) : (s.setCtr k v).ctr j = s.ctr j :=
  mapGet_mapSet_ne _ _ h _

theorem sameCtrs_count (s : State) (k n : Nat) : sameCtrs [k] s (s.count k n) := by
  intro j hj
  have hne : j ≠ k := by simpa using hj
  obtain ⟨v, h | h⟩ := count_eq_setCtr_or_put s k n <;> rw [h] <;> exact setCtr_ctr_ne s hne v

theorem sameRegs_count (s : State) (k n : Nat) : sameRegs [statusOfKey k] s (s.count k n) := by
  intro j hj
  have hne : j ≠ statusOfKey k := by simpa using hj
  obtain ⟨v, h | h⟩ := count_eq_setCtr_or_put s k n <;> rw [h]
  · rfl
  · exact setReg_reg_ne (s.setCtr k v) hne _

theorem statusOfKey_unbound : statusOfKey SLC_UNBOUND = 0xC00004 := rfl

/-- The refusal counters of all 64 slices lie in the `SLC_` aperture. -/
theorem statusOfKey_refuse {sl : Nat} (h : sl < 64) : statusOfKey (SLC_REFUSE sl) = 0xC00004 := by
  have hap : (0xC01048 + 128 * sl) / 0x100000 = 0xC := by omega
  have hlow : ¬ 0x10000000 ≤ 0xC01048 + 128 * sl := by omega
  have htop : ¬ 0x20000000 ≤ 0xC01048 + 128 * sl := by omega
  simp only [statusOfKey, SLC_REFUSE, if_neg htop, if_neg hlow, hap]
  rfl

/-! ### Requests under a PASID (R40, R315) -/

/-- A PASID is bound to one of the 64 slices at most. -/
theorem pasidSlice_lt {s : State} {p sl : Nat} (h : s.pasidSlice p = some sl) : sl < 64 := by
  have hmem : sl ∈ s.takenSlices := List.mem_of_find?_eq_some h
  obtain ⟨hrange, -⟩ := List.mem_filter.mp hmem
  exact List.mem_range.mp hrange

theorem inPage_eq_true_iff {sl off : Nat} :
    inPage sl off = true ↔ 0xC80000 + 4096 * sl ≤ off ∧ off < 0xC80000 + 4096 * sl + 4096 := by
  simp [inPage]

theorem exec_pasidBar0Request (rid : BitVec 16) (pasid : BitVec 20) (off : BitVec 28) (size : BitVec 13) (v : Option Word)
    (s : State) :
    exec (.pasidBar0Request rid pasid off size v) s = .next (s.pasidRequest rid pasid off.toNat size.toNat v) := rfl

section
variable {s : State} {pasid : BitVec 20} {sl : Nat}
variable (rid : BitVec 16) (off : BitVec 28) (size : BitVec 13) (v : Option Word)

theorem exec_pasidBar0Request_unbound (hup : s.flag fLinkUp = true) (hnone : s.pasidSlice pasid.toNat = none) :
    exec (.pasidBar0Request rid pasid off size v) s
      = .next ((s.count SLC_UNBOUND 1).complete (.pcie rid (some pasid)) .ur []) := by
  rw [exec_pasidBar0Request]
  simp [State.pasidRequest, hup, hnone, State.tally]

theorem exec_pasidBar0Request_outside (hup : s.flag fLinkUp = true) (hsl : s.pasidSlice pasid.toNat = some sl)
    (hout : inPage sl off.toNat = false) :
    exec (.pasidBar0Request rid pasid off size v) s
      = .next ((s.count (SLC_REFUSE sl) 1).complete (.pcie rid (some pasid)) .ur []) := by
  rw [exec_pasidBar0Request]
  simp [State.pasidRequest, hup, hsl, hout, State.tally]

theorem exec_pasidBar0Request_inside (hup : s.flag fLinkUp = true) (hsl : s.pasidSlice pasid.toNat = some sl)
    (hin : inPage sl off.toNat = true) (hal : off.toNat % 4 = 0) :
    exec (.pasidBar0Request rid pasid off 4 v) s
      = .next (s.pageAccess (.pcie rid (some pasid)) sl (off.toNat % 4096) v) := by
  rw [exec_pasidBar0Request]
  simp [State.pasidRequest, hup, hsl, hin, hal]
end

/-- A refusal that counter `k` of the `SLC_` aperture counts answers Unsupported Request and changes nothing but that counter and,
at saturation, the slices' block status. -/
theorem countedRefusal_effect (s : State) (who : Requester) {k : Nat} (hk : statusOfKey k = 0xC00004) :
    let u := (s.count k 1).complete who .ur []
    u.out = .cpl who .ur [] :: s.out ∧ u.ctr k = (s.count k 1).ctr k ∧ sameCtrs [k] s u ∧ sameRegs [0xC00004] s u
      ∧ u = { s with ctrs := u.ctrs, regs := u.regs, out := u.out } := by
  have hregs := sameRegs_count s k 1
  rw [hk] at hregs
  refine ⟨?_, rfl, sameCtrs_count s k 1, hregs, ?_⟩
  · change Out.cpl who .ur [] :: (s.count k 1).out = _
    rw [count_frame]
  · dsimp only [State.complete, State.emit]
    rw [count_frame]

/-! ### The tick of an empty queue (R424, R428, log entry 22) -/

/-- Nothing but the pulse outputs of the time block differs. -/
def onlyPulses (s t : State) : Prop := t = { s with time := { s.time with pulses := t.time.pulses } }

theorem onlyPulses_trans {s t u : State} (h : onlyPulses s t) (h' : onlyPulses t u) : onlyPulses s u := by
  unfold onlyPulses at h h'
  rw [h] at h'
  exact h'

theorem pulseStep_onlyPulses (s : State) (i : Nat) : onlyPulses s (s.pulseStep i) := by
  unfold State.pulseStep
  dsimp only
  split
  · split
    · rfl
    · split <;> rfl
  · rfl

theorem foldl_pulseStep_onlyPulses (l : List Nat) (s : State) :
    onlyPulses s (l.foldl (fun a i => a.pulseStep i) s) := by
  induction l generalizing s with
  | nil => rfl
  | cons i l ih => exact onlyPulses_trans (pulseStep_onlyPulses s i) (ih _)

/-- One branch for the locked and the unlocked time PLL: in both the tick writes the raw counter alone of the time block. -/
theorem idle_eq (s : State) : s.idle =
    let t := s.tickEnd
    let c := if t.time.counts then (t.time.raw + 0x140000000) % 2 ^ 96 else t.time.raw
    { t with raw := t.raw + 0x140000000, time := { t.time with raw := c } } := by
  unfold State.idle
  dsimp only
  by_cases h : s.tickEnd.time.counts = true
  · simp only [if_pos h]; rfl
  · simp only [if_neg h]; rfl

theorem tickEnd_of_due_zero {s : State} (h : s.time.due = 0) : s.tickEnd = s := if_pos h

/-- The accepted steps move the offset by their sum and are taken; the pulse outputs and the cyclic windows may follow. -/
theorem tickEnd_of_due_ne_zero {s : State} (h : s.time.due ≠ 0) :
    ∃ pulses cyc, s.tickEnd = { s with
      cyc := cyc
      time := { s.time with off := (((s.time.off : Int) + s.time.due) % 2 ^ 96).toNat, due := 0, pulses := pulses } } := by
  unfold State.tickEnd
  dsimp only
  rw [if_neg h]
  exact ⟨_, _, foldl_pulseStep_onlyPulses (List.range 8) _⟩

theorem step_front (c : Instr) (s : State) : step { s with pending := c :: s.pending } = exec c s := rfl

theorem step_empty {s : State} (h : s.pending = []) : step s = .next s.idle := by
  unfold step
  rw [h]

/-! ### The obligations -/

/-- Settles O10: the three outcomes of a request under a PASID, by the slice that it is bound to and that slice's page. -/
theorem pasidRequests : Obligations.PasidRequests := by
  unfold Obligations.PasidRequests
  intro rid pasid off size w v s hup
  refine ⟨fun hnone => ?_, fun sl hsl => ⟨fun hout => ?_, fun hlo hhi hal => ?_⟩⟩
  · exact ⟨_, exec_pasidBar0Request_unbound rid off size v hup hnone, countedRefusal_effect s _ statusOfKey_unbound⟩
  · have hout' : inPage sl off.toNat = false := Bool.eq_false_iff.mpr (fun h => hout (inPage_eq_true_iff.mp h))
    exact ⟨_, exec_pasidBar0Request_outside rid off size v hup hsl hout',
      countedRefusal_effect s _ (statusOfKey_refuse (pasidSlice_lt hsl))⟩
  · have hin : inPage sl off.toNat = true := inPage_eq_true_iff.mpr ⟨hlo, hhi⟩
    exact ⟨exec_pasidBar0Request_inside rid off (some w) hup hsl hin hal,
      exec_pasidBar0Request_inside rid off none hup hsl hin hal⟩

/-- Settles O1: the front command by the definition of a step, the empty queue by what the end of a tick does. -/
theorem stepRunsFrontCommand : Obligations.StepRunsFrontCommand := by
  unfold Obligations.StepRunsFrontCommand
  refine ⟨step_front, fun s hempty => ?_⟩
  dsimp only
  rw [step_empty hempty]
  refine ⟨fun hdue => ?_, fun hdue => ⟨s.idle, rfl, ?_⟩⟩
  · rw [idle_eq, tickEnd_of_due_zero hdue]
  · obtain ⟨pulses, cyc, hend⟩ := tickEnd_of_due_ne_zero hdue
    have hoff : 0 ≤ ((s.time.off : Int) + s.time.due) % 2 ^ 96 := Int.emod_nonneg _ (by decide)
    rw [idle_eq, hend]
    exact ⟨rfl, rfl, rfl, Int.toNat_of_nonneg hoff, rfl, rfl⟩

end Sys2Proof.Organisation
end

section
/-! PROOFS. Obligations O12, O15 and O18: the number formats of the vector unit and of the matrix engine (R41 to R68, R86,
R129), with the rules of tiles, arithmetic events, vector registers and clean scratchpad rows that they need. -/

namespace Sys2Proof.NumberFormats

open Sys2Proof.Machine Sys2Proof.Laws Sys2Proof.Spec

/-! ### Tiles of the part -/

@[simp] theorem setTile_tile_same (s : State) (t : Nat) (x : Tile) : (s.setTile t x).tile t = x := mapGet_mapSet_same _ _ _ _
theorem setTile_tile_ne (s : State) {t i : Nat} (h : i ≠ t) (x : Tile) : (s.setTile t x).tile i = s.tile i :=
  mapGet_mapSet_ne _ _ h _
@[simp] theorem onTile_tile_same (s : State) (t : Nat) (f : Tile → Tile) : (s.onTile t f).tile t = f (s.tile t) :=
  setTile_tile_same _ _ _

theorem flag_setTile (s : State) (t : Nat) (x : Tile) (f : Fld) : (s.setTile t x).flag f = s.flag f := rfl

theorem onlyTile_setTile (s : State) (t : Nat) (x : Tile) : onlyTile t s (s.setTile t x) :=
  ⟨rfl, fun _ h => setTile_tile_ne s h x⟩

/-! ### Arithmetic events (R65) -/

@[simp] theorem arith_zero (s : State) (t : Nat) : s.arith t 0 = s := if_pos rfl

/-- What recording events can do: nothing, or the sticky bits are set, the slice's counts advance and, where one becomes full,
`CNT_SAT` of the tile is set. -/
theorem arith_cases (s : State) (t ev : Nat) :
    s.arith t ev = s ∨ ∃ bits sl f,
      s.arith t ev = ((s.setReg (TIL_ARITH_STATUS_INT_WRAP t).key bits).onSlice sl f)
      ∨ s.arith t ev = ((s.setReg (TIL_ARITH_STATUS_INT_WRAP t).key bits).onSlice sl f).put (fCntSat (tileStatus t)) 1 := by
  by_cases hev : ev = 0
  · exact .inl (if_pos hev)
  · refine .inr ⟨s.reg (TIL_ARITH_STATUS_INT_WRAP t).key ||| BitVec.ofNat 32 (evBits ev), s.get (TIL_STATE_OWNER t),
      fun x => { x with arith := countEvents ev 5 x.arith }, ?_⟩
    rw [State.arith, if_neg hev]
    unfold State.countArith State.putIf
    dsimp only
    split
    · exact .inr rfl
    · exact .inl rfl

theorem arith_frame (s : State) (t ev : Nat) :
    s.arith t ev = { s with regs := (s.arith t ev).regs, slices := (s.arith t ev).slices } := by
  obtain h | ⟨bits, sl, f, h | h⟩ := arith_cases s t ev <;> rw [h] <;> rfl

@[simp] theorem arith_tile (s : State) (t ev i : Nat) : (s.arith t ev).tile i = s.tile i := by
  rw [arith_frame]; rfl
@[simp] theorem arith_mem (s : State) (t ev : Nat) : (s.arith t ev).mem = s.mem := by rw [arith_frame]
@[simp] theorem arith_ctrs (s : State) (t ev : Nat) : (s.arith t ev).ctrs = s.ctrs := by rw [arith_frame]

theorem sameRegs_arith (s : State) (t ev : Nat) :
    sameRegs [(TIL_ARITH_STATUS_INT_WRAP t).key, tileStatus t] s (s.arith t ev) := by
  intro k hk
  have hbits : k ≠ (TIL_ARITH_STATUS_INT_WRAP t).key := fun e => hk (by simp [e])
  have hsat : k ≠ tileStatus t := fun e => hk (by simp [e])
  obtain h | ⟨bits, sl, f, h | h⟩ := arith_cases s t ev <;> rw [h]
  · exact setReg_reg_ne s hbits bits
  · exact (setReg_reg_ne _ hsat _).trans (setReg_reg_ne s hbits bits)

/-! ### Vector registers -/

/-- Of tile `x` nothing but the vector registers differs in `y`. -/
def vregsOnly (x y : Tile) : Prop := y = { x with vregs := y.vregs }

theorem vregsOnly_trans {x y z : Tile} (h : vregsOnly x y) (h' : vregsOnly y z) : vregsOnly x z := by
  unfold vregsOnly at h h'
  rw [h] at h'
  exact h'

/-- One lane written where it is enabled. -/
theorem setVreg_if_vreg (on : Nat → Bool) (f : Nat → Word) (x : Tile) (r q : Nat) {l j : Nat} (hl : l < 64) (hj : j < 64) :
    (if on j then x.setVreg r j (f j) else x).vreg q l = if q = r ∧ l = j ∧ on l = true then f l else x.vreg q l := by
  by_cases hsame : q = r ∧ l = j
  · obtain ⟨rfl, rfl⟩ := hsame
    by_cases hon : on l = true
    · rw [if_pos hon, if_pos ⟨rfl, rfl, hon⟩, vreg_setVreg_same]
    · rw [if_neg hon, if_neg (fun h => hon h.2.2)]
  · have hkey : 64 * q + l ≠ 64 * r + j := by omega
    have hout : ¬ (q = r ∧ l = j ∧ on l = true) := fun h => hsame ⟨h.1, h.2.1⟩
    rw [if_neg hout]
    by_cases hon : on j = true
    · rw [if_pos hon, vreg_setVreg_ne x hkey]
    · rw [if_neg hon]

/-- Lanes `ls` of register `r` written, one after another. -/
theorem foldl_setVreg_vreg (on : Nat → Bool) (f : Nat → Word) (r q l : Nat) (hl : l < 64) :
    ∀ (ls : List Nat) (x : Tile), (∀ j ∈ ls, j < 64) →
      (ls.foldl (fun y j => if on j then y.setVreg r j (f j) else y) x).vreg q l
        = if q = r ∧ l ∈ ls ∧ on l = true then f l else x.vreg q l
  | [], x, _ => by rw [if_neg (fun h => List.not_mem_nil h.2.1)]; rfl
  | j :: ls, x, hlt => by
    have hj : j < 64 := hlt j List.mem_cons_self
    rw [List.foldl_cons, foldl_setVreg_vreg on f r q l hl ls _ (fun i hi => hlt i (List.mem_cons_of_mem j hi)),
      setVreg_if_vreg on f x r q hl hj]
    grind

theorem foldl_setVreg_frame (on : Nat → Bool) (f : Nat → Word) (r : Nat) :
    ∀ (ls : List Nat) (x : Tile), vregsOnly x (ls.foldl (fun y j => if on j then y.setVreg r j (f j) else y) x)
  | [], _ => rfl
  | j :: ls, x => by
    have hj : vregsOnly x (if on j then x.setVreg r j (f j) else x) := by split <;> rfl
    exact vregsOnly_trans hj (foldl_setVreg_frame on f r ls _)

/-- The lanes written read as written, every other lane as before. -/
theorem writeLanes_vreg (x : Tile) (r : Nat) (on : Nat → Bool) (f : Nat → Word) (q : Nat) {l : Nat} (hl : l < 64) :
    (x.writeLanes r on f).vreg q l = if q = r ∧ on l = true then f l else x.vreg q l := by
  rw [Tile.writeLanes, foldl_setVreg_vreg on f r q l hl _ _ (fun j hj => List.mem_range.mp hj)]
  simp [hl]

theorem writeLanes_frame (x : Tile) (r : Nat) (on : Nat → Bool) (f : Nat → Word) :
    vregsOnly x (x.writeLanes r on f) := foldl_setVreg_frame on f r _ _

theorem setVbits_vreg (x : Tile) (r v q : Nat) {l : Nat} (hl : l < 64) :
    (x.setVbits r v).vreg q l = if q = r then BitVec.ofNat 32 (v / 2 ^ (32 * l)) else x.vreg q l := by
  rw [Tile.setVbits, writeLanes_vreg _ _ _ _ _ hl]
  simp

theorem setVbits_frame (x : Tile) (r v : Nat) : vregsOnly x (x.setVbits r v) :=
  writeLanes_frame _ _ _ _

theorem laneOn_iff (x : Tile) (v : VecSlot) (l : Nat) :
    x.laneOn v l = true ↔ (v.men = true → (x.mask v.mreg.toNat).getLsbD l = true) := by
  cases hm : v.men <;> simp [Tile.laneOn, hm]

/-- Lane `l` of vector register `r` of tile `t` holds `val r l` in `w`, and nothing but these registers differs from `s`. -/
def vregsAre (t : Nat) (s w : State) (val : Nat → Nat → Word) : Prop :=
  onlyTile t s w ∧ vregsOnly (s.tile t) (w.tile t)
    ∧ ∀ r l, l < 64 → (w.tile t).vreg r l = val r l

theorem vregsAre_setTile {s : State} {t : Nat} {x : Tile} {val : Nat → Nat → Word}
    (hx : vregsOnly (s.tile t) x) (hval : ∀ r l, l < 64 → x.vreg r l = val r l) :
    vregsAre t s (s.setTile t x) val := by
  refine ⟨onlyTile_setTile s t x, ?_, ?_⟩ <;> rw [setTile_tile_same]
  · exact hx
  · exact hval

/-! ### Lanewise commands (R566) -/

/-- The events of the lanes that a slot writes. -/
def laneEvents (x : Tile) (v : VecSlot) (ev : Nat → Nat) : Nat :=
  (List.range 64).foldl (fun e l => if x.laneOn v l then evAdd e (ev l) else e) 0

theorem laneEvents_zero (x : Tile) (v : VecSlot) : laneEvents x v (fun _ => 0) = 0 := by
  have h : ∀ ls : List Nat, ls.foldl (fun e l => if x.laneOn v l then evAdd e 0 else e) 0 = 0 := by
    intro ls
    induction ls with
    | nil => rfl
    | cons l ls ih =>
      have hstep : (if x.laneOn v l then evAdd 0 0 else 0) = 0 := by split <;> rfl
      rw [List.foldl_cons, hstep, ih]
  exact h _

/-- The value and the events of lane `l` of a lanewise function on the lane's operands `VA`, `VB` and old `VD`. -/
def laneResult (x : Tile) (v : VecSlot) (f : Nat → Word → Word → Word → Word × Nat) (l : Nat) : Word × Nat :=
  f l (x.vreg v.va.toNat l) (x.vreg v.vb.toNat l) (x.vreg v.vd.toNat l)

theorem vecMap_effect (s : State) (t : Nat) (v : VecSlot) (f : Nat → Word → Word → Word → Word × Nat) :
    ∃ w, s.vecMap t v f = w.arith t (laneEvents (s.tile t) v (fun l => (laneResult (s.tile t) v f l).2))
      ∧ vregsAre t s w (fun r l => if r = v.vd.toNat ∧ (s.tile t).laneOn v l = true then (laneResult (s.tile t) v f l).1
          else (s.tile t).vreg r l) :=
  ⟨_, rfl, vregsAre_setTile (writeLanes_frame _ _ _ _) (fun r _ hl => writeLanes_vreg _ _ _ _ r hl)⟩

/-- A command that maps a function without events over its lanes is lanewise. -/
theorem lanewise_of_exec {op : Fin 1024 → VecSlot → Instr}
    {f : State → Fin 1024 → VecSlot → Nat → Word → Word → Word → Word}
    (h : ∀ t v s, exec (op t v) s = .next (s.vecMap t v (fun l a b d => (f s t v l a b d, 0)))) : lanewise op f := by
  intro t v s
  obtain ⟨w, hw, hframe, htile, hlanes⟩ := vecMap_effect s t v (fun l a b d => (f s t v l a b d, 0))
  have hev : laneEvents (s.tile t) v (fun l => (laneResult (s.tile t) v (fun l a b d => (f s t v l a b d, 0)) l).2) = 0 :=
    laneEvents_zero _ _
  rw [hev, arith_zero] at hw
  refine ⟨w, (h t v s).trans (congrArg _ hw), hframe, htile, fun r l hl => (hlanes r l hl).trans ?_⟩
  exact ite_congr (propext (and_congr Iff.rfl (laneOn_iff _ v l))) (fun _ => rfl) (fun _ => rfl)

/-! ### FP32 comparison, minimum and maximum (R44, R567) -/

theorem getLsbD_31_iff (a : Word) : a.getLsbD 31 = true ↔ a.toNat / 2 ^ 31 = 1 := by
  have ha := a.isLt
  rw [BitVec.getLsbD, Nat.testBit_eq_decide_div_mod_eq, decide_eq_true_iff]
  omega

/-- The order of R567 is the order of the values, and −0 below +0 among equal ones. -/
theorem totalKey_le_iff {a b : Word} (hne : a ≠ b) :
    totalKey a ≤ totalKey b ↔ orderKey a < orderKey b ∨ (orderKey a = orderKey b ∧ a.getLsbD 31 = true) := by
  have ha := a.isLt
  have hb := b.isLt
  have hne' : a.toNat ≠ b.toNat := fun h => hne (BitVec.eq_of_toNat_eq h)
  have hza : a = 0 ↔ a.toNat = 0 := BitVec.toNat_inj.symm
  have hzb : b = 0 ↔ b.toNat = 0 := BitVec.toNat_inj.symm
  rw [getLsbD_31_iff]
  simp only [totalKey, orderKey, hza, hzb]
  omega

theorem flt_iff {a b : Word} (ha : ofFP32 a ≠ .nan) (hb : ofFP32 b ≠ .nan) : flt a b = true ↔ orderKey a < orderKey b := by
  simp [flt, isNan32, ha, hb]

theorem feq_iff {a b : Word} (ha : ofFP32 a ≠ .nan) (hb : ofFP32 b ≠ .nan) : feq a b = true ↔ orderKey a = orderKey b := by
  simp [feq, isNan32, ha, hb]

theorem fmin_eq (a b : Word) : fmin a b =
    if ofFP32 a = .nan ∨ ofFP32 b = .nan then 0x7FC00000
    else if flt a b = true ∨ (feq a b = true ∧ a.getLsbD 31 = true) then a else b := by
  by_cases hnan : ofFP32 a = .nan ∨ ofFP32 b = .nan
  · simp [fmin, isNan32, hnan, nan32]
  · obtain ⟨ha, hb⟩ := not_or.mp hnan
    by_cases hab : a = b
    · simp [fmin, isNan32, hab, hb]
    · simp [fmin, isNan32, ha, hb, totalKey_le_iff hab, flt_iff ha hb, feq_iff ha hb]

theorem fmax_eq (a b : Word) : fmax a b =
    if ofFP32 a = .nan ∨ ofFP32 b = .nan then 0x7FC00000
    else if flt b a = true ∨ (feq a b = true ∧ b.getLsbD 31 = true) then a else b := by
  by_cases hnan : ofFP32 a = .nan ∨ ofFP32 b = .nan
  · simp [fmax, isNan32, hnan, nan32]
  · obtain ⟨ha, hb⟩ := not_or.mp hnan
    by_cases hab : a = b
    · simp [fmax, isNan32, hab, hb]
    · simp [fmax, isNan32, ha, hb, totalKey_le_iff (Ne.symm hab), flt_iff hb ha, feq_iff ha hb, eq_comm (a := orderKey a)]

theorem fabs_eq (a : Word) : fabs a = if ofFP32 a = .nan then 0x7FC00000 else a &&& 0x7FFFFFFF := by
  simp [fabs, isNan32, nan32]

theorem fneg_eq (a : Word) : fneg a = if ofFP32 a = .nan then 0x7FC00000 else a ^^^ 0x80000000 := by
  simp [fneg, isNan32, nan32]

/-- Settles O12: each command maps its FP32 function over the lanes; the minimum and maximum by the order of R567. -/
theorem vectorFloatLanes : Obligations.VectorFloatLanes := by
  unfold Obligations.VectorFloatLanes
  simp only [← fmin_eq, ← fmax_eq, ← fabs_eq, ← fneg_eq]
  refine ⟨?fadd, ?fsub, ?fmul, ?ffma, ?fdiv, ?fsqrt, ?fmin, ?fmax, ?fabs, ?fneg⟩ <;>
    exact lanewise_of_exec fun _ _ _ => rfl

/-! ### Conversion numbers (R67) -/

/-- Counting a conversion changes the run of the tile's schedule alone. -/
theorem nextConv_tile (s : State) (t : Nat) (on : Bool) :
    ∃ run, (s.nextConv t on).2.tile t = { s.tile t with run := run } := by
  cases on
  · exact ⟨(s.tile t).run, rfl⟩
  · refine ⟨{ (s.tile t).run with conv := (s.tile t).run.conv + 1 }, ?_⟩
    simp only [State.nextConv, if_true, onTile_tile_same]

@[simp] theorem nextConv_vreg (s : State) (t : Nat) (on : Bool) (r l : Nat) :
    ((s.nextConv t on).2.tile t).vreg r l = (s.tile t).vreg r l := by
  obtain ⟨run, h⟩ := nextConv_tile s t on
  rw [h]; rfl

@[simp] theorem nextConv_laneOn (s : State) (t : Nat) (on : Bool) (v : VecSlot) (l : Nat) :
    ((s.nextConv t on).2.tile t).laneOn v l = (s.tile t).laneOn v l := by
  obtain ⟨run, h⟩ := nextConv_tile s t on
  rw [h]; rfl

@[simp] theorem nextConv_lanes (s : State) (t : Nat) (on : Bool) (r : Nat) :
    ((s.nextConv t on).2.tile t).lanes r = (s.tile t).lanes r := by
  simp [Tile.lanes]

/-! ### Conversions into a format (R61, R64, R66, R568) -/

/-- Code and events of lane `l` of `VA`, an INT32 where `VB` is 1 and an FP32 elsewhere, converted into a format. -/
def cvtCode (s : State) (t : Nat) (v : VecSlot) (fmt : Nat) (tern : Bool) (l : Nat) : Nat × Nat :=
  let sr := v.vsr && stochFmt fmt
  let c := s.nextConv t sr
  encodeElem fmt tern (if sr then .stochastic (c.2.draw t c.1 l) else .nearest)
    (if v.vb = 1 then intVal ((s.tile t).vreg v.va.toNat l).toInt else ofFP32 ((s.tile t).vreg v.va.toNat l))

section
variable (s : State) (t : Nat) (v : VecSlot) {fmt : Nat} (tern : Bool)

theorem cvtTo_wide (hw : fmtWidth fmt = 32) : s.cvtTo t v fmt tern =
    (s.nextConv t (v.vsr && stochFmt fmt)).2.vecMap t v
      (fun l _ _ _ => (BitVec.ofNat 32 (cvtCode s t v fmt tern l).1, (cvtCode s t v fmt tern l).2)) := by
  unfold State.cvtTo
  simp only [if_pos hw, nextConv_vreg]
  rfl

theorem cvtTo_packed (hw : fmtWidth fmt ≠ 32) : s.cvtTo t v fmt tern =
    let u := (s.nextConv t (v.vsr && stochFmt fmt)).2
    (u.setTile t ((u.tile t).setVbits v.vd.toNat
        (packElems (fmtWidth fmt) ((List.range 64).map (fun l => (cvtCode s t v fmt tern l).1))))).arith t
      ((List.range 64).foldl (fun e l => evAdd e (cvtCode s t v fmt tern l).2) 0) := by
  unfold State.cvtTo
  simp only [if_neg hw, nextConv_vreg, List.map_map, List.foldl_map]
  rfl

theorem cvtTo_wide_effect (hw : fmtWidth fmt = 32) :
    ∃ w, s.cvtTo t v fmt tern = w.arith t (laneEvents (s.tile t) v (fun l => (cvtCode s t v fmt tern l).2))
      ∧ vregsAre t (s.nextConv t (v.vsr && stochFmt fmt)).2 w (fun r l =>
          if r = v.vd.toNat ∧ (s.tile t).laneOn v l = true then BitVec.ofNat 32 (cvtCode s t v fmt tern l).1
          else (s.tile t).vreg r l) := by
  rw [cvtTo_wide s t v tern hw]
  simpa only [laneEvents, laneResult, nextConv_laneOn, nextConv_vreg] using
    vecMap_effect (s.nextConv t (v.vsr && stochFmt fmt)).2 t v
      (fun l _ _ _ => (BitVec.ofNat 32 (cvtCode s t v fmt tern l).1, (cvtCode s t v fmt tern l).2))

theorem cvtTo_packed_effect (hw : fmtWidth fmt ≠ 32) :
    ∃ w, s.cvtTo t v fmt tern
        = w.arith t ((List.range 64).foldl (fun e l => evAdd e (cvtCode s t v fmt tern l).2) 0)
      ∧ vregsAre t (s.nextConv t (v.vsr && stochFmt fmt)).2 w (fun r l => if r = v.vd.toNat then
          BitVec.ofNat 32 (packElems (fmtWidth fmt) ((List.range 64).map (fun i => (cvtCode s t v fmt tern i).1)) / 2 ^ (32 * l))
          else (s.tile t).vreg r l) := by
  refine ⟨_, cvtTo_packed s t v tern hw, vregsAre_setTile (setVbits_frame _ _ _) (fun r l hl => ?_)⟩
  rw [setVbits_vreg _ _ _ _ hl, nextConv_vreg]
end

theorem exec_cvtTo (tern : Bool) (t : Fin 1024) (v : VecSlot) (s : State) :
    exec (if tern then .cvtToT t v else .cvtTo t v) s
      = .next (s.cvtTo t v (if tern then 11 else v.fmt.toNat) tern) := by
  cases tern <;> rfl

/-! ### Conversions from a format (R61, R64, R568) -/

/-- The value and the events of lane `l` of `VA`, which holds `a`, read as an element of a format. -/
def cvtElem (x : Tile) (v : VecSlot) (fmt : Nat) (tern : Bool) (l : Nat) (a : Word) : FVal × Nat :=
  decodeElem fmt tern (if fmtWidth fmt = 32 then a.toNat else packedElem (fmtWidth fmt) (x.vbits v.va.toNat) l)

/-- A value as the result kind of `VB` gives it: INT32 where `VB` is 1, FP32 elsewhere. -/
def cvtResult (v : VecSlot) (e : FVal) : Word :=
  if v.vb = 1 then (match roundInt e with | .inl (some z) => BitVec.ofInt 32 z | _ => 0) else toFP32 e

theorem cvtFrom_eq_vecMap (s : State) (t : Nat) (v : VecSlot) (fmt : Nat) (tern : Bool) :
    s.cvtFrom t v fmt tern = s.vecMap t v (fun l a _ _ =>
      (cvtResult v (cvtElem (s.tile t) v fmt tern l a).1, (cvtElem (s.tile t) v fmt tern l a).2)) := by
  unfold State.cvtFrom
  refine congrArg (s.vecMap t v) (funext fun l => funext fun a => funext fun _ => funext fun _ => ?_)
  unfold cvtResult cvtElem
  generalize decodeElem _ _ _ = e
  obtain ⟨val, ev⟩ := e
  dsimp only
  split
  · rcases roundInt val with (_ | z) | neg <;> rfl
  · rfl

theorem exec_cvtFrom (tern : Bool) (t : Fin 1024) (v : VecSlot) (s : State) :
    exec (if tern then .cvtFromT t v else .cvtFrom t v) s
      = .next (s.cvtFrom t v (if tern then 11 else v.fmt.toNat) tern) := by
  cases tern <;> rfl

/-! ### Block quantisation (R51, R568) -/

/-- A block's scale code is 0xFF or its exponent, which is at most 127, plus 127 (R51). -/
theorem quantBlock_scale_lt (fmt : Nat) (rd : Nat → Rounding) (xs : List Word) : (quantBlock fmt rd xs).1 < 2 ^ 32 := by
  unfold quantBlock
  dsimp only
  split
  · exact (by decide : 255 < 2 ^ 32)
  · dsimp only
    refine Nat.lt_of_le_of_lt (Int.toNat_le_toNat (m := 254) (Int.add_le_of_le_sub_right ?_)) (by decide)
    refine List.foldlRecOn (motive := fun x : Int => x ≤ 254 - 127) _ _ (by decide) (fun acc hacc v _ => ?_)
    split
    · split
      · exact hacc
      · omega
    · exact hacc

/-- Two scales below 2^32 written as one register stand in its lanes 0 and 1. -/
theorem scalePair_lane {q0 q1 : Nat} (h0 : q0 < 2 ^ 32) (h1 : q1 < 2 ^ 32) (l : Nat) :
    BitVec.ofNat 32 ((q0 + 2 ^ 32 * q1) / 2 ^ (32 * l))
      = if l = 0 then BitVec.ofNat 32 q0 else if l = 1 then BitVec.ofNat 32 q1 else 0 := by
  apply BitVec.eq_of_toNat_eq
  match l with
  | 0 => simp
  | 1 => simp; omega
  | l + 2 =>
    have hpow : 2 ^ 64 ≤ 2 ^ (32 * (l + 2)) := Nat.pow_le_pow_right (by decide) (by omega)
    have hsum : q0 + 2 ^ 32 * q1 < 2 ^ 64 := by omega
    rw [Nat.div_eq_of_lt (Nat.lt_of_lt_of_le hsum hpow)]
    rfl

/-- The quantised block `b` of the 64 lanes of `VA`. -/
def qblkBlock (s : State) (t : Nat) (v : VecSlot) (b : Nat) : Nat × List Nat × Nat :=
  let sr := v.vsr && stochFmt v.fmt.toNat
  let c := s.nextConv t sr
  quantBlock v.fmt.toNat (fun i => if sr then .stochastic (c.2.draw t c.1 (32 * b + i)) else .nearest)
    ((((s.tile t).lanes v.va.toNat).drop (32 * b)).take 32)

theorem qblkBlock_scale_lt (s : State) (t : Nat) (v : VecSlot) (b : Nat) : (qblkBlock s t v b).1 < 2 ^ 32 :=
  quantBlock_scale_lt _ _ _

theorem qblk_eq (s : State) (t : Nat) (v : VecSlot) : s.qblk t v =
    let u := (s.nextConv t (v.vsr && stochFmt v.fmt.toNat)).2
    let q0 := qblkBlock s t v 0
    let q1 := qblkBlock s t v 1
    (u.setTile t (((u.tile t).setVbits v.vd.toNat (packElems (fmtWidth v.fmt.toNat) (q0.2.1 ++ q1.2.1))).setVbits v.vb.toNat
      (q0.1 + 2 ^ 32 * q1.1))).arith t (evAdd q0.2.2 q1.2.2) := by
  have hrest : (((s.tile t).lanes v.va.toNat).drop 32).take 32 = ((s.tile t).lanes v.va.toNat).drop 32 :=
    List.take_of_length_le (by simp [Tile.lanes])
  unfold State.qblk qblkBlock
  simp only [nextConv_lanes, Nat.mul_zero, Nat.mul_one, List.drop_zero, hrest]

theorem qblk_effect (s : State) (t : Nat) (v : VecSlot) :
    let q0 := qblkBlock s t v 0
    let q1 := qblkBlock s t v 1
    ∃ w, s.qblk t v = w.arith t (evAdd q0.2.2 q1.2.2)
      ∧ vregsAre t (s.nextConv t (v.vsr && stochFmt v.fmt.toNat)).2 w (fun r l =>
          if r = v.vb.toNat then (if l = 0 then BitVec.ofNat 32 q0.1 else if l = 1 then BitVec.ofNat 32 q1.1 else 0)
          else if r = v.vd.toNat then
            BitVec.ofNat 32 (packElems (fmtWidth v.fmt.toNat) (q0.2.1 ++ q1.2.1) / 2 ^ (32 * l))
          else (s.tile t).vreg r l) := by
  refine ⟨_, qblk_eq s t v,
    vregsAre_setTile (vregsOnly_trans (setVbits_frame _ _ _) (setVbits_frame _ _ _)) (fun r l hl => ?_)⟩
  rw [setVbits_vreg _ _ _ _ hl, setVbits_vreg _ _ _ _ hl, nextConv_vreg,
    scalePair_lane (qblkBlock_scale_lt s t v 0) (qblkBlock_scale_lt s t v 1)]

/-- Settles O15: PERM, ACCRD and DQBLK map a function over the lanes; the conversions and QBLK by their effects on the state in
which the conversion is counted. -/
theorem vectorConversions : Obligations.VectorConversions := by
  unfold Obligations.VectorConversions
  refine ⟨lanewise_of_exec fun _ _ _ => rfl, lanewise_of_exec fun _ _ _ => rfl, lanewise_of_exec fun _ _ _ => rfl,
    fun tern t v s => ?cvtTo, fun tern t v s => ?cvtFrom, fun t v s => ?qblk⟩
  case cvtTo =>
    refine ⟨_, exec_cvtTo tern t v s, ?_⟩
    by_cases hw : fmtWidth (if tern then 11 else v.fmt.toNat) = 32
    · obtain ⟨w, hw', hframe, htile, hlanes⟩ := cvtTo_wide_effect s t v tern hw
      exact ⟨w, hframe, htile, fun _ => ⟨hw', hlanes⟩, fun h => absurd hw h⟩
    · obtain ⟨w, hw', hframe, htile, hlanes⟩ := cvtTo_packed_effect s t v tern hw
      exact ⟨w, hframe, htile, fun h => absurd h hw, fun _ => ⟨hw', hlanes⟩⟩
  case cvtFrom =>
    refine ⟨_, exec_cvtFrom tern t v s, ?_⟩
    rw [cvtFrom_eq_vecMap]
    exact vecMap_effect s t v _
  case qblk => exact ⟨_, rfl, qblk_effect s t v⟩

/-! ### Clean scratchpad rows (R88, R90, R504) -/

theorem classify_zero : classify 0 = .clean := rfl

theorem readWord_of_clean {m : Memory} {w : Nat} (h : m.synAt w = 0) : m.readWord w = ⟨m.bytes (16 * w) 16, false⟩ := by
  simp only [Memory.readWord, h, classify_zero]

theorem bytes_add (m : Memory) (a n k : Nat) : m.bytes a (n + k) = m.bytes a n ++ m.bytes (a + n) k := by
  simp [Memory.bytes, mapRange, List.range_add, Nat.add_assoc]

section
variable {m : Memory} {w n : Nat} (hclean : ∀ i, i < n → m.synAt (w + i) = 0)
include hclean

/-- The data of clean words is the bytes stored. -/
theorem wordsData_readWords_of_clean : wordsData (m.readWords w n) = m.bytes (16 * w) (16 * n) := by
  induction n with
  | zero => rfl
  | succ n ih =>
    have hprev := ih fun i hi => hclean i (by omega)
    have hlast := readWord_of_clean (hclean n (by omega))
    rw [wordsData, Memory.readWords] at hprev ⊢
    rw [List.range_succ, List.map_append, List.flatMap_append, hprev, Nat.mul_succ, bytes_add]
    simp [hlast, Nat.mul_add]

theorem corrected_of_clean : m.corrected w n = 0 := by
  unfold Memory.corrected
  rw [List.length_eq_zero_iff, List.filter_eq_nil_iff]
  intro i hi
  rw [hclean i (List.mem_range.mp hi), classify_zero]
  simp

theorem marked_of_clean : (m.readWords w n).filter (fun c => c.marked) = [] := by
  rw [List.filter_eq_nil_iff]
  intro c hc
  obtain ⟨i, hi, rfl⟩ := List.mem_map.mp hc
  rw [readWord_of_clean (hclean i (List.mem_range.mp hi))]
  simp
end

theorem tileInj_of_unarmed {s : State} {t : Nat} (h : s.flag (TIL_INJECT_ARM t) = false) (point : Nat) :
    s.tileInj t point = false := by
  simp [State.tileInj, h]

theorem spadInject_of_unarmed {s : State} {t : Nat} (h : s.flag (TIL_INJECT_ARM t) = false) (w : Nat) :
    s.spadInject t w = s := by
  simp [State.spadInject, tileInj_of_unarmed h]

/-- Reading a clean row notes nothing. -/
theorem spadNote_of_clean {s : State} {t p : Nat} (h : ∀ w, w < 16 → (s.tile t).spad.synAt (16 * p + w) = 0) :
    s.spadNote t p 0 16 = s := by
  have hce : (s.tile t).spad.corrected (16 * p) 16 = 0 := corrected_of_clean h
  have hue : (s.tile t).badWords p 0 16 = 0 := by simp [Tile.badWords, marked_of_clean h]
  simp [State.spadNote, State.spadCount, hce, hue]

/-- A clean reachable row reads as its bytes and the reading changes nothing. -/
theorem readRow_of_rowClean {s : State} {t row : Nat} (h : rowClean s t row) :
    (s.readRow t row).2 = s ∧ wordsData (s.readRow t row).1 = rowBytes s t row := by
  obtain ⟨hok, harm, hsyn⟩ := h
  have hread : s.readRow t row = ((s.tile t).spad.readWords (16 * s.physRow t row) 16, s) := by
    rw [State.readRow, if_pos hok]
    simp [State.spadWords, spadInject_of_unarmed harm, spadNote_of_clean hsyn]
  have hbytes := wordsData_readWords_of_clean hsyn
  rw [← Nat.mul_assoc] at hbytes
  exact ⟨by rw [hread], by rw [hread]; exact hbytes⟩

/-! ### Activation rows (R54, R56, R80, R129) -/

/-- Recording events arms no injection. -/
theorem tileInj_arith_of_unarmed {s : State} {t : Nat} (h : s.flag (TIL_INJECT_ARM t) = false) (ev point : Nat) :
    (s.arith t ev).tileInj t point = false := by
  refine tileInj_of_unarmed ?_ point
  have hne : (TIL_INJECT_ARM t).key ∉ [(TIL_ARITH_STATUS_INT_WRAP t).key, tileStatus t] := by
    simp only [TIL_INJECT_ARM, TIL_ARITH_STATUS_INT_WRAP, tileStatus, List.mem_cons, List.not_mem_nil, or_false]
    omega
  rw [State.flag, State.get, sameRegs_arith s t ev _ hne]
  exact h

/-- The tile's context as an ACT finds it: with SWAP the shadow weights have become active. -/
def actCtx (s : State) (t : Nat) (p : PortSlot) : TileCtx := if p.swap then swapWeights (s.tile t).cx else (s.tile t).cx

theorem actCtx_wAct (s : State) (t : Nat) (p : PortSlot) :
    (actCtx s t p).wAct = if p.swap then (s.tile t).cx.wShd else (s.tile t).cx.wAct := by
  unfold actCtx
  split <;> rfl

/-- The reduction length of an ACT through a generator (R75). -/
def actLength (s : State) (t : Nat) (p : PortSlot) (r : BitVec 256) : Nat :=
  passK (fmtWidth (agFmt r).1) (fmtWidth (((actCtx s t p).wAct.forPass (agFmt r)).fmt.toNat % 32))

/-- How many activation rows a scratchpad row holds for an ACT (R129). -/
def actFit (s : State) (t : Nat) (p : PortSlot) (r : BitVec 256) : Nat :=
  256 / (if actLength s t p r * fmtWidth (agFmt r).1 / 8 ≤ 64 then 64 else 128)

/-- The row of the scale array that holds the scales of an ACT's operand row (R48; log entry 14). -/
def actScaleRow (s : State) (t : Nat) (p : PortSlot) (r : BitVec 256) : Nat :=
  p.row.toNat * actFit s t p r * (actLength s t p r / 32) / 256

/-- The context after an ACT from scratchpad row `row`, and the events of its activation rows. -/
def actResult (s : State) (t : Nat) (p : PortSlot) (r : BitVec 256) (row : Nat) : TileCtx × Nat :=
  actRows r p (bytesToNat (rowBytes s t row)) (s.scaleRow t r (actScaleRow s t p r)).1
    { actCtx s t p with staging := stageRow (actCtx s t p).staging (rowBytes s t row) }
    (min (p.nr.toNat + 1) (actFit s t p r))

theorem portAct_of_clean {s : State} {t : Nat} {p : PortSlot} {r : BitVec 256} {row : Nat}
    (hag : (s.tile t).agOf p = some r) (hrow : (s.tile t).portRow p r = (row : Int)) (hclean : rowClean s t row)
    (hscale : (s.scaleRow t r (actScaleRow s t p r)).2 = s) :
    s.portAct t p = (s.setTile t { s.tile t with cx := (actResult s t p r row).1 }).arith t (actResult s t p r row).2 := by
  obtain ⟨hstate, hdata⟩ := readRow_of_rowClean hclean
  obtain ⟨-, harm, -⟩ := hclean
  have hinj : ∀ x ev, ((s.setTile t x).arith t ev).tileInj t 2 = false := fun x ev =>
    tileInj_arith_of_unarmed ((flag_setTile s t x _).trans harm) ev 2
  unfold actScaleRow actFit actLength at hscale
  unfold State.portAct
  simp only [hag, hrow, hstate, hdata, rowBits, ← actCtx_wAct, hscale, hinj, Bool.false_eq_true, if_false]
  rfl

theorem exec_act (t : Fin 1024) (p : PortSlot) (s : State) : exec (.act t p) s = .next (s.portAct t p) := rfl

/-- Settles O18: a clean row reads as its bytes and changes nothing, so that an ACT is the accumulation of its rows. Which scale
row is read and how it is indexed, that rows past 63 are left out, and a SWAP whatever is loaded are the model's choices (log
entries 14, 37 and 16). -/
theorem activationRows : Obligations.ActivationRows := by
  unfold Obligations.ActivationRows
  intro t p s r row hag hrow hclean bytes cx fa kk fit sc hscale res
  have hact : exec (.act t p) s = .next ((s.setTile t { s.tile t with cx := res.1 }).arith t res.2) :=
    (exec_act t p s).trans (congrArg _ (portAct_of_clean hag hrow hclean hscale))
  refine ⟨_, hact, rfl, ?_, fun i hi => ?_, ?_, sameRegs_arith _ _ _, ?_⟩
  · rw [arith_tile, setTile_tile_same]
  · rw [arith_tile, setTile_tile_ne s hi]
  · rw [arith_mem, setTile_mem]
  · rw [arith_ctrs, setTile_ctrs]

end Sys2Proof.NumberFormats
end
